-- ==== Sys2Proof/Word.lean ====
section
/-! DEFINITION. The word types: bytes of the two serial lines, 16-bit checks, and the masks the spec carries as bits. -/

namespace Sys2Proof

/-- One byte of a frame, a record or a port exchange. -/
abbrev Byte := BitVec 8

/-- A 16-bit number or check, sent high byte first (11, opening paragraph). -/
abbrev Half := BitVec 16

/-- A set of yard nodes as the mask of R1 and R177: bit `n` stands for Y`n`; bit 0 stands for no yard node. -/
abbrev NodeSet := BitVec 128

/-- A set of stations as the mask of R179, field 3: bit `s` stands for station `s`. -/
abbrev StationSet := BitVec 64

/-- A set of the five fault causes, with the bits of R178: 0 TRAVEL_FAIL, 1 OBJECT_FAULTY, 2 LINK_SILENT,
3 ADDRESS_CONFLICT, 4 CONFIG_INVALID. -/
abbrev CauseSet := BitVec 5

end Sys2Proof
end

