-- ==== Sys2Proof/Syntax.lean ====
section
/-! DEFINITION. The commands: one constructor of `Instr` for each row of spec/opcode_table.json, and the types of their operands. -/

namespace Sys2Proof

/-- The direction of an operation or of a drive output (R4, R121): OPEN or CLOSE. -/
inductive Direction where
  | toOpen
  | toClose
  deriving DecidableEq, Repr

/-- The twenty single inputs of the kiosk (R28). -/
inductive SingleInput where
  | selector
  | bypassKey
  | synchroPermit
  | faultReset
  /-- The local push of a slot in a direction. -/
  | localPush (slot : Nat) (dir : Direction)
  deriving DecidableEq, Repr

/-- The two analog measurements (R33). -/
inductive Measure where
  | supply
  | temperature
  deriving DecidableEq, Repr

/-- One reading of an analog input (R33): the input found open, or a value in thousandths of a volt or of a
degree Celsius, before it is rounded to the measurement's unit. -/
inductive Reading where
  | inputOpen
  | value (milli : Int)
  deriving DecidableEq, Repr

/-- The level of the yard line in one half-bit (R40). -/
inductive Level where
  | dominant
  | recessive
  deriving DecidableEq, Repr

/-- The three mark bytes of the yard line (R41, R176). -/
inductive LineMark where
  | start
  | normal
  | final
  deriving DecidableEq, Repr

/-- One byte time of the yard line: a data byte or a mark byte (R41). -/
inductive LineSym where
  | data (b : Byte)
  | mark (m : LineMark)
  deriving DecidableEq, Repr

/-- Where a header stands on the line (R51 to R53): after the line has been idle, in the stretch of busy line of the start
mark before it, or in the node's own transmission. -/
inductive HeaderOrigin where
  | afterIdle
  | sameStretch
  | ownTransmission
  deriving DecidableEq, Repr

/-- A header as the receiver hears it (R51): where it stands, and the line's symbols after its start mark, six when it
arrived whole, fewer when the line went idle. -/
structure HeardHeader where
  origin : HeaderOrigin
  syms   : List LineSym
  deriving DecidableEq, Repr

/-- The commands of the block, one for each row of spec/opcode_table.json, in the table's order. -/
inductive Instr where
  | powerOn
  | supplyDip
  | resetLine
  | selfTestEnd
  | listenExpiry
  | announceExpiry
  /-- The auxiliary contacts of a slot as they now stand, each closed (`true`) or open. -/
  | rawCombinationChange (slot : Nat) (openContact closedContact : Bool)
  | qualificationEvent (slot : Nat)
  | intermediateLimitExpiry (slot : Nat)
  /-- The mechanism-ready contact of a slot as it now stands. -/
  | readyInputChange (slot : Nat) (contact : Bool)
  | readyQualification (slot : Nat)
  /-- The presence and healthy contacts of a sensor as they now stand. -/
  | sensorInputChange (sensor : Nat) (presence healthy : Bool)
  | sensorQualification (sensor : Nat)
  /-- The contact of a single input as it now stands. -/
  | singleInputChange (input : SingleInput) (contact : Bool)
  | singleInputQualification (input : SingleInput)
  | measurementReading (which : Measure) (reading : Reading)
  | measurementStateChange (which : Measure)
  | localRequest
  | selectorChange
  | positionChangeTaken
  /-- `idle` is how many bit times the line has been idle (R47). -/
  | attemptStart (idle : Nat)
  /-- The level read back in one half-bit of the attempt on the line, counted from 0 (R48). -/
  | collision (halfBit : Nat) (read : Level)
  | frameSent
  | headerReceived (heard : HeardHeader)
  /-- The line's symbols after a passed header until the line went idle (R54). -/
  | frameEnd (syms : List LineSym)
  | statusTakenByView
  | statusClaimPart
  | releaseTakenByView
  | releaseTakenByClaims
  | claim
  | assent
  | object
  | request
  | check
  | cancel
  | viewChange
  | heartbeatExpiry
  | ageingDeadline (station : Nat)
  | silenceTimerExpiry
  | windowExpiry
  | holdExpiry (station : Nat)
  | deferExpiry
  | departureExpiry
  | travelExpiry
  | coilPulseExpiry
  | settleExpiry
  /-- The bytes that arrive at the port, of the frame that carries the command (R170, R180); so for each command below. -/
  | readIdentity (bytes : List Byte)
  | readConfig (bytes : List Byte)
  | writeConfig (bytes : List Byte)
  | eraseConfig (bytes : List Byte)
  | readView (bytes : List Byte)
  | readObject (bytes : List Byte)
  | readClaims (bytes : List Byte)
  | readCounters (bytes : List Byte)
  | clearCounters (bytes : List Byte)
  | restart (bytes : List Byte)
  /-- A code that is none of the ten, and the bytes that arrive of the frame that carries it (R170). -/
  | unknownCommand (code : Byte) (bytes : List Byte)
  | portByteTimeout
  | responseSent
  /-- The bytes of a frame whose check fails. -/
  | portFrameCheckFailed (bytes : List Byte)
  | portCharacterError
  /-- The bytes of a frame up to an argument length that exceeds 125. -/
  | portArgumentLengthExceeded (bytes : List Byte)
  deriving DecidableEq, Repr

end Sys2Proof
end

