-- ==== Sys2Proof/Config.lean ====
section
/-! DEFINITION. What the part fixes (times and identity the spec states as constants) and the free values, which the spec leaves open. -/

namespace Sys2Proof.Config

/-- The vendor code (R7). -/
def vendorCode : Nat := 2317
/-- The part code (R7). -/
def partCode : Nat := 418
/-- The revision (R7). -/
def revision : Nat := 3
/-- The listen timer, in ms (R161, R164). -/
def listenTime : Nat := 6000
/-- The announce timer for each unit of the station address, in ms (R161, R165). -/
def announceStep : Nat := 20
/-- The qualification time of single inputs and measurements while no record is in force, in ms (R28, R33). -/
def defaultQualificationTime : Nat := 200
/-- The margin of the hold limit, in ms (R99). -/
def holdMargin : Nat := 2000
/-- The attempts after which a frame is abandoned (R49). -/
def attemptLimit : Nat := 8
/-- The places of the urgent outbound queue (R44). -/
def urgentPlaces : Nat := 8
/-- The places of the inbound queue (R56). -/
def inboundPlaces : Nat := 6
/-- The rounds of a claim (R97, R104). -/
def lastRound : Nat := 3
/-- The largest value of a counter (R59, R119, R140). -/
def counterMax : Nat := 65535
/-- The longest time between two bytes of one frame of the port, in ms (R170). -/
def portByteGap : Nat := 20
/-- The bytes of a configuration record (R179), which are the longest arguments of a port command (R170, R180). -/
def recordLength : Nat := 125

/-- FREE VALUE. The access number k that the node chooses at its `n`th choice, 0 to 15 (R47): "it may choose any
value in that range" (log 2). -/
opaque backoff : Nat → BitVec 4

/-- FREE VALUE. Whether an in-range reading that lies between two whole units is rounded up (R33 gives no direction). -/
opaque readingRoundsUp : Measure → Int → Bool

/-- FREE VALUE. Whether a time to hold expiry that lies between two 10 ms units is sent rounded up (R180 gives no
direction). -/
opaque remainderRoundsUp : Nat → Bool

/-- FREE VALUE. The supply bytes READ_OBJECT sends while the measurement is in FAULT (R180 states none), from the held
reading. -/
opaque faultSupplyValue : Int → BitVec 16

/-- FREE VALUE. The temperature byte READ_OBJECT sends while the measurement is in FAULT (R180 states none), from the
held reading. -/
opaque faultTemperatureValue : Int → BitVec 8

end Sys2Proof.Config
end

