-- ==== Sys2Proof/Machine/State.lean ====
section
/-! DEFINITION. The state of the node: every register, queue, flag, timer and pin the spec gives each block, as plain
data, with `State.reset`. Timers are stopped (`none`) or hold the time at which they expire, in ms of `now` (log 1). -/

namespace Sys2Proof.Machine

/-- Why the node would stop with a fault. The spec leaves no command of the table without an effect, so there is no
fault: the type is closed and empty (safe: nothing raises it). -/
inductive Fault where
  deriving DecidableEq, Repr

/-- Why a command has no meaning. -/
inductive Refusal where
  /-- A command whose arm of `exec` has no meaning yet. Raised by `exec` alone, and by no arm of it now (safe). -/
  | notModelled (mnemonic : String)
  deriving DecidableEq, Repr

/-- A table keyed by slot, sensor or station: pairs with strictly rising keys. -/
abbrev Table (α : Type) := List (Nat × α)

/-! ### Names of the spec -/

/-- The phases (R161). -/
inductive Phase where
  | unconfigured
  | selfTest
  | listen
  | announce
  | ready
  | silent
  deriving DecidableEq, Repr

/-- The reset causes (R161, R162). -/
inductive ResetCause where
  | powerOn
  | supplyDip
  | resetLine
  | portRestart
  deriving DecidableEq, Repr

/-- The two raw indications of an object, the open side first (R18). -/
inductive Comb where
  | c00
  | c01
  | c10
  | c11
  deriving DecidableEq, Repr

/-- A qualified position (00, Positions). -/
inductive Position where
  | opened
  | closed
  | moving
  | faulty
  | unknown
  deriving DecidableEq, Repr

/-- A voltage indication (00, Voltage indications). -/
inductive Indication where
  | present
  | absent
  | unknown
  deriving DecidableEq, Repr

/-- The qualified state of a mechanism-ready input (R26). -/
inductive ReadyState where
  | unknown
  | ready
  | notReady
  deriving DecidableEq, Repr

/-- The qualified selector (R29). -/
inductive Selector where
  | unknown
  | localMode
  | remoteMode
  deriving DecidableEq, Repr

/-- The qualified bypass key (R30). -/
inductive BypassKey where
  | unknown
  | off
  | on
  deriving DecidableEq, Repr

/-- The kinds of object (R4). -/
inductive Kind where
  | cb
  | ds
  | es
  deriving DecidableEq, Repr

/-- The drive kinds (R4). -/
inductive DriveKind where
  | motor
  | coil
  deriving DecidableEq, Repr

/-- A terminal or sensor node as a record or a STATUS writes it (R9, R178). -/
inductive Terminal where
  | yard (n : Nat)
  | localNode (k : Nat)
  | earth
  deriving DecidableEq, Repr

/-- The five fault causes (R35). -/
inductive Cause where
  | travelFail
  | objectFaulty
  | linkSilent
  | addressConflict
  | configInvalid
  deriving DecidableEq, Repr

/-- Outcomes of an operation (R121, R139). -/
inductive OpOutcome where
  | done
  | refused
  | failed
  | cancelled
  deriving DecidableEq, Repr

/-- The reasons of verdicts, deferrals and outcomes (R177). -/
inductive Reason where
  | none
  | faulty
  | moving
  | already
  | missingStation
  | bothLive
  | liveToEarth
  | noSync
  | liveNode
  | mechUnrated
  | positionChanged
  | conflict
  | foreign
  | noAnswer
  | notReady
  | scope
  | linkBusy
  | noDeparture
  | travelTimeout
  | contactFault
  | reversed
  | requested
  | selector
  | noObject
  | duplicateTag
  | queueFull
  deriving DecidableEq, Repr

/-- The dispositions an ACCEPT carries (R124, R136, R177). -/
inductive Disposition where
  | queued
  | selector
  | noObject
  | faulty
  | moving
  | already
  | duplicateTag
  | queueFull
  | cancelTaken
  | tooLate
  | notFound
  deriving DecidableEq, Repr

/-- Verdicts (R79, R94). -/
inductive Verdict where
  | permitted
  | permittedBypass
  | refused
  deriving DecidableEq, Repr

/-- Bases of a verdict (R94). -/
inductive Basis where
  | none
  | parallel
  | oneSideDead
  | loop
  | sync
  | noCondition
  | dead
  | bypass
  deriving DecidableEq, Repr

/-- Sources of an operation (R121). -/
inductive Source where
  | remote
  | localPanel
  deriving DecidableEq, Repr

/-- The ten frame types (R43, R177). -/
inductive FrameType where
  | status
  | claim
  | assent
  | object
  | release
  | request
  | check
  | cancel
  | accept
  | result
  deriving DecidableEq, Repr

/-! ### Configuration Store -/

/-- One object description (R4). Polarities are `true` for INVERTED. -/
structure ObjDesc where
  kind           : Kind
  term1          : Terminal
  term2          : Terminal
  base           : Nat
  openInverted   : Bool
  closedInverted : Bool
  readyInverted  : Bool
  deriving DecidableEq, Repr

/-- One sensor description (R5). -/
structure SensorDesc where
  node     : Terminal
  inverted : Bool
  deriving DecidableEq, Repr

/-- A derating profile (R10): rows 80, 90, 100, 110 %, each with the columns -40, -25, -10, +5, +20 °C; `none` is
UNRATED. -/
abbrev Profile := List (Option Nat)

/-- The record in force (R8 to R10), as values. -/
structure BayRecord where
  address       : Nat
  heartbeat     : Nat
  expected      : StationSet
  depth         : Nat
  claimWindow   : Nat
  deferInterval : Nat
  stallLimit    : Nat
  qualification : Nat
  intermediate  : Nat
  settle        : Nat
  coilPulse     : Nat
  nominal       : Nat
  faultMask     : CauseSet
  localNodes    : Nat
  objects       : List ObjDesc
  sensors       : List SensorDesc
  motorProfile  : Profile
  coilProfile   : Profile
  deriving DecidableEq, Repr

/-- The record status (R6). -/
inductive RecordStatus where
  | none
  | stored
  | inForce
  | rejected
  deriving DecidableEq, Repr

/-- A failing place: field 1 to 18 and index 0 to 8 (R12). -/
structure Place where
  field : Nat
  index : Nat
  deriving DecidableEq, Repr

/-- The Configuration Store (R6). The stored record is its 125 bytes as held. -/
structure Store where
  status  : RecordStatus
  stored  : Option (List Byte)
  failing : Option Place
  deriving DecidableEq, Repr

/-! ### Field Interface -/

/-- What the Field Interface holds of one object slot: the contact pins (`true` is closed), the moments from which the
raw combination and the raw ready state have stood, and the qualified state (R18 to R26). -/
structure ObjIn where
  openContact   : Bool := false
  closedContact : Bool := false
  readyContact  : Bool := false
  since         : Nat := 0
  readySince    : Nat := 0
  qualified     : Option Comb := none
  position      : Position := .unknown
  ready         : ReadyState := .unknown
  commanded     : Bool := false
  intermediate  : Option Nat := none
  deriving DecidableEq, Repr

/-- The raw pair of a sensor: presence indicated, and the healthy contact (R27). -/
structure RawPair where
  presence : Bool
  healthy  : Bool
  deriving DecidableEq, Repr

/-- What the Field Interface holds of one sensor (R27). -/
structure SensorIn where
  presenceContact : Bool := false
  healthyContact  : Bool := false
  since           : Nat := 0
  qualified       : Option RawPair := none
  indication      : Indication := .unknown
  deriving DecidableEq, Repr

/-- One single input (R28): its contact, the moment from which it has stood, and the qualified contact state (`none` is
UNKNOWN, `some true` is closed). -/
structure SingleIn where
  contact   : Bool := false
  since     : Nat := 0
  qualified : Option Bool := none
  deriving DecidableEq, Repr

/-- The single inputs of the kiosk (R28). -/
structure Singles where
  selector    : SingleIn
  bypassKey   : SingleIn
  synchro     : SingleIn
  faultReset  : SingleIn
  openPushes  : Table SingleIn
  closePushes : Table SingleIn
  deriving DecidableEq, Repr

/-- One measurement (R33): VALID or FAULT, the latest in-range reading in the measurement's unit, whether the readings
now standing are in range, and from when. -/
structure MeasureIn where
  valid   : Bool
  value   : Int
  inRange : Bool
  since   : Nat
  deriving DecidableEq, Repr

/-- The fault logic (R35 to R39). -/
structure Faults where
  pending : CauseSet
  holding : CauseSet
  relay   : Bool
  deriving DecidableEq, Repr

/-! ### Frames and the Yard Link Controller -/

/-- A frame as a queue holds it (R56): `final` is its data mark. -/
structure Frame where
  type  : FrameType
  src   : Nat
  dst   : Nat
  final : Bool
  body  : List Byte
  deriving DecidableEq, Repr

/-- A header that passed (R51). -/
structure Header where
  type   : FrameType
  src    : Nat
  dst    : Nat
  length : Nat
  deriving DecidableEq, Repr

/-- A frame of the urgent queue with its count of attempts (R44, R48). -/
structure UrgentItem where
  frame    : Frame
  attempts : Nat
  deriving DecidableEq, Repr

/-- An item of the normal queue: the STATUS marker (R45) or the CLAIM (R46), each with its count of attempts. -/
inductive NormalItem where
  | marker (renew final : Bool) (attempts : Nat)
  /-- `removed` is set when the removal was asked while an attempt of the CLAIM was on the line (R46). -/
  | claim (id : Byte) (frame : Frame) (attempts : Nat) (removed : Bool)
  deriving DecidableEq, Repr

/-- The class of a frame (R43). -/
inductive FrameClass where
  | urgent
  | normal
  deriving DecidableEq, Repr

/-- The current frame: the head of its class's queue, and the k chosen for its next attempt (R47). -/
structure Current where
  cls : FrameClass
  k   : Nat
  deriving DecidableEq, Repr

/-- The attempt on the line (R48): the frame driven, its line symbols, and whether it began in READY (R63). -/
structure Attempt where
  cls     : FrameClass
  frame   : Frame
  symbols : List LineSym
  inReady : Bool
  deriving DecidableEq, Repr

/-- The Yard Link Controller (03). `viewTaken` says that the View Manager has taken the inbound head (R57); `ignoring`
that the receiver ignores the rest of a stretch of busy line (R52); `halted` that a FINAL marker has ended (R50); `draws`
counts the free numbers k drawn (the model's own). -/
structure Link where
  urgent    : List UrgentItem
  normal    : List NormalItem
  inbound   : List Frame
  viewTaken : Bool
  current   : Option Current
  attempt   : Option Attempt
  header    : Option Header
  ignoring  : Bool
  halted    : Bool
  draws     : Nat
  deriving DecidableEq, Repr

/-! ### View Manager -/

/-- One published object (R60, R65); its index is its place in the list, from 1. -/
structure PubObject where
  kind     : Kind
  term1    : Terminal
  term2    : Terminal
  position : Position
  deriving DecidableEq, Repr

/-- One published sensor (R60, R65). -/
structure PubSensor where
  node       : Terminal
  indication : Indication
  deriving DecidableEq, Repr

/-- The last local result (R127). -/
structure LocalResult where
  outcome : OpOutcome
  reason  : Reason
  deriving DecidableEq, Repr

/-- The published content of a station, as an entry holds it (R65). -/
structure Content where
  phase     : Phase
  selector  : Selector
  bypass    : BypassKey
  heartbeat : Nat
  counter   : Byte
  cause     : ResetCause
  pending   : CauseSet
  lastLocal : Option LocalResult
  objects   : List PubObject
  sensors   : List PubSensor
  deriving DecidableEq, Repr

/-- The states of an entry that is not ABSENT (R65). -/
inductive EntryState where
  | fresh
  | suspect
  | stale
  deriving DecidableEq, Repr

/-- A view entry that is not ABSENT (R65). -/
structure Entry where
  state    : EntryState
  content  : Content
  lastGood : Nat
  deriving DecidableEq, Repr

/-- The View Manager (04): an unlisted station's entry is ABSENT. -/
structure View where
  entries   : Table Entry
  counter   : Byte
  joining   : Bool
  heartbeat : Option Nat
  silence   : Option Nat
  deriving DecidableEq, Repr

/-! ### Claim Manager -/

/-- The claim part of a STATUS (R97, R178). -/
structure ClaimPart where
  id         : Byte
  held       : Bool
  cls        : Nat
  deferCount : Nat
  holdLimit  : Nat
  nodes      : NodeSet
  deriving DecidableEq, Repr

/-- An own claim that is CLAIMING or HELD (R97). `round` is held only while CLAIMING, and is 0
while HELD (DESIGN CHOICE, log 20). -/
structure OwnClaim where
  held       : Bool
  id         : Byte
  round      : Nat
  cls        : Nat
  deferCount : Nat
  holdLimit  : Nat
  nodes      : NodeSet
  object     : Nat
  dir        : Direction
  source     : Source
  startPos   : Position
  deriving DecidableEq, Repr

/-- An entry of the answer table (R101). -/
inductive Answer where
  | awaiting
  | assented
  deriving DecidableEq, Repr

/-- The reason of an OBJECT (R103, R177). -/
inductive ObjectReason where
  | held
  | rank
  deriving DecidableEq, Repr

/-- A record of the foreign claim list (R114). -/
structure ForeignRec where
  id         : Byte
  nodes      : NodeSet
  cls        : Nat
  deferCount : Nat
  holdLimit  : Nat
  recorded   : Nat
  held       : Bool
  assented   : Bool
  deriving DecidableEq, Repr

/-- Why a claim ended (R120). -/
inductive EndCause where
  | reason (r : Reason)
  | operationEnded
  | notDriven
  | travelEnded
  | leaving
  | silenced
  deriving DecidableEq, Repr

/-- An OBJECT's source and its reason byte as carried (R103). -/
structure Objection where
  station : Nat
  reason  : Byte
  deriving DecidableEq, Repr

/-- The last ending (R120). -/
structure LastEnding where
  id        : Byte
  cause     : EndCause
  objection : Option Objection
  deriving DecidableEq, Repr

/-- The Claim Manager (06). -/
structure Claims where
  own           : Option OwnClaim
  answers       : Table Answer
  window        : Option Nat
  nextId        : Byte
  foreign       : Table ForeignRec
  lastObjection : Option Objection
  lastEnding    : Option LastEnding
  deriving DecidableEq, Repr

/-! ### Request Controller -/

/-- The states of an operation (R121). -/
inductive OpState where
  | queued
  | claiming
  | deferred
  | travelling
  | settling
  deriving DecidableEq, Repr

/-- An operation record (R121). Requester 0 is the local panel. -/
structure Operation where
  requester    : Nat
  tag          : Byte
  object       : Nat
  dir          : Direction
  cls          : Nat
  source       : Source
  state        : OpState
  deferCount   : Nat
  lastDeferral : Option Reason
  travelLimit  : Option Nat
  bypassReason : Option Reason
  deriving DecidableEq, Repr

/-- The Request Controller (07). -/
structure Requests where
  queue      : List Operation
  deferTimer : Option Nat
  lastLocal  : Option LocalResult
  deriving DecidableEq, Repr

/-! ### Travel Supervisor -/

/-- An ACTIVE drive record (R147). -/
structure DriveRecord where
  object     : Nat
  dir        : Direction
  kind       : DriveKind
  start      : Comb
  target     : Comb
  settling   : Bool
  energized  : Bool
  departed   : Bool
  travel     : Option Nat
  departure  : Option Nat
  coilPulse  : Option Nat
  settle     : Option Nat
  deriving DecidableEq, Repr

/-- The Travel Supervisor (08): the drive record (`none` is IDLE) and the sixteen outputs, slot `k` at bit `k - 1`. -/
structure Drive where
  record       : Option DriveRecord
  openOutputs  : BitVec 8
  closeOutputs : BitVec 8
  deriving DecidableEq, Repr

/-! ### Start-up Controller and Maintenance Port -/

/-- The command that began a departure (R161). -/
inductive Departure where
  | restart
  | erase
  deriving DecidableEq, Repr

/-- The Start-up Controller (09). -/
structure StartUp where
  phase     : Phase
  cause     : ResetCause
  listen    : Option Nat
  announce  : Option Nat
  departure : Option Departure
  deriving DecidableEq, Repr

/-- A port response (R180). -/
structure Response where
  code   : Byte
  status : Byte
  data   : List Byte
  deriving DecidableEq, Repr

/-- What the port's transmitter is sending: an owed BUSY or the outstanding command's response, as bytes. -/
structure Sending where
  busy  : Bool
  bytes : List Byte
  deriving DecidableEq, Repr

/-- The Maintenance Port (R171): the outstanding command's code (`none` is IDLE), its response once it is known, the
code an owed BUSY carries, what is being sent, and of a frame being received the bytes gathered and the moment at which the
last of them arrived (R170). -/
structure Port where
  outstanding : Option Byte
  response    : Option Response
  owedBusy    : Option Byte
  sending     : Option Sending
  gathered    : List Byte
  lastByte    : Option Nat
  deriving DecidableEq, Repr

/-! ### Counters and hand-overs -/

/-- The nine counters (R174). -/
structure Counters where
  headerErrors    : Nat
  bodyErrors      : Nat
  overruns        : Nat
  txAbandoned     : Nat
  txDropped       : Nat
  claimsGranted   : Nat
  claimsWithdrawn : Nat
  opsDone         : Nat
  opsFailed       : Nat
  deriving DecidableEq, Repr

/-- A view change report (R73): the station, and for a peer its entry's new state. -/
structure ViewReport where
  station : Nat
  state   : Option EntryState
  deriving DecidableEq, Repr

/-- What blocks have handed over and the receiving block has not yet taken, each oldest first (R24, R29, R32, R73); the
order between the four is the sender's (DESIGN CHOICE, log 14). -/
structure Handover where
  positions : List Nat
  selectors : List Selector
  locals    : List (Nat × Direction)
  views     : List ViewReport
  deriving DecidableEq, Repr

/-- The state of the node and the queue of waiting commands. `copy` is the copy of the record that the blocks read (01 1.3):
it supplies their values from entry to LISTEN until the next reset (R14). -/
structure State where
  now         : Nat
  store       : Store
  copy        : Option BayRecord
  objects     : Table ObjIn
  sensors     : Table SensorIn
  singles     : Singles
  supply      : MeasureIn
  temperature : MeasureIn
  faults      : Faults
  link        : Link
  view        : View
  claims      : Claims
  req         : Requests
  drive       : Drive
  start       : StartUp
  port        : Port
  counters    : Counters
  handover    : Handover
  pending     : List Instr
  deriving DecidableEq, Repr

/-! ### Values after reset -/

/-- The Yard Link Controller after a reset, with `n` free numbers drawn (R59). -/
def Link.empty (n : Nat) : Link :=
  { urgent := [], normal := [], inbound := [], viewTaken := false, current := none, attempt := none, header := none,
    ignoring := false, halted := false, draws := n }

/-- The View Manager after a reset (R77). -/
def View.empty : View := { entries := [], counter := 0, joining := false, heartbeat := none, silence := none }

/-- The Claim Manager after a reset (R119). -/
def Claims.empty : Claims :=
  { own := none, answers := [], window := none, nextId := 0, foreign := [], lastObjection := none, lastEnding := none }

/-- The Request Controller after a reset (R141). -/
def Requests.empty : Requests := { queue := [], deferTimer := none, lastLocal := none }

/-- The Travel Supervisor after a reset (R159). -/
def Drive.idle : Drive := { record := none, openOutputs := 0, closeOutputs := 0 }

/-- The Maintenance Port after a reset (R171). -/
def Port.idle : Port :=
  { outstanding := none, response := none, owedBusy := none, sending := none, gathered := [], lastByte := none }

/-- The fault logic at the start of a reset (R39). -/
def Faults.clear : Faults := { pending := 0, holding := 0, relay := false }

/-- The counters after POWER_ON or CLEAR_COUNTERS (R174). -/
def Counters.zero : Counters :=
  { headerErrors := 0, bodyErrors := 0, overruns := 0, txAbandoned := 0, txDropped := 0, claimsGranted := 0,
    claimsWithdrawn := 0, opsDone := 0, opsFailed := 0 }

/-- No hand-over waits. -/
def Handover.none : Handover := { positions := [], selectors := [], locals := [], views := [] }

/-- The slots 1 to `n`, each at `v`. -/
def slotTable {α : Type} (n : Nat) (v : α) : Table α := (List.range' 1 n).map fun k => (k, v)

/-- A factory-fresh part right after a POWER_ON reset begins: status NONE (R6), phase SELF_TEST (R162), every value as
the blocks' reset rules give it; contact pins open and no reading yet (DESIGN CHOICE, log 3 and log 4). -/
def State.reset : State :=
  { now := 0
    store := { status := .none, stored := none, failing := none }
    copy := none
    objects := slotTable 8 {}
    sensors := slotTable 3 {}
    singles := { selector := {}, bypassKey := {}, synchro := {}, faultReset := {},
                 openPushes := slotTable 8 {}, closePushes := slotTable 8 {} }
    supply := { valid := false, value := 0, inRange := false, since := 0 }
    temperature := { valid := false, value := 0, inRange := false, since := 0 }
    faults := Faults.clear
    link := Link.empty 0
    view := View.empty
    claims := Claims.empty
    req := Requests.empty
    drive := Drive.idle
    start := { phase := .selfTest, cause := .powerOn, listen := none, announce := none, departure := none }
    port := Port.idle
    counters := Counters.zero
    handover := Handover.none
    pending := [] }

end Sys2Proof.Machine
end

