-- ==== Sys2Proof/Machine/Bytes.lean ====
section
/-! DEFINITION. Bytes and checks: numbers high byte first, the one CRC-16 of the manual (R176), and the two masks
(R177, R179). -/

namespace Sys2Proof.Machine

/-- The byte of a number below 256. -/
def byteOf (n : Nat) : Byte := BitVec.ofNat 8 n

/-- Two bytes of a number, high byte first (11, opening paragraph). -/
def halfBytes (n : Nat) : List Byte := [byteOf (n / 256), byteOf n]

/-- The byte at an offset; 0 past the end. -/
def byteAt (l : List Byte) (i : Nat) : Byte := l.getD i 0

/-- The number at an offset. -/
def natAt (l : List Byte) (i : Nat) : Nat := (byteAt l i).toNat

/-- The two-byte number at an offset, high byte first. -/
def halfAt (l : List Byte) (i : Nat) : Nat := natAt l i * 256 + natAt l (i + 1)

/-- The `n` bytes from an offset. -/
def slice (l : List Byte) (i n : Nat) : List Byte := (l.drop i).take n

/-- A flag as the port sends it: 0 or 1 (R180). -/
def flagByte (b : Bool) : Byte := if b then 1 else 0

/-- One bit of the CRC-16 (R176, step 2). -/
def crcBit (reg : Half) (bit : Bool) : Half :=
  let shifted := reg <<< 1
  if Bool.xor reg.msb bit then shifted ^^^ 0x1021 else shifted

/-- One byte of the CRC-16, most significant bit first (R176, step 2). -/
def crcByte (reg : Half) (b : Byte) : Half :=
  [7, 6, 5, 4, 3, 2, 1, 0].foldl (fun r i => crcBit r (b.getLsbD i)) reg

/-- The CRC-16 of the manual: initial value all ones, no final inversion (R42, R176). -/
def crc16 (bytes : List Byte) : Half := bytes.foldl crcByte 0xFFFF

/-- The two check bytes, high byte first (R176, step 4). -/
def checkBytes (bytes : List Byte) : List Byte := halfBytes (crc16 bytes).toNat

/-- The least significant bit first number of a list of bytes: bit `n` is bit `n mod 8` of byte `n / 8`. -/
def maskNat : List Byte → Nat
  | [] => 0
  | b :: bs => b.toNat + 256 * maskNat bs

/-- A claim-set mask received as 16 bytes; bit 0 of byte 0 is ignored (R177). -/
def nodesOfBytes (bytes : List Byte) : NodeSet := BitVec.ofNat 128 (maskNat bytes) &&& ~~~ 1

/-- A claim-set mask as 16 bytes; bit 0 of byte 0 is sent as 0 (R177). -/
def nodeBytes (s : NodeSet) : List Byte :=
  (List.range 16).map fun i => byteOf ((s &&& ~~~ 1).toNat / 256 ^ i)

/-- The expected stations as eight bytes (R179, field 3). -/
def stationsOfBytes (bytes : List Byte) : StationSet := BitVec.ofNat 64 (maskNat bytes)

/-- Yard node `n` is a member of a set of yard nodes (R1). -/
def nodesHave (s : NodeSet) (n : Nat) : Bool := s.getLsbD n

/-- Two sets of yard nodes share a node. -/
def nodesOverlap (s t : NodeSet) : Bool := (s &&& t) != 0

/-- The set of yard nodes Y1 to Y127 that satisfy a test (R93). -/
def nodeSetOf (p : Nat → Bool) : NodeSet :=
  (List.range' 1 127).foldl (fun s n => if p n then s ||| (1 : NodeSet) <<< n else s) 0

/-- A signed number as one byte (R180). -/
def signedByte (n : Int) : Byte := BitVec.ofInt 8 n

/-- Division rounded up. -/
def ceilDiv (n d : Nat) : Nat := (n + d - 1) / d

end Sys2Proof.Machine
end

