-- ==== Sys2Proof/Machine/Codes.lean ====
section
/-! DEFINITION. The code of each name of the spec in the frames, the record and the port data (11), and the name of
each code received. -/

namespace Sys2Proof.Machine

/-- Phase codes (R178). -/
def phaseCode : Phase → Byte
  | .unconfigured => 0x00
  | .selfTest => 0x01
  | .listen => 0x02
  | .announce => 0x03
  | .ready => 0x04
  | .silent => 0x05

/-- Reset cause codes (R178). -/
def causeCode : ResetCause → Byte
  | .powerOn => 1
  | .supplyDip => 2
  | .resetLine => 3
  | .portRestart => 4

/-- The cause of a code; an unlisted code is invalid. -/
def causeOfCode (n : Nat) : Option ResetCause :=
  match n with
  | 1 => some .powerOn
  | 2 => some .supplyDip
  | 3 => some .resetLine
  | 4 => some .portRestart
  | _ => none

/-- Selector codes (R178). -/
def selectorCode : Selector → Byte
  | .unknown => 0
  | .localMode => 1
  | .remoteMode => 2

/-- The selector of a code. -/
def selectorOfCode (n : Nat) : Option Selector :=
  match n with
  | 0 => some .unknown
  | 1 => some .localMode
  | 2 => some .remoteMode
  | _ => none

/-- Bypass flag codes (R178). -/
def bypassCode : BypassKey → Byte
  | .unknown => 0
  | .off => 1
  | .on => 2

/-- The bypass flag of a code. -/
def bypassOfCode (n : Nat) : Option BypassKey :=
  match n with
  | 0 => some .unknown
  | 1 => some .off
  | 2 => some .on
  | _ => none

/-- Position codes (R177). -/
def positionCode : Position → Byte
  | .opened => 0x01
  | .closed => 0x02
  | .moving => 0x03
  | .faulty => 0x04
  | .unknown => 0x05

/-- The position of a code; NONE and unlisted codes are no position. -/
def positionOfCode (n : Nat) : Option Position :=
  match n with
  | 1 => some .opened
  | 2 => some .closed
  | 3 => some .moving
  | 4 => some .faulty
  | 5 => some .unknown
  | _ => none

/-- Indication codes (R177). -/
def indicationCode : Indication → Byte
  | .present => 0x01
  | .absent => 0x02
  | .unknown => 0x03

/-- The indication of a code. -/
def indicationOfCode (n : Nat) : Option Indication :=
  match n with
  | 1 => some .present
  | 2 => some .absent
  | 3 => some .unknown
  | _ => none

/-- Kind codes (R178, R179). -/
def kindCode : Kind → Byte
  | .cb => 1
  | .ds => 2
  | .es => 3

/-- The kind of a code. -/
def kindOfCode (n : Nat) : Option Kind :=
  match n with
  | 1 => some .cb
  | 2 => some .ds
  | 3 => some .es
  | _ => none

/-- Direction codes (R177). -/
def directionCode : Direction → Byte
  | .toOpen => 0x01
  | .toClose => 0x02

/-- The direction of a code. -/
def directionOfCode (n : Nat) : Option Direction :=
  match n with
  | 1 => some .toOpen
  | 2 => some .toClose
  | _ => none

/-- Terminal and node codes (R178). -/
def terminalCode : Terminal → Byte
  | .yard n => byteOf n
  | .localNode k => byteOf (0x80 + k)
  | .earth => 0xFF

/-- The terminal of a code: 0x01 to 0x7F yard nodes, 0x81 to 0x84 local nodes, 0xFF earth; the rest is invalid (R178). -/
def terminalOfCode (n : Nat) : Option Terminal :=
  if 1 ≤ n ∧ n ≤ 127 then some (.yard n)
  else if 129 ≤ n ∧ n ≤ 132 then some (.localNode (n - 128))
  else if n = 255 then some .earth
  else none

/-- Outcome codes (R177). -/
def outcomeCode : OpOutcome → Byte
  | .done => 0x01
  | .refused => 0x02
  | .failed => 0x03
  | .cancelled => 0x04

/-- The outcome of a code. -/
def outcomeOfCode (n : Nat) : Option OpOutcome :=
  match n with
  | 1 => some .done
  | 2 => some .refused
  | 3 => some .failed
  | 4 => some .cancelled
  | _ => none

/-- The reasons in the order of their codes 0x00 to 0x19 (R177). -/
def reasonList : List Reason :=
  [.none, .faulty, .moving, .already, .missingStation, .bothLive, .liveToEarth, .noSync, .liveNode, .mechUnrated,
   .positionChanged, .conflict, .foreign, .noAnswer, .notReady, .scope, .linkBusy, .noDeparture, .travelTimeout,
   .contactFault, .reversed, .requested, .selector, .noObject, .duplicateTag, .queueFull]

/-- Reason codes (R177). -/
def reasonCode (r : Reason) : Byte := byteOf (reasonList.findIdx (· == r))

/-- The reason of a code. -/
def reasonOfCode (n : Nat) : Option Reason := reasonList[n]?

/-- Verdict codes (R177). -/
def verdictCode : Verdict → Byte
  | .permitted => 0x11
  | .permittedBypass => 0x12
  | .refused => 0x13

/-- Basis codes (R177). -/
def basisCode : Basis → Byte
  | .none => 0x00
  | .parallel => 0x01
  | .oneSideDead => 0x02
  | .loop => 0x03
  | .sync => 0x04
  | .noCondition => 0x05
  | .dead => 0x06
  | .bypass => 0x07

/-- Disposition codes (R177). -/
def dispositionCode : Disposition → Byte
  | .queued => 0x01
  | .selector => 0x02
  | .noObject => 0x03
  | .faulty => 0x04
  | .moving => 0x05
  | .already => 0x06
  | .duplicateTag => 0x07
  | .queueFull => 0x08
  | .cancelTaken => 0x09
  | .tooLate => 0x0A
  | .notFound => 0x0B

/-- Frame type codes (R177). -/
def frameTypeCode : FrameType → Byte
  | .status => 0x01
  | .claim => 0x02
  | .assent => 0x03
  | .object => 0x04
  | .release => 0x05
  | .request => 0x11
  | .check => 0x12
  | .cancel => 0x13
  | .accept => 0x21
  | .result => 0x22

/-- The frame type of a code. -/
def frameTypeOfCode (n : Nat) : Option FrameType :=
  match n with
  | 0x01 => some .status
  | 0x02 => some .claim
  | 0x03 => some .assent
  | 0x04 => some .object
  | 0x05 => some .release
  | 0x11 => some .request
  | 0x12 => some .check
  | 0x13 => some .cancel
  | 0x21 => some .accept
  | 0x22 => some .result
  | _ => none

/-- OBJECT reason codes (R177). -/
def objectReasonCode : ObjectReason → Byte
  | .held => 0x01
  | .rank => 0x02

/-- Combination codes of the port (R180). -/
def combCode : Comb → Byte
  | .c00 => 0
  | .c01 => 1
  | .c10 => 2
  | .c11 => 3

/-- Ready state codes of the port (R180). -/
def readyCode : ReadyState → Byte
  | .unknown => 0
  | .ready => 1
  | .notReady => 2

/-- Drive kind codes of the port (R180). -/
def driveKindCode : DriveKind → Byte
  | .motor => 1
  | .coil => 2

/-- Operation state codes of the port (R180). -/
def opStateCode : OpState → Byte
  | .queued => 1
  | .claiming => 2
  | .deferred => 3
  | .travelling => 4
  | .settling => 5

/-- Operation source codes of the port (R180). -/
def sourceCode : Source → Byte
  | .remote => 1
  | .localPanel => 2

/-- Record status codes of the port (R180). -/
def recordStatusCode : RecordStatus → Byte
  | .none => 0
  | .stored => 1
  | .inForce => 2
  | .rejected => 3

/-- Entry state codes of the port (R180); ABSENT is 0. -/
def entryStateCode : EntryState → Byte
  | .fresh => 1
  | .suspect => 2
  | .stale => 3

/-- Last ending cause codes of the port (R180). -/
def endCauseCode : EndCause → Byte
  | .reason r => reasonCode r
  | .operationEnded => 0x30
  | .notDriven => 0x31
  | .travelEnded => 0x32
  | .leaving => 0x33
  | .silenced => 0x34

/-! Port command codes and response statuses (R180). -/

def codeReadIdentity : Byte := 0x01
def codeReadConfig : Byte := 0x02
def codeWriteConfig : Byte := 0x03
def codeEraseConfig : Byte := 0x04
def codeReadView : Byte := 0x05
def codeReadObject : Byte := 0x06
def codeReadClaims : Byte := 0x07
def codeReadCounters : Byte := 0x08
def codeClearCounters : Byte := 0x09
def codeRestart : Byte := 0x0A

def statusOk : Byte := 0x00
def statusAccepted : Byte := 0x01
def statusErased : Byte := 0x02
def statusRestarting : Byte := 0x03
def statusCleared : Byte := 0x04
def statusConfigured : Byte := 0x05
def statusInvalidField : Byte := 0x06
def statusBusy : Byte := 0x07
def statusNoObject : Byte := 0x08
def statusUnknownCommand : Byte := 0x09
def statusBadArgument : Byte := 0x0A

end Sys2Proof.Machine
end

