-- ==== Sys2Proof/Machine/Operands.lean ====
section
/-! DEFINITION. What the operands of commands stand for: contacts read with their polarities (R18, R27), readings rounded
to their units (R33), and the symbols and half-bit levels of the yard line (R40, R41, R176). -/

namespace Sys2Proof.Machine

/-- A contact indicates its side: while closed with NORMAL polarity, while open with INVERTED (R18). -/
def indicates (inverted contact : Bool) : Bool := Bool.xor inverted contact

/-- A raw combination from its two indications, the open side first (R18). -/
def combOf (openSide closedSide : Bool) : Comb :=
  match openSide, closedSide with
  | false, false => .c00
  | false, true => .c01
  | true, false => .c10
  | true, true => .c11

/-- The raw combination of an object (R18). -/
def rawComb (d : ObjDesc) (o : ObjIn) : Comb :=
  combOf (indicates d.openInverted o.openContact) (indicates d.closedInverted o.closedContact)

/-- The raw ready state of an object: READY or NOT_READY (R18). -/
def rawReady (d : ObjDesc) (o : ObjIn) : ReadyState :=
  if indicates d.readyInverted o.readyContact then .ready else .notReady

/-- The raw pair of a sensor (R27). -/
def rawPair (d : SensorDesc) (i : SensorIn) : RawPair :=
  { presence := indicates d.inverted i.presenceContact, healthy := i.healthyContact }

/-- The indication of a qualified pair (R27). -/
def indicationOf (p : RawPair) : Indication :=
  if p.healthy then (if p.presence then .present else .absent) else .unknown

/-- The unit of a measurement in thousandths: 0.1 V, or one degree (R33). -/
def unitMilli : Measure → Int
  | .supply => 100
  | .temperature => 1000

/-- The range of a measurement in thousandths (R33). -/
def rangeMilli : Measure → Int × Int
  | .supply => (0, 300000)
  | .temperature => (-60000, 100000)

/-- A reading in range; an open or out-of-range reading is not (R33). -/
def readingInRange (which : Measure) : Reading → Bool
  | .inputOpen => false
  | .value m => decide ((rangeMilli which).1 ≤ m) && decide (m ≤ (rangeMilli which).2)

/-- A reading rounded to the unit: the exact multiple, or one of its two neighbours, which one being free (R33, log 5). -/
def roundedReading (which : Measure) (m : Int) : Int :=
  let q := m / unitMilli which
  if m % unitMilli which = 0 then q else if Config.readingRoundsUp which m then q + 1 else q

/-- The fill byte (R176). -/
def fillByte : Byte := 0x55

/-- The value of a mark byte (R176). -/
def markValue : LineMark → Byte
  | .start => 0x3C
  | .normal => 0x4E
  | .final => 0x46

/-- The bit of a mark that is held, counted from 0 as sent, and its level (R176). -/
def markHeld : LineMark → Nat × Level
  | .start => (3, .dominant)
  | .normal => (5, .dominant)
  | .final => (5, .recessive)

/-- The two half-bits of a data bit (R176). -/
def bitLevels (bit : Bool) : List Level :=
  if bit then [.recessive, .dominant] else [.dominant, .recessive]

/-- The sixteen half-bits of a byte time, most significant bit first (R40, R176). -/
def symLevels : LineSym → List Level
  | .data b => (List.range 8).flatMap fun i => bitLevels (b.getLsbD (7 - i))
  | .mark m => (List.range 8).flatMap fun i =>
      if i = (markHeld m).1 then [(markHeld m).2, (markHeld m).2] else bitLevels ((markValue m).getLsbD (7 - i))

/-- The level driven in one half-bit of a transmission. -/
def levelAt (syms : List LineSym) (halfBit : Nat) : Option Level :=
  match syms[halfBit / 16]? with
  | some sym => (symLevels sym)[halfBit % 16]?
  | none => none

/-- The data bytes of a run of symbols; `none` when a mark stands among them. -/
def dataBytes : List LineSym → Option (List Byte)
  | [] => some []
  | .data b :: rest => (dataBytes rest).map (b :: ·)
  | .mark _ :: _ => none

/-- Whether a data mark is FINAL; `none` when the symbol is neither data mark (R54). -/
def dataMark : LineSym → Option Bool
  | .mark .normal => some false
  | .mark .final => some true
  | .mark .start => none
  | .data _ => none

end Sys2Proof.Machine
end

