-- ==== Sys2Proof/Machine/Frames.lean ====
section
/-! DEFINITION. The frames of the yard link: the bodies the node sends (R177, R178), the symbols of a frame on the line
(R41, R42), the judging of a received header and body (R51, R54), and the reading of received bodies. -/

namespace Sys2Proof.Machine

/-! ### Bodies sent -/

/-- One object record of a STATUS (R178). -/
def pubObjectBytes (k : Nat) (o : PubObject) : List Byte :=
  [byteOf (16 * k) ||| kindCode o.kind, terminalCode o.term1, terminalCode o.term2, positionCode o.position]

/-- One sensor record of a STATUS (R178). -/
def pubSensorBytes (p : PubSensor) : List Byte := [terminalCode p.node, indicationCode p.indication]

/-- The object records in index order, from index `k` (R9). -/
def pubObjectsBytes : Nat → List PubObject → List Byte
  | _, [] => []
  | k, o :: os => pubObjectBytes k o ++ pubObjectsBytes (k + 1) os

/-- The last local result of a STATUS: outcome 0x00 when absent (R178); the reason byte, of which R178 says nothing then, is
0x00 as well (DESIGN CHOICE, log 31). -/
def localResultBytes : Option LocalResult → List Byte
  | none => [0x00, 0x00]
  | some r => [outcomeCode r.outcome, reasonCode r.reason]

/-- The claim part of a STATUS (R178). -/
def claimPartBytes : Option ClaimPart → List Byte
  | none => [0x00]
  | some c =>
    [if c.held then 0x02 else 0x01, c.id, byteOf c.cls, byteOf c.deferCount] ++ halfBytes c.holdLimit ++ nodeBytes c.nodes

/-- A STATUS body (R178). -/
def statusBody (c : Content) (joining : Bool) (claim : Option ClaimPart) : List Byte :=
  [phaseCode c.phase,
   selectorCode c.selector ||| (bypassCode c.bypass <<< 2),
   byteOf (c.heartbeat / 10),
   c.counter,
   causeCode c.cause ||| (if joining then 0x80 else 0x00),
   c.pending.setWidth 8] ++
  localResultBytes c.lastLocal ++
  [byteOf c.objects.length] ++ pubObjectsBytes 1 c.objects ++
  [byteOf c.sensors.length] ++ c.sensors.flatMap pubSensorBytes ++
  claimPartBytes claim

/-- A CLAIM body (R100, R177). -/
def claimBody (id : Byte) (round cls deferCount holdLimit : Nat) (nodes : NodeSet) : List Byte :=
  [id, byteOf round, byteOf cls, byteOf deferCount] ++ halfBytes holdLimit ++ nodeBytes nodes

/-- A RELEASE body: the position form names the object and its position, the no-position form 0 and NONE (R108, R177). -/
def releaseBody (id counter : Byte) (form : Option (Nat × Position)) : List Byte :=
  match form with
  | some (k, p) => [id, counter, byteOf k, positionCode p]
  | none => [id, counter, 0x00, 0x00]

/-- An ACCEPT body (R177). -/
def acceptBody (tag : Byte) (d : Disposition) : List Byte := [tag, dispositionCode d]

/-- A RESULT body that ends an operation (R139, R177): it answers a REQUEST and its basis byte is 0x00. -/
def resultBody (tag : Byte) (object : Nat) (dir : Direction) (outcome : OpOutcome) (reason : Reason) (pos : Position) :
    List Byte :=
  [0x01, tag, byteOf object, directionCode dir, outcomeCode outcome, 0x00, reasonCode reason, positionCode pos]

/-- A RESULT body that answers a CHECK (R95, R177): the position is NONE with NO_OBJECT. -/
def checkResultBody (tag : Byte) (object : Nat) (dir : Direction) (verdict : Verdict) (basis : Basis) (reason : Reason)
    (pos : Option Position) : List Byte :=
  [0x02, tag, byteOf object, directionCode dir, verdictCode verdict, basisCode basis, reasonCode reason,
   match pos with
   | some p => positionCode p
   | none => 0x00]

/-! ### On the line -/

/-- The four header bytes that the header check covers (R42, R177). -/
def headerFields (f : Frame) : List Byte :=
  [frameTypeCode f.type, byteOf f.src, byteOf f.dst, byteOf f.body.length]

/-- The data mark of a frame. -/
def frameMark (f : Frame) : LineMark := if f.final then .final else .normal

/-- The symbols of a frame from its first preamble byte to its body check (R41, R42). -/
def frameSymbols (f : Frame) : List LineSym :=
  List.replicate 4 (.data fillByte) ++ [.mark .start] ++
  (headerFields f ++ checkBytes (headerFields f)).map .data ++
  List.replicate 2 (.data fillByte) ++ [.mark (frameMark f)] ++
  (f.body ++ checkBytes (markValue (frameMark f) :: f.body)).map .data

/-- The header of six symbols, when it passes the five tests of R51. -/
def judgeHeader (syms : List LineSym) : Option Header :=
  match dataBytes syms with
  | some [t, src, dst, len, hi, lo] =>
    if checkBytes [t, src, dst, len] = [hi, lo] ∧ 1 ≤ src.toNat ∧ src.toNat ≤ 63 ∧ dst.toNat ≤ 63 then
      (frameTypeOfCode t.toNat).map fun type =>
        { type := type, src := src.toNat, dst := dst.toNat, length := len.toNat }
    else none
  | _ => none

/-- Where the sensor count of a STATUS body stands (R178). -/
def sensorCountAt (body : List Byte) : Nat := 9 + 4 * natAt body 8

/-- Where the claim state byte of a STATUS body stands (R178). -/
def claimStateAt (body : List Byte) : Nat := 10 + 4 * natAt body 8 + 2 * natAt body (sensorCountAt body)

/-- The permitted length of a STATUS body from its own counts; `none` when it ends before a count or its claim state
byte (R178). -/
def statusLength (body : List Byte) : Option Nat :=
  if body.length ≤ 8 ∨ body.length ≤ sensorCountAt body ∨ body.length ≤ claimStateAt body then none
  else some (claimStateAt body + 1 + (if natAt body (claimStateAt body) = 0 then 0 else 21))

/-- The body length is one the frame type permits (R177). -/
def lengthPermitted (t : FrameType) (body : List Byte) : Bool :=
  match t with
  | .status => statusLength body == some body.length
  | .claim => body.length == 22
  | .assent => body.length == 1
  | .object => body.length == 2
  | .release => body.length == 4
  | .request => body.length == 4
  | .check => body.length == 3
  | .cancel => body.length == 1
  | .accept => body.length == 2
  | .result => body.length == 8

/-- The frame that follows a passed header, when its body passes every test of R54. The symbols are the gap, the data
mark, the body and the body check, and nothing more. -/
def judgeBody (h : Header) (syms : List LineSym) : Option Frame :=
  if h.length ≤ 96 ∧ syms.length = 5 + h.length then
    match (syms[2]?).bind dataMark, dataBytes (syms.drop 3) with
    | some final, some bytes =>
      let body := bytes.take h.length
      let frame : Frame := { type := h.type, src := h.src, dst := h.dst, final := final, body := body }
      if checkBytes (markValue (frameMark frame) :: body) = bytes.drop h.length ∧ lengthPermitted h.type body = true ∧
          (final = true → h.type = .status)
      then some frame else none
    | _, _ => none
  else none

/-! ### Bodies received -/

/-- The object records of a STATUS body from an offset, indices from `k` (R66, checks 7 and 8): `none` when an index, a
kind, a terminal or a position is not well formed. -/
def parsePubObjects (body : List Byte) : Nat → Nat → Nat → Option (List PubObject)
  | _, _, 0 => some []
  | k, at_, n + 1 =>
    match kindOfCode (natAt body at_ % 16), terminalOfCode (natAt body (at_ + 1)), terminalOfCode (natAt body (at_ + 2)),
        positionOfCode (natAt body (at_ + 3)) with
    | some kind, some t1, some t2, some pos =>
      if natAt body at_ / 16 = k ∧ t1 ≠ .earth ∧ (t2 = .earth ↔ kind = .es) then
        (parsePubObjects body (k + 1) (at_ + 4) n).map
          ({ kind := kind, term1 := t1, term2 := t2, position := pos } :: ·)
      else none
    | _, _, _, _ => none

/-- The sensor records of a STATUS body from an offset (R66, check 9). -/
def parsePubSensors (body : List Byte) : Nat → Nat → Option (List PubSensor)
  | _, 0 => some []
  | at_, n + 1 =>
    match terminalOfCode (natAt body at_), indicationOfCode (natAt body (at_ + 1)) with
    | some node, some ind =>
      if node = .earth then none
      else (parsePubSensors body (at_ + 2) n).map ({ node := node, indication := ind } :: ·)
    | _, _ => none

/-- The phase a STATUS may show: ANNOUNCE or READY (R66, check 1). -/
def sentPhaseOfCode (n : Nat) : Option Phase :=
  match n with
  | 3 => some .announce
  | 4 => some .ready
  | _ => none

/-- A last local result received: absent when its outcome is 0x00, otherwise both codes are valid (R66, check 6). -/
def parseLocalResult (body : List Byte) : Option (Option LocalResult) :=
  if natAt body 6 = 0 then some none
  else
    match outcomeOfCode (natAt body 6), reasonOfCode (natAt body 7) with
    | some o, some r => some (some { outcome := o, reason := r })
    | _, _ => none

/-- The content of a STATUS body, when the parts the View Manager takes are well formed (R66); what no check names is
ignored (DEDUCED, log 19). -/
def parseStatus (body : List Byte) : Option Content :=
  match sentPhaseOfCode (natAt body 0), selectorOfCode (natAt body 1 % 4), bypassOfCode (natAt body 1 / 4 % 4),
      causeOfCode (natAt body 4 % 8), parseLocalResult body with
  | some phase, some selector, some bypass, some cause, some lastLocal =>
    if 10 ≤ natAt body 2 ∧ natAt body 2 ≤ 200 ∧ natAt body 2 % 5 = 0 ∧ natAt body 5 < 32 ∧ natAt body 8 ≤ 8 ∧
        natAt body (sensorCountAt body) ≤ 3 then
      match parsePubObjects body 1 9 (natAt body 8),
          parsePubSensors body (sensorCountAt body + 1) (natAt body (sensorCountAt body)) with
      | some objects, some sensors =>
        some
          { phase := phase, selector := selector, bypass := bypass, heartbeat := 10 * natAt body 2,
            counter := byteAt body 3, cause := cause, pending := (byteAt body 5).setWidth 5, lastLocal := lastLocal,
            objects := objects, sensors := sensors }
      | _, _ => none
    else none
  | _, _, _, _, _ => none

/-- JOINING of a STATUS body (R178). -/
def statusJoining (body : List Byte) : Bool := (byteAt body 4).getLsbD 7

/-- Class, defer count and hold limit lie in the ranges of R97. -/
def claimRangesOk (cls deferCount holdLimit : Nat) : Bool :=
  decide (cls ≤ 1) && decide (deferCount ≤ 15) && decide (207 ≤ holdLimit) && decide (holdLimit ≤ 6800)

/-- The claim part of a STATUS body; one that is not well formed is no claim (R115). -/
def parseClaimPart (body : List Byte) : Option ClaimPart :=
  let i := claimStateAt body
  if (natAt body i = 1 ∨ natAt body i = 2) ∧
      claimRangesOk (natAt body (i + 2)) (natAt body (i + 3)) (halfAt body (i + 4)) = true then
    some
      { id := byteAt body (i + 1), held := natAt body i == 2, cls := natAt body (i + 2), deferCount := natAt body (i + 3),
        holdLimit := halfAt body (i + 4), nodes := nodesOfBytes (slice body (i + 6) 16) }
  else none

/-- A CLAIM body as a foreign claim, when its round, class, defer count and hold limit are in range (R110). -/
def parseClaim (body : List Byte) : Option ClaimPart :=
  if 1 ≤ natAt body 1 ∧ natAt body 1 ≤ 3 ∧ claimRangesOk (natAt body 2) (natAt body 3) (halfAt body 4) = true then
    some
      { id := byteAt body 0, held := false, cls := natAt body 2, deferCount := natAt body 3, holdLimit := halfAt body 4,
        nodes := nodesOfBytes (slice body 6 16) }
  else none

end Sys2Proof.Machine
end

