-- ==== Sys2Proof/Machine/Record.lean ====
section
/-! DEFINITION. The configuration record: its layout (R179), the values a record in force supplies (R8 to R10), and the
checks of R12. -/

namespace Sys2Proof.Machine

/-- The base travel time lies in the range of its kind and is a multiple of 10 ms (R4). -/
def baseTimeOk (k : Kind) (t : Nat) : Bool :=
  t % 10 == 0 &&
    match k with
    | .cb => decide (20 ≤ t ∧ t ≤ 1000)
    | .ds => decide (1000 ≤ t ∧ t ≤ 30000)
    | .es => decide (1000 ≤ t ∧ t ≤ 30000)

/-- A yard node, or a local node up to the count (R12, step 5). -/
def pointOk (locals : Nat) : Terminal → Bool
  | .yard n => decide (1 ≤ n ∧ n ≤ 127)
  | .localNode k => decide (1 ≤ k ∧ k ≤ locals)
  | .earth => false

/-- The six bytes of object place `k`, from 1 (R179). -/
def objectBytes (r : List Byte) (k : Nat) : List Byte := slice r (28 + 6 * (k - 1)) 6

/-- An object description passes the checks of step 5 (R12), against the local node count. -/
def objectBytesOk (locals : Nat) (o : List Byte) : Bool :=
  match kindOfCode (natAt o 0), terminalOfCode (natAt o 1), terminalOfCode (natAt o 2) with
  | some kind, some t1, some t2 =>
    pointOk locals t1 &&
    (if kind = .es then t2 == .earth else pointOk locals t2 && t2 != t1) &&
    baseTimeOk kind (halfAt o 3) &&
    decide (natAt o 5 < 8)
  | _, _, _ => false

/-- The object description that six bytes carry (R4, R179). -/
def parseObject (o : List Byte) : ObjDesc :=
  { kind := (kindOfCode (natAt o 0)).getD .ds
    term1 := (terminalOfCode (natAt o 1)).getD .earth
    term2 := (terminalOfCode (natAt o 2)).getD .earth
    base := halfAt o 3
    openInverted := (byteAt o 5).getLsbD 0
    closedInverted := (byteAt o 5).getLsbD 1
    readyInverted := (byteAt o 5).getLsbD 2 }

/-- The two bytes of sensor place `k`, from 1 (R179). -/
def sensorBytes (r : List Byte) (k : Nat) : List Byte := slice r (77 + 2 * (k - 1)) 2

/-- A sensor description passes the checks of step 6 (R12). -/
def sensorBytesOk (locals : Nat) (o : List Byte) : Bool :=
  (match terminalOfCode (natAt o 0) with
    | some t => pointOk locals t
    | none => false) &&
  decide (natAt o 1 ≤ 1)

/-- The sensor description that two bytes carry (R5, R179). -/
def parseSensor (o : List Byte) : SensorDesc :=
  { node := (terminalOfCode (natAt o 0)).getD .earth, inverted := natAt o 1 == 1 }

/-- A profile cell: 0xFF is UNRATED (R179). -/
def parseCell (b : Byte) : Option Nat := if b = 0xFF then none else some b.toNat

/-- The twenty cells from an offset (R179). -/
def parseProfile (r : List Byte) (i : Nat) : Profile := (slice r i 20).map parseCell

/-- The place of the cell at 100 % and +20 °C in a profile (R10, R12). -/
def nominalCell : Nat := 14

/-- Each cell is 0 to 250 or UNRATED, and the cell at 100 % and +20 °C is rated (R12, step 7). -/
def profileOk (p : Profile) : Bool :=
  p.all (fun c => match c with | some d => decide (d ≤ 250) | none => true) &&
    (p.getD nominalCell none).isSome

/-- A value in a range and a whole multiple of a step (R8). -/
def inSteps (v lo hi step : Nat) : Bool := decide (lo ≤ v) && decide (v ≤ hi) && v % step == 0

/-- Field 3: a subset of 1 to 63 without the own address; bit 0 stands for no station (R8, R12, R179;
DEDUCED, log 18). -/
def expectedOk (r : List Byte) : Bool :=
  let set := stationsOfBytes (slice r 3 8)
  !set.getLsbD 0 && !set.getLsbD (natAt r 0)

/-- The checks of R12 in their order, each with the place that fails. -/
def recordChecks (r : List Byte) : List (Bool × Place) :=
  let locals := natAt r 26
  [ (checkBytes (slice r 0 123) == slice r 123 2, ⟨18, 0⟩),
    (inSteps (natAt r 0) 1 63 1, ⟨1, 0⟩),
    (inSteps (halfAt r 1) 100 2000 50, ⟨2, 0⟩),
    (expectedOk r, ⟨3, 0⟩),
    (inSteps (natAt r 11) 1 4 1, ⟨4, 0⟩),
    (inSteps (halfAt r 12) 50 500 10, ⟨5, 0⟩),
    (inSteps (halfAt r 14) 200 5000 100, ⟨6, 0⟩),
    (inSteps (natAt r 16) 0 15 1, ⟨7, 0⟩),
    (inSteps (natAt r 17) 10 200 5, ⟨8, 0⟩),
    (inSteps (halfAt r 18) 1000 20000 100, ⟨9, 0⟩),
    (inSteps (halfAt r 20) 50 1000 10, ⟨10, 0⟩),
    (inSteps (halfAt r 22) 40 300 10, ⟨11, 0⟩),
    (inSteps (natAt r 24) 24 250 1, ⟨12, 0⟩),
    (decide (natAt r 25 < 32), ⟨13, 0⟩),
    (decide (locals ≤ 4), ⟨14, 0⟩),
    (inSteps (natAt r 27) 1 8 1, ⟨15, 0⟩) ] ++
  (List.range' 1 (natAt r 27)).map (fun k => (objectBytesOk locals (objectBytes r k), ⟨15, k⟩)) ++
  [ (decide (natAt r 76 ≤ 3), ⟨16, 0⟩) ] ++
  (List.range' 1 (natAt r 76)).map (fun k => (sensorBytesOk locals (sensorBytes r k), ⟨16, k⟩)) ++
  [ (profileOk (parseProfile r 83), ⟨17, 1⟩),
    (profileOk (parseProfile r 103), ⟨17, 2⟩) ]

/-- The result of checking a record: `none` is PASS, otherwise the first failing place (R12). -/
def checkRecord (r : List Byte) : Option Place :=
  (recordChecks r).findSome? fun c => if c.1 then none else some c.2

/-- The values a record supplies when it comes into force (R8, R9, R10, R179). -/
def parseRecord (r : List Byte) : BayRecord :=
  { address := natAt r 0
    heartbeat := halfAt r 1
    expected := stationsOfBytes (slice r 3 8)
    depth := natAt r 11
    claimWindow := halfAt r 12
    deferInterval := halfAt r 14
    stallLimit := natAt r 16
    qualification := natAt r 17
    intermediate := halfAt r 18
    settle := halfAt r 20
    coilPulse := halfAt r 22
    nominal := natAt r 24
    faultMask := (byteAt r 25).setWidth 5
    localNodes := natAt r 26
    objects := (List.range' 1 (natAt r 27)).map fun k => parseObject (objectBytes r k)
    sensors := (List.range' 1 (natAt r 76)).map fun k => parseSensor (sensorBytes r k)
    motorProfile := parseProfile r 83
    coilProfile := parseProfile r 103 }

end Sys2Proof.Machine
end

