-- ==== Sys2Proof/Machine/Ops.lean ====
section
/-! DEFINITION. The shared operations: block updates, tables, the clock, what a block reads of another (R80), the queues
of the Yard Link Controller (R43 to R47, R50), and the events of the View Manager (R61, R62, R73). -/

namespace Sys2Proof.Machine

/-! ### One update for each block of the state -/

/-- `s` with its `now` replaced. -/
def State.withNow (s : State) (x : Nat) : State := { s with now := x }

/-- `s` with its `store` replaced. -/
def State.withStore (s : State) (x : Store) : State := { s with store := x }

/-- `s` with its `copy` replaced. -/
def State.withCopy (s : State) (x : Option BayRecord) : State := { s with copy := x }

/-- `s` with its `objects` replaced. -/
def State.withObjects (s : State) (x : Table ObjIn) : State := { s with objects := x }

/-- `s` with its `sensors` replaced. -/
def State.withSensors (s : State) (x : Table SensorIn) : State := { s with sensors := x }

/-- `s` with its `singles` replaced. -/
def State.withSingles (s : State) (x : Singles) : State := { s with singles := x }

/-- `s` with its `supply` replaced. -/
def State.withSupply (s : State) (x : MeasureIn) : State := { s with supply := x }

/-- `s` with its `temperature` replaced. -/
def State.withTemperature (s : State) (x : MeasureIn) : State := { s with temperature := x }

/-- `s` with its `faults` replaced. -/
def State.withFaults (s : State) (x : Faults) : State := { s with faults := x }

/-- `s` with its `link` replaced. -/
def State.withLink (s : State) (x : Link) : State := { s with link := x }

/-- `s` with its `view` replaced. -/
def State.withView (s : State) (x : View) : State := { s with view := x }

/-- `s` with its `claims` replaced. -/
def State.withClaims (s : State) (x : Claims) : State := { s with claims := x }

/-- `s` with its `req` replaced. -/
def State.withReq (s : State) (x : Requests) : State := { s with req := x }

/-- `s` with its `drive` replaced. -/
def State.withDrive (s : State) (x : Drive) : State := { s with drive := x }

/-- `s` with its `start` replaced. -/
def State.withStart (s : State) (x : StartUp) : State := { s with start := x }

/-- `s` with its `port` replaced. -/
def State.withPort (s : State) (x : Port) : State := { s with port := x }

/-- `s` with its `counters` replaced. -/
def State.withCounters (s : State) (x : Counters) : State := { s with counters := x }

/-- `s` with its `handover` replaced. -/
def State.withHandover (s : State) (x : Handover) : State := { s with handover := x }

/-- `s` with its `pending` replaced. -/
def State.withPending (s : State) (x : List Instr) : State := { s with pending := x }

/-! ### Tables with strictly rising keys -/

/-- The value at a key. -/
def tableGet {α : Type} : Table α → Nat → Option α
  | [], _ => none
  | (k, v) :: rest, key => if k = key then some v else tableGet rest key

/-- The table with a key set, keeping the keys rising. -/
def tablePut {α : Type} : Table α → Nat → α → Table α
  | [], key, v => [(key, v)]
  | (k, w) :: rest, key, v =>
    if key < k then (key, v) :: (k, w) :: rest
    else if key = k then (key, v) :: rest
    else (k, w) :: tablePut rest key v

/-- The table without a key. -/
def tableDel {α : Type} (t : Table α) (key : Nat) : Table α := t.filter fun e => e.1 != key

/-- The same change for every value of a table. -/
def tableMap {α : Type} (f : α → α) (t : Table α) : Table α := t.map fun e => (e.1, f e.2)

/-! ### The clock -/

/-- The moment `d` has come: the clock stands at `d`, or later when `d` is past (DESIGN CHOICE, log 1). -/
def State.reachTime (s : State) (d : Nat) : State := s.withNow (max s.now d)

/-- The time remaining on a timer, in ms; 0 when stopped (R180). -/
def remaining (s : State) (timer : Option Nat) : Nat :=
  match timer with
  | some d => d - s.now
  | none => 0

/-! ### What is read of the record, the phase and the inputs -/

/-- Phases in which the controller takes frames from its producers (R43, R58). -/
def transmits (p : Phase) : Bool := p == .announce || p == .ready

/-- Phases in which the receiver judges frames (R58). -/
def receives (p : Phase) : Bool := p == .listen || p == .announce || p == .ready || p == .silent

/-- The node takes requests and answers claims: READY, with no departure pending (R112, R141, R167). -/
def inService (s : State) : Bool := s.start.phase == .ready && s.start.departure == none

/-- The record in force (R6): the copy that the blocks read while the status is IN_FORCE. After an erase none is in force,
while the copy goes on supplying the blocks until the next reset (R14; DEDUCED, log 8). -/
def recordInForce (s : State) : Option BayRecord := if s.store.status = .inForce then s.copy else none

/-- The own address, from the copy of the record (R58); 0 while there is none. -/
def ownAddress (s : State) : Nat :=
  match s.copy with
  | some r => r.address
  | none => 0

/-- A number of the copy of the record; 0 while there is none. -/
def fieldOf (s : State) (f : BayRecord → Nat) : Nat :=
  match s.copy with
  | some r => f r
  | none => 0

/-- The description of object `k` of the copy of the record (R9). -/
def objDesc (s : State) (k : Nat) : Option ObjDesc :=
  match s.copy with
  | some r => if k = 0 then none else r.objects[k - 1]?
  | none => none

/-- The description of sensor `k` of the copy of the record (R9). -/
def sensorDesc (s : State) (k : Nat) : Option SensorDesc :=
  match s.copy with
  | some r => if k = 0 then none else r.sensors[k - 1]?
  | none => none

/-- The configured object count; 0 before LISTEN (R25). -/
def objectCount (s : State) : Nat :=
  match s.copy with
  | some r => r.objects.length
  | none => 0

/-- What the Field Interface holds of slot `k`. -/
def objIn (s : State) (k : Nat) : ObjIn := (tableGet s.objects k).getD {}

/-- `s` with what the Field Interface holds of slot `k` replaced. -/
def State.putObj (s : State) (k : Nat) (o : ObjIn) : State := s.withObjects (tablePut s.objects k o)

/-- What the Field Interface holds of sensor `k`. -/
def sensorIn (s : State) (k : Nat) : SensorIn := (tableGet s.sensors k).getD {}

/-- The qualified position of own object `k`. -/
def positionOf (s : State) (k : Nat) : Position := (objIn s k).position

/-- The qualification time: field 8 of the copy of the record, 200 ms before LISTEN (R28). -/
def qualificationTime (s : State) : Nat :=
  match s.copy with
  | some r => r.qualification
  | none => Config.defaultQualificationTime

/-- The qualified selector (R29). -/
def selectorOf (s : State) : Selector :=
  match s.singles.selector.qualified with
  | none => .unknown
  | some true => .remoteMode
  | some false => .localMode

/-- The qualified bypass key (R30). -/
def bypassKeyOf (s : State) : BypassKey :=
  match s.singles.bypassKey.qualified with
  | none => .unknown
  | some true => .on
  | some false => .off

/-- The bypass condition: key ON and selector LOCAL (R30). -/
def bypassHolds (s : State) : Bool := bypassKeyOf s == .on && selectorOf s == .localMode

/-- The synchro-check permit is qualified ASSERTED (R31). -/
def syncAsserted (s : State) : Bool := s.singles.synchro.qualified == some true

/-- The position an operation is to reach (R121). -/
def targetPosition : Direction → Position
  | .toOpen => .opened
  | .toClose => .closed

/-- The own claim as published in STATUS (R97). -/
def ownClaimPart (s : State) : Option ClaimPart :=
  s.claims.own.map fun c =>
    { id := c.id, held := c.held, cls := c.cls, deferCount := c.deferCount, holdLimit := c.holdLimit, nodes := c.nodes }

/-- The own objects with their qualified positions, in index order from `k` (R9, R60). -/
def ownObjectsFrom (s : State) : Nat → List ObjDesc → List PubObject
  | _, [] => []
  | k, d :: ds =>
    { kind := d.kind, term1 := d.term1, term2 := d.term2, position := positionOf s k } :: ownObjectsFrom s (k + 1) ds

/-- The own sensors with their indications, in index order from `k` (R9, R60). -/
def ownSensorsFrom (s : State) : Nat → List SensorDesc → List PubSensor
  | _, [] => []
  | k, d :: ds => { node := d.node, indication := (sensorIn s k).indication } :: ownSensorsFrom s (k + 1) ds

/-- The own content (R60), held from entry to LISTEN until the next reset, that is while the copy is. -/
def ownContent (s : State) : Option Content :=
  s.copy.map fun r =>
    { phase := s.start.phase, selector := selectorOf s, bypass := bypassKeyOf s, heartbeat := r.heartbeat,
      counter := s.view.counter, cause := s.start.cause, pending := s.faults.pending, lastLocal := s.req.lastLocal,
      objects := ownObjectsFrom s 1 r.objects, sensors := ownSensorsFrom s 1 r.sensors }

/-- The view entry of a station; `none` is ABSENT (R65). -/
def entryOf (s : State) (station : Nat) : Option Entry := tableGet s.view.entries station

/-- Whether an entry is FRESH or SUSPECT. -/
def entryCurrent : Option Entry → Bool
  | some e => e.state != .stale
  | none => false

/-- A station is MISSING: expected and ABSENT (R74). -/
def isMissing (s : State) (station : Nat) : Bool :=
  match s.copy with
  | some r => r.expected.getLsbD station && (entryOf s station).isNone
  | none => false

/-- At least one expected station is MISSING (R88). -/
def someMissing (s : State) : Bool := (List.range' 1 63).any (isMissing s)

/-! ### Counters -/

/-- A counter rises by one and stays at 65,535 (R59, R119, R140). -/
def bump (n : Nat) : Nat := if n < Config.counterMax then n + 1 else n

/-! ### The outbound queues -/

/-- The class the controller chooses: urgent before normal (R47). -/
def wantedClass (l : Link) : Option FrameClass :=
  if l.urgent ≠ [] then some .urgent else if l.normal ≠ [] then some .normal else none

/-- The controller's choice of its current frame (R47): none while an attempt is on the line; a frame that stays current
keeps its k; a frame that becomes current draws a fresh k. An urgent frame takes the place of a normal one whose wait is
running. -/
def Link.pick (l : Link) : Link :=
  match l.attempt with
  | some _ => l
  | none =>
    match wantedClass l with
    | none => { l with current := none }
    | some cls =>
      if l.current.map (·.cls) = some cls then l
      else { l with current := some { cls := cls, k := (Config.backoff l.draws).toNat }, draws := l.draws + 1 }

/-- The controller chooses its current frame. -/
def State.pick (s : State) : State := s.withLink s.link.pick

/-- An urgent frame handed over (R43, R44): discarded outside ANNOUNCE and READY, dropped and counted when eight wait. -/
def handUrgent (f : Frame) (s : State) : State :=
  if transmits s.start.phase then
    if s.link.urgent.length < Config.urgentPlaces then
      (s.withLink { s.link with urgent := s.link.urgent ++ [{ frame := f, attempts := 0 }] }).pick
    else s.withCounters { s.counters with txDropped := bump s.counters.txDropped }
  else s

/-- An urgent frame of a type to a destination, with the own address as source (R43). -/
def ownFrame (s : State) (t : FrameType) (dst : Nat) (body : List Byte) : Frame :=
  { type := t, src := ownAddress s, dst := dst, final := false, body := body }

/-- An item of the normal queue is the STATUS marker. -/
def isMarker : NormalItem → Bool
  | .marker _ _ _ => true
  | .claim _ _ _ _ => false

/-- An attempt of the normal queue's head is on the line. -/
def normalOnLine (l : Link) : Bool :=
  match l.attempt with
  | some a => a.cls == .normal
  | none => false

/-- The marker's item is the head and an attempt of it is on the line (R45). -/
def markerOnLine (l : Link) : Bool :=
  normalOnLine l && match l.normal with
    | i :: _ => isMarker i
    | [] => false

/-- The marker marked RENEW. -/
def markRenew : NormalItem → NormalItem
  | .marker _ final n => .marker true final n
  | .claim id f n r => .claim id f n r

/-- The marker marked FINAL. -/
def markFinal : NormalItem → NormalItem
  | .marker renew _ n => .marker renew true n
  | .claim id f n r => .claim id f n r

/-- A request to send a STATUS (R45), taken in ANNOUNCE and READY alone (R43). -/
def requestStatus (s : State) : State :=
  if transmits s.start.phase then
    if s.link.normal.any isMarker then
      if markerOnLine s.link then s.withLink { s.link with normal := s.link.normal.map markRenew } else s
    else (s.withLink { s.link with normal := s.link.normal ++ [.marker false false 0] }).pick
  else s

/-- The request of a FINAL STATUS (R50). -/
def requestFinal (s : State) : State :=
  if s.link.normal.any isMarker then s.withLink { s.link with normal := s.link.normal.map markFinal }
  else (s.withLink { s.link with normal := s.link.normal ++ [.marker false true 0] }).pick

/-- The normal queue holds a CLAIM and refuses another (R46). -/
def claimQueued (l : Link) : Bool := l.normal.any fun i => !isMarker i

/-- A CLAIM joins the normal queue at its tail, which takes none while it holds one (R46); outside ANNOUNCE and READY it
is discarded (R43). -/
def handClaim (id : Byte) (f : Frame) (s : State) : State :=
  if transmits s.start.phase && !claimQueued s.link then
    (s.withLink { s.link with normal := s.link.normal ++ [.claim id f 0 false] }).pick
  else s

/-- The CLAIM's item is the head and an attempt of it is on the line (R46). -/
def claimOnLine (l : Link) : Bool :=
  normalOnLine l && match l.normal with
    | i :: _ => !isMarker i
    | [] => false

/-- The CLAIM marked for removal when its attempt ends. -/
def markRemoved : NormalItem → NormalItem
  | .marker renew final n => .marker renew final n
  | .claim id f n _ => .claim id f n true

/-- The head of the normal queue is a CLAIM. -/
def claimAtHead (l : Link) : Bool :=
  match l.normal with
  | i :: _ => !isMarker i
  | [] => false

/-- The current frame is the CLAIM. -/
def claimCurrent (l : Link) : Bool := l.current.map (·.cls) == some .normal && claimAtHead l

/-- The removal of the CLAIM from the normal queue (R46): at once, giving up its wait if it was current, or when the
attempt on the line ends. -/
def removeClaim (s : State) : State :=
  if claimOnLine s.link then s.withLink { s.link with normal := s.link.normal.map markRemoved }
  else
    (s.withLink
      { s.link with
        normal := s.link.normal.filter isMarker
        current := if claimCurrent s.link then none else s.link.current }).pick

/-! ### Events of the View Manager -/

/-- An event that alters the own content (R61, R62): the change counter advances from LISTEN on, and in
READY a STATUS is requested. -/
def ownChanged (s : State) : State :=
  if s.copy.isSome then
    let s := s.withView { s.view with counter := s.view.counter + 1 }
    if s.start.phase = .ready then requestStatus s else s
  else s

/-- A view change raised (R73): one report for the Claim Manager. -/
def raiseView (station : Nat) (state : Option EntryState) (s : State) : State :=
  s.withHandover { s.handover with views := s.handover.views ++ [{ station := station, state := state }] }

/-- The last local result set (R127); a change of it is an own-content event. -/
def setLastLocal (r : LocalResult) (s : State) : State :=
  if s.req.lastLocal = some r then s else ownChanged (s.withReq { s.req with lastLocal := some r })

end Sys2Proof.Machine
end

