-- ==== Sys2Proof/Machine/Flags.lean ====
section
/-! DEFINITION. The fault flags: pending flags, conditions and the fault indication relay (R35 to R39). -/

namespace Sys2Proof.Machine

/-- The bit of a cause in a set of causes (R178). -/
def causeBit : Cause → CauseSet
  | .travelFail => 0b00001
  | .objectFaulty => 0b00010
  | .linkSilent => 0b00100
  | .addressConflict => 0b01000
  | .configInvalid => 0b10000

/-- A set of causes holds a cause. -/
def causeIn (set : CauseSet) (c : Cause) : Bool := (set &&& causeBit c) != 0

/-- The enabled causes: field 13 of the record in force, all five while there is none (R11, R38). -/
def enabledCauses (s : State) : CauseSet :=
  match recordInForce s with
  | some r => r.faultMask
  | none => 0b11111

/-- The relay's state for a pending set and a mask (R38). -/
def relayFor (pending mask : CauseSet) : Bool := (pending &&& mask) != 0

/-- The relay takes its state anew (R38). -/
def refreshRelay (s : State) : State :=
  s.withFaults { s.faults with relay := relayFor s.faults.pending (enabledCauses s) }

/-- The pending set becomes `p` (R36, R38): at a change the relay takes its state anew and the set is handed to the View
Manager, one own-content event. -/
def setPending (p : CauseSet) (s : State) : State :=
  if p = s.faults.pending then s
  else ownChanged (refreshRelay (s.withFaults { s.faults with pending := p }))

/-- An event of a cause of event type (R36): its flag becomes pending. -/
def reportEvent (c : Cause) (s : State) : State := setPending (s.faults.pending ||| causeBit c) s

/-- The beginning of a condition (R36): it holds, and its flag becomes pending. A condition that holds already begins
nothing. -/
def beginCondition (c : Cause) (s : State) : State :=
  if causeIn s.faults.holding c then s
  else
    let s := s.withFaults { s.faults with holding := s.faults.holding ||| causeBit c }
    setPending (s.faults.pending ||| causeBit c) s

/-- The end of a condition (R36): its flag stays as it is. -/
def endCondition (c : Cause) (s : State) : State :=
  s.withFaults { s.faults with holding := s.faults.holding &&& ~~~ causeBit c }

/-- Some configured object's qualified position is FAULTY (R35). -/
def someFaulty (s : State) : Bool :=
  (List.range' 1 (objectCount s)).any fun k => positionOf s k == .faulty

/-- The beginning or end of the condition OBJECT_FAULTY after an object's position has changed (R24, R36). -/
def watchFaulty (s : State) : State :=
  if someFaulty s then beginCondition .objectFaulty s else endCondition .objectFaulty s

/-- A fault-reset edge (R37): every pending flag of event type clears, and every one whose condition does not hold. No
condition is kept for the event-type cause, so its bit of `holding` is never set. -/
def faultResetEdge (s : State) : State := setPending (s.faults.pending &&& s.faults.holding) s

end Sys2Proof.Machine
end

