-- ==== Sys2Proof/Machine/Evaluate.lean ====
section
/-! DEFINITION. The Interlock Evaluator (05): edges and partitions of the node space (R82 to R84), attributes of the
loose components (R85, R86), the missing-station test (R88), the verdicts (R89 to R92) and the claim set (R93). -/

namespace Sys2Proof.Machine

/-- A point of the node space (R82): a yard node, or local node `k` of a station. -/
inductive Point where
  | yard (n : Nat)
  | localNode (station k : Nat)
  deriving DecidableEq, Repr

/-- The point a station's terminal names; earth is no point (R3). -/
def pointOf (station : Nat) : Terminal → Option Point
  | .yard n => some (.yard n)
  | .localNode k => some (.localNode station k)
  | .earth => none

/-- An edge between two points, FIRM or LOOSE (R83). -/
structure Edge where
  a    : Point
  b    : Point
  firm : Bool
  deriving DecidableEq, Repr

/-- The edge a DS or CB gives at the position it is read at; an ES gives none (R83). -/
def edgeOf (station : Nat) (o : PubObject) (position : Position) : Option Edge :=
  if o.kind = .es then none
  else
    match pointOf station o.term1, pointOf station o.term2 with
    | some a, some b =>
      match position with
      | .opened => none
      | .closed => some { a := a, b := b, firm := true }
      | .moving => some { a := a, b := b, firm := false }
      | .faulty => some { a := a, b := b, firm := false }
      | .unknown => some { a := a, b := b, firm := false }
    | _, _ => none

/-- A position as read: UNKNOWN in a STALE entry (R65). -/
def readPosition (state : EntryState) (p : Position) : Position := if state = .stale then .unknown else p

/-- An indication as read: UNKNOWN in a STALE entry (R65). -/
def readIndication (state : EntryState) (i : Indication) : Indication := if state = .stale then .unknown else i

/-- The own objects other than the one under evaluation, with their positions (R83). -/
def otherOwnObjects (s : State) (k : Nat) : List PubObject :=
  match s.copy with
  | some r => (ownObjectsFrom s 1 r.objects).eraseIdx (k - 1)
  | none => []

/-- Every object the evaluation counts: its station, its description, and the position it is read at (R80, R83). -/
def countedObjects (s : State) (k : Nat) : List (Nat × PubObject × Position) :=
  ((otherOwnObjects s k).map fun o => (ownAddress s, o, o.position)) ++
  s.view.entries.flatMap fun e =>
    e.2.content.objects.map fun o => (e.1, o, readPosition e.2.state o.position)

/-- Every sensor the evaluation counts: the point that carries it and its indication as read (R85). -/
def countedSensors (s : State) : List (Point × Indication) :=
  let own := match s.copy with
    | some r => ownSensorsFrom s 1 r.sensors
    | none => []
  (own.filterMap fun p => (pointOf (ownAddress s) p.node).map fun q => (q, p.indication)) ++
  s.view.entries.flatMap fun e =>
    e.2.content.sensors.filterMap fun p =>
      (pointOf e.1 p.node).map fun q => (q, readIndication e.2.state p.indication)

/-- The edges of the evaluation of object `k` (R83). -/
def edgesFor (s : State) (k : Nat) : List Edge :=
  (countedObjects s k).filterMap fun o => edgeOf o.1 o.2.1 o.2.2

/-- One edge joins its other end to a set of points that holds one end. -/
def joinEdge (set : List Point) (e : Edge) : List Point :=
  if e.a ∈ set then (if e.b ∈ set then set else e.b :: set)
  else if e.b ∈ set then e.a :: set else set

/-- A set of points after `n` passes over the edges. -/
def growBy (edges : List Edge) : Nat → List Point → List Point
  | 0, set => set
  | n + 1, set => growBy edges n (edges.foldl joinEdge set)

/-- The component of a point: the points a chain of the edges joins to it (R84). As many passes as there are edges
suffice, since every pass before the last adds an edge's end. -/
def component (edges : List Edge) (p : Point) : List Point := growBy edges edges.length [p]

/-- The loose component of a point (R84). -/
def looseComponent (edges : List Edge) (p : Point) : List Point := component edges p

/-- The firm component of a point (R84). -/
def firmComponent (edges : List Edge) (p : Point) : List Point := component (edges.filter (·.firm)) p

/-- A component is LIVE (R85). -/
def isLive (s : State) (points : List Point) : Bool :=
  (countedSensors s).any fun x => decide (x.1 ∈ points) && x.2 != .absent

/-- An ES at a position, as read, earths the component of its terminal 1 (R86). -/
def earths (station : Nat) (o : PubObject) (position : Position) (points : List Point) : Bool :=
  o.kind == .es && position != .opened &&
    match pointOf station o.term1 with
    | some p => decide (p ∈ points)
    | none => false

/-- A component is EARTHED (R86); the object under evaluation does not count. -/
def isEarthed (s : State) (k : Nat) (points : List Point) : Bool :=
  (countedObjects s k).any fun o => earths o.1 o.2.1 o.2.2 points

/-- The answer of an evaluation (R79, R94): the claim set is absent with REFUSED. -/
structure EvalResult where
  verdict : Verdict
  basis   : Basis
  reason  : Reason
  nodes   : Option NodeSet
  deriving DecidableEq, Repr

/-- A permitted test: its basis, or the reason of a refusal (R89 to R91). -/
inductive TestResult where
  | permit (b : Basis)
  | refuse (r : Reason)
  deriving DecidableEq, Repr

/-- What the tests of a DS, and of a CB that closes, are taken on: firm(a) is firm(b), LIVE(A), LIVE(B), EARTHED(A),
EARTHED(B) (R87). -/
structure SideFacts where
  firmJoined : Bool
  liveA      : Bool
  liveB      : Bool
  earthedA   : Bool
  earthedB   : Bool
  deriving DecidableEq, Repr

/-- The tests of a DS (R89). -/
def testDs (f : SideFacts) : TestResult :=
  if f.firmJoined then .permit .parallel
  else if f.liveA && f.liveB then .refuse .bothLive
  else if (f.liveA && f.earthedB) || (f.liveB && f.earthedA) then .refuse .liveToEarth
  else .permit .oneSideDead

/-- The tests of a CB in direction CLOSE, `sync` saying the permit is qualified ASSERTED (R90). -/
def testCbClose (sync : Bool) (f : SideFacts) : TestResult :=
  if f.firmJoined then .permit .loop
  else if (f.liveA && f.earthedB) || (f.liveB && f.earthedA) then .refuse .liveToEarth
  else if f.liveA && f.liveB then (if sync then .permit .sync else .refuse .noSync)
  else .permit .oneSideDead

/-- The tests of an ES in direction CLOSE (R91). -/
def testEsClose (f : SideFacts) : TestResult := if f.liveA then .refuse .liveNode else .permit .dead

/-- The verdict tests of a kind and direction (R89 to R91). -/
def verdictTest (kind : Kind) (dir : Direction) (sync : Bool) (f : SideFacts) : TestResult :=
  match kind, dir with
  | .ds, .toOpen => testDs f
  | .ds, .toClose => testDs f
  | .cb, .toClose => testCbClose sync f
  | .cb, .toOpen => .permit .noCondition
  | .es, .toClose => testEsClose f
  | .es, .toOpen => .permit .noCondition

/-- The yard nodes of A ∪ B (R93). -/
def yardNodesOf (points : List Point) : NodeSet := nodeSetOf fun n => decide (Point.yard n ∈ points)

/-- The points A ∪ B of an object under evaluation (R87): B is empty for an ES. -/
def reachOf (edges : List Edge) (a : Point) (b : Option Point) : List Point :=
  looseComponent edges a ++ match b with
    | some q => looseComponent edges q
    | none => []

/-- The facts the verdict tests are taken on (R87). -/
def sideFacts (s : State) (k : Nat) (a : Point) (b : Option Point) : SideFacts :=
  let edges := edgesFor s k
  let compA := looseComponent edges a
  let compB := match b with
    | some q => looseComponent edges q
    | none => []
  { firmJoined := match b with
      | some q => decide (q ∈ firmComponent edges a)
      | none => false
    liveA := isLive s compA
    liveB := isLive s compB
    earthedA := isEarthed s k compA
    earthedB := isEarthed s k compB }

/-- The bypass (R92): a REFUSED verdict of a LOCAL request becomes PERMITTED_BYPASS while the bypass condition holds,
keeping its reason. -/
def withBypass (bypass : Bool) (nodes : NodeSet) : TestResult → EvalResult
  | .permit b => { verdict := .permitted, basis := b, reason := .none, nodes := some nodes }
  | .refuse r =>
    if bypass then { verdict := .permittedBypass, basis := .bypass, reason := r, nodes := some nodes }
    else { verdict := .refused, basis := .none, reason := r, nodes := none }

/-- The result of R88 to R91 for an object of a kind with terminals `a` and `b`. -/
def testOf (s : State) (k : Nat) (kind : Kind) (dir : Direction) (a : Point) (b : Option Point) : TestResult :=
  if someMissing s && yardNodesOf (reachOf (edgesFor s k) a b) != 0 then .refuse .missingStation
  else verdictTest kind dir (syncAsserted s) (sideFacts s k a b)

/-- An evaluation (R79 to R94): object `k`, a direction, and a source. The askers refuse an index without an object
before they ask (R79); the answer given here for one is NO_OBJECT (DEDUCED, log 27). -/
def evaluate (s : State) (k : Nat) (dir : Direction) (source : Source) : EvalResult :=
  match objDesc s k with
  | none => { verdict := .refused, basis := .none, reason := .noObject, nodes := none }
  | some d =>
    match pointOf (ownAddress s) d.term1 with
    | none => { verdict := .refused, basis := .none, reason := .noObject, nodes := none }
    | some a =>
      let b := pointOf (ownAddress s) d.term2
      withBypass (source == .localPanel && bypassHolds s) (yardNodesOf (reachOf (edgesFor s k) a b))
        (testOf s k d.kind dir a b)

end Sys2Proof.Machine
end

