-- ==== Sys2Proof/Machine/ClaimOps.lean ====
section
/-! DEFINITION. The Claim Manager's shared operations: rank (R98), the concerned set and answer table (R101, R113), the
start of a claim (R99, R100), RELEASE (R108), withdrawal and the end of a HELD claim (R109), and the foreign claim list
(R114 to R117). -/

namespace Sys2Proof.Machine

/-- The rank of a claim: class, defer count, station address (R98). -/
structure Rank where
  cls        : Nat
  deferCount : Nat
  address    : Nat
  deriving DecidableEq, Repr

/-- One rank is better than another (R98): by class, then defer count, then the lower address. -/
def rankBetter (x y : Rank) : Bool :=
  if x.cls ≠ y.cls then decide (y.cls < x.cls)
  else if x.deferCount ≠ y.deferCount then decide (y.deferCount < x.deferCount)
  else decide (x.address < y.address)

/-- A terminal is a yard node of a set. -/
def terminalIn (nodes : NodeSet) : Terminal → Bool
  | .yard n => nodesHave nodes n
  | .localNode _ => false
  | .earth => false

/-- A peer is concerned in a claim set (R101): FRESH or SUSPECT, phase READY, and an object with a terminal on the set. -/
def peerConcerned (nodes : NodeSet) (e : Entry) : Bool :=
  e.state != .stale && e.content.phase == .ready &&
    e.content.objects.any fun o => terminalIn nodes o.term1 || terminalIn nodes o.term2

/-- The node itself is concerned in a claim set (R112): one of its own objects has a terminal on it. -/
def selfConcerned (s : State) (nodes : NodeSet) : Bool :=
  match s.copy with
  | some r => r.objects.any fun o => terminalIn nodes o.term1 || terminalIn nodes o.term2
  | none => false

/-- The concerned set of a claim set, as the view stands (R101). -/
def concernedStations (s : State) (nodes : NodeSet) : List Nat :=
  (s.view.entries.filter fun e => peerConcerned nodes e.2).map (·.1)

/-- The answer table adjusted to the concerned set (R101): an entry that stays keeps its state, a new one is AWAITING. -/
def adjustedAnswers (s : State) (nodes : NodeSet) : Table Answer :=
  (concernedStations s nodes).map fun st => (st, (tableGet s.claims.answers st).getD .awaiting)

/-- The answer table formed at the start of CLAIMING, every entry AWAITING (R101). -/
def freshAnswers (s : State) (nodes : NodeSet) : Table Answer :=
  (concernedStations s nodes).map fun st => (st, .awaiting)

/-- A RELEASE of claim `id` handed over, in the position or the no-position form (R108). -/
def handRelease (id : Byte) (form : Option (Nat × Position)) (s : State) : State :=
  handUrgent (ownFrame s .release 0 (releaseBody id s.view.counter form)) s

/-- The own claim becomes IDLE (R97, R120): the answer table is discarded, the window stopped, the ending kept; an
own-content event. -/
def claimToIdle (id : Byte) (cause : EndCause) (objection : Option Objection) (s : State) : State :=
  ownChanged
    (s.withClaims
      { s.claims with
        own := none, answers := [], window := none
        lastEnding := some { id := id, cause := cause, objection := objection } })

/-- A claim withdrawn: CLAIMS_WITHDRAWN rises (R109, step 4). -/
def countWithdrawn (s : State) : State :=
  s.withCounters { s.counters with claimsWithdrawn := bump s.counters.claimsWithdrawn }

/-- A withdrawal (R109): the CLAIM's removal, the RELEASE in its no-position form, and the return to IDLE. The report to
the Request Controller, where there is one, is the caller's next act. -/
def withdrawClaim (cause : EndCause) (objection : Option Objection) (s : State) : State :=
  match s.claims.own with
  | none => s
  | some c => claimToIdle c.id cause objection (countWithdrawn (handRelease c.id none (removeClaim s)))

/-- A withdrawal at a departure or at entry to SILENT (R109): no RELEASE and no report. -/
def dropClaiming (cause : EndCause) (s : State) : State :=
  match s.claims.own with
  | none => s
  | some c => if c.held then s else claimToIdle c.id cause none (countWithdrawn (removeClaim s))

/-- The end of a HELD claim (R109): a RELEASE unless the claim set is empty, in the position form when the drive
started. -/
def endHeldClaim (driven : Bool) (s : State) : State :=
  match s.claims.own with
  | none => s
  | some c =>
    let form := if driven then some (c.object, positionOf s c.object) else none
    let released := if c.nodes = 0 then s else handRelease c.id form s
    claimToIdle c.id (if driven then .travelEnded else .notDriven) none released

/-- What the Claim Manager answers to a request for a claim (R99, R128). -/
inductive ClaimAnswer where
  | claiming
  | held
  | foreign
  | linkBusy
  deriving DecidableEq, Repr

/-- The hold limit in 10 ms units from the travel limit and the verify settle (R99). -/
def holdLimitOf (travel settle : Nat) : Nat := (travel + settle + Config.holdMargin) / 10

/-- A claim set shares a yard node with a record of the foreign claim list (R99). -/
def foreignOverlap (s : State) (nodes : NodeSet) : Bool :=
  s.claims.foreign.any fun e => nodesOverlap nodes e.2.nodes

/-- The CLAIM frame of a round (R100). -/
def claimFrame (s : State) (c : OwnClaim) : Frame :=
  ownFrame s .claim 0 (claimBody c.id c.round c.cls c.deferCount c.holdLimit c.nodes)

/-- The fields of a claim that starts for an operation (R97, R99): HELD at once, with no round, when its set is empty. -/
def newClaim (s : State) (op : Operation) (nodes : NodeSet) : OwnClaim :=
  { held := nodes == 0, id := s.claims.nextId, round := if nodes = 0 then 0 else 1, cls := op.cls,
    deferCount := op.deferCount, holdLimit := holdLimitOf (op.travelLimit.getD 0) (fieldOf s (·.settle)), nodes := nodes,
    object := op.object, dir := op.dir, source := op.source, startPos := positionOf s op.object }

/-- CLAIMS_GRANTED rises (R107). -/
def countGranted (s : State) : State :=
  s.withCounters { s.counters with claimsGranted := bump s.counters.claimsGranted }

/-- The start of a claim (R99), in its order: empty set, foreign claim, link busy, claiming. -/
def startClaim (op : Operation) (nodes : NodeSet) (s : State) : State × ClaimAnswer :=
  let c := newClaim s op nodes
  if nodes = 0 then
    (countGranted (ownChanged (s.withClaims { s.claims with own := some c, nextId := s.claims.nextId + 1 })), .held)
  else if foreignOverlap s nodes then (s, .foreign)
  else if claimQueued s.link then (s, .linkBusy)
  else
    let s := handClaim c.id (claimFrame s c) s
    (ownChanged
      (s.withClaims { s.claims with own := some c, nextId := s.claims.nextId + 1, answers := freshAnswers s nodes }),
      .claiming)

/-- The grant at a window expiry (R107): the answer table is discarded, the window stopped, CLAIMS_GRANTED rises and the
claim is HELD. -/
def grantClaim (c : OwnClaim) (s : State) : State :=
  ownChanged
    (countGranted
      (s.withClaims { s.claims with own := some { c with held := true, round := 0 }, answers := [], window := none }))

/-- A new round (R104): the round rises, the table is adjusted, and a CLAIM with the same id is handed over. -/
def newRound (c : OwnClaim) (s : State) : State :=
  let c := { c with round := c.round + 1 }
  let s := s.withClaims { s.claims with own := some c, answers := adjustedAnswers s c.nodes, window := none }
  handClaim c.id (claimFrame s c) s

/-- A record of a station's claim in the foreign claim list replaces any earlier one (R115). -/
def recordForeign (station : Nat) (c : ClaimPart) (assented : Bool) (s : State) : State :=
  s.withClaims
    { s.claims with
      foreign := tablePut s.claims.foreign station
        { id := c.id, nodes := c.nodes, cls := c.cls, deferCount := c.deferCount, holdLimit := c.holdLimit,
          recorded := s.now, held := c.held, assented := assented } }

/-- A station's record is removed (R116). -/
def removeForeign (station : Nat) (s : State) : State :=
  s.withClaims { s.claims with foreign := tableDel s.claims.foreign station }

/-- An answer to a station's CLAIM (R112): ASSENT. -/
def handAssent (station : Nat) (id : Byte) (s : State) : State := handUrgent (ownFrame s .assent station [id]) s

/-- An answer to a station's CLAIM (R112): OBJECT with a reason. -/
def handObject (station : Nat) (id : Byte) (r : ObjectReason) (s : State) : State :=
  handUrgent (ownFrame s .object station [id, objectReasonCode r]) s

end Sys2Proof.Machine
end

