-- ==== Sys2Proof/Machine/Travel.lean ====
section
/-! DEFINITION. The travel limit (R142 to R146). -/

namespace Sys2Proof.Machine

/-- The drive kind of an object kind (R4). -/
def driveKindOf : Kind → DriveKind
  | .cb => .coil
  | .ds => .motor
  | .es => .motor

/-- The derating profile of a drive kind (R10). -/
def profileOf (r : BayRecord) : DriveKind → Profile
  | .motor => r.motorProfile
  | .coil => r.coilProfile

/-- The profile cell of a row (0 to 3 for 80 to 110 %) and a column (0 to 4 for -40 to +20 °C) (R10). -/
def cellAt (p : Profile) (row col : Nat) : Option Nat := p.getD (5 * row + col) none

/-- Step 1: the supply percentage, `none` when UNRATED (R143). -/
def supplyPercent (supply : MeasureIn) (nominal : Nat) : Option Nat :=
  let p := if supply.valid then supply.value.toNat * 10 / nominal else 80
  if p < 80 then none else some (min p 110)

/-- Step 2: the temperature used, as degrees above -40, `none` when UNRATED (R144). -/
def temperatureAbove (temperature : MeasureIn) : Option Nat :=
  let t := if temperature.valid then temperature.value else -40
  if t < -40 then none else some ((min t 20) + 40).toNat

/-- Steps 3 and 4: the derating in whole percent, `none` when one of the four cells is UNRATED (R145). `p` is 80 to 110,
`t` is 0 to 60. -/
def derating (profile : Profile) (p t : Nat) : Option Nat :=
  let row := min ((p - 80) / 10) 2
  let col := min (t / 15) 3
  let a := p - (80 + 10 * row)
  let b := t - 15 * col
  match cellAt profile row col, cellAt profile (row + 1) col, cellAt profile row (col + 1),
      cellAt profile (row + 1) (col + 1) with
  | some d00, some d10, some d01, some d11 =>
    some (ceilDiv (d00 * (10 - a) * (15 - b) + d10 * a * (15 - b) + d01 * (10 - a) * b + d11 * a * b) 150)
  | _, _, _, _ => none

/-- The longest travel limit, in ms (R146). -/
def travelMax : Nat := 65000

/-- Step 5: the travel limit from the base travel time and the derating (R146). -/
def travelFrom (base d : Nat) : Nat := min (ceilDiv (base * (100 + d)) 1000 * 10) travelMax

/-- Step 6: the departure limit of a travel limit (R146). -/
def departureLimit (l : Nat) : Nat := ceilDiv l 20 * 10

/-- The travel limit of an object, or UNRATED (R142 to R146). -/
def travelLimit (s : State) (d : ObjDesc) : Option Nat :=
  match s.copy with
  | none => none
  | some r =>
    match supplyPercent s.supply r.nominal, temperatureAbove s.temperature with
    | some p, some t => (derating (profileOf r (driveKindOf d.kind)) p t).map (travelFrom d.base)
    | _, _ => none

end Sys2Proof.Machine
end

