-- ==== Sys2Proof/Machine/RequestOps.lean ====
section
/-! DEFINITION. The Request Controller's and Travel Supervisor's shared operations: the end of an operation (R134), the
deferral (R131), the drive start (R149), the drive's end (R157), grant handling (R130), the head start (R128), and what
becomes of the head when its claim ends (R129) or its window expires (R104). -/

namespace Sys2Proof.Machine

/-- The head operation (R122). -/
def headOp (s : State) : Option Operation := s.req.queue.head?

/-- The head operation replaced. -/
def setHead (op : Operation) (s : State) : State :=
  s.withReq { s.req with queue := op :: s.req.queue.tail }

/-- An operation is the one a requester named with a tag (R125). -/
def isNamed (requester : Nat) (tag : Byte) (op : Operation) : Bool := op.requester == requester && op.tag == tag

/-- The object under command travels or settles for this operation. -/
def isDriven (op : Operation) : Bool := op.state == .travelling || op.state == .settling

/-- The operation waits: QUEUED, DEFERRED or CLAIMING. -/
def isWaiting (op : Operation) : Bool := !isDriven op

/-- The counters of an end (R134 step 3, R140). -/
def countEnd (o : OpOutcome) (c : Counters) : Counters :=
  match o with
  | .done => { c with opsDone := bump c.opsDone }
  | .failed => { c with opsFailed := bump c.opsFailed }
  | .refused => c
  | .cancelled => c

/-- Step 2 of the end of an operation (R134): a RESULT for a REMOTE operation, the last local result for a LOCAL one. -/
def answerEnd (op : Operation) (o : OpOutcome) (r : Reason) (s : State) : State :=
  match op.source with
  | .remote =>
    handUrgent
      (ownFrame s .result op.requester (resultBody op.tag op.object op.dir o r (positionOf s op.object))) s
  | .localPanel => setLastLocal { outcome := o, reason := r } s

/-- Step 4 of the end of an operation (R134): it leaves the queue; the defer timer of a DEFERRED operation stops (R132). -/
def leaveQueue (op : Operation) (s : State) : State :=
  s.withReq
    { s.req with
      queue := s.req.queue.filter fun q => !isNamed op.requester op.tag q
      deferTimer := if op.state = .deferred then none else s.req.deferTimer }

/-- The end of an operation (R134), without the head start of the next: the HELD claim of a driven operation is ended,
the answer given, the counter raised, and the operation leaves the queue. -/
def endOperation (op : Operation) (o : OpOutcome) (r : Reason) (s : State) : State :=
  let s := if isDriven op then endHeldClaim true s else s
  let s := answerEnd op o r s
  let s := s.withCounters (countEnd o s.counters)
  leaveQueue op s

/-- A deferral of the head (R131); the flag says that it ended beyond the stall limit and the next head is due. -/
def deferHead (r : Reason) (s : State) : State × Bool :=
  match headOp s with
  | none => (s, false)
  | some op =>
    if op.deferCount + 1 ≤ fieldOf s (·.stallLimit) then
      let s := setHead { op with state := .deferred, deferCount := op.deferCount + 1, lastDeferral := some r } s
      (s.withReq { s.req with deferTimer := some (s.now + fieldOf s (·.deferInterval)) }, false)
    else (endOperation op .failed r s, true)

/-! ### The drive -/

/-- The combination a drive is to reach (R147). -/
def targetComb : Direction → Comb
  | .toOpen => .c10
  | .toClose => .c01

/-- The combination a drive leaves (R147). -/
def startComb : Direction → Comb
  | .toOpen => .c01
  | .toClose => .c10

/-- The output of slot `k` in a set of eight outputs. -/
def outputBit (k : Nat) : BitVec 8 := (1 : BitVec 8) <<< (k - 1)

/-- The outputs with the one of a slot and direction energized (R149 step 3). -/
def energize (k : Nat) (dir : Direction) (d : Drive) : Drive :=
  match dir with
  | .toOpen => { d with openOutputs := d.openOutputs ||| outputBit k }
  | .toClose => { d with closeOutputs := d.closeOutputs ||| outputBit k }

/-- The outputs with the one of a slot and direction de-energized. -/
def deenergize (k : Nat) (dir : Direction) (d : Drive) : Drive :=
  match dir with
  | .toOpen => { d with openOutputs := d.openOutputs &&& ~~~ outputBit k }
  | .toClose => { d with closeOutputs := d.closeOutputs &&& ~~~ outputBit k }

/-- The record a drive start fills (R149 steps 1, 3 and 4). -/
def newDrive (s : State) (d : ObjDesc) (op : Operation) : DriveRecord :=
  let l := op.travelLimit.getD 0
  { object := op.object, dir := op.dir, kind := driveKindOf d.kind, start := startComb op.dir, target := targetComb op.dir,
    settling := false, energized := true, departed := false, travel := some (s.now + l),
    departure := some (s.now + departureLimit l),
    coilPulse := match driveKindOf d.kind with
      | .coil => some (s.now + fieldOf s (·.coilPulse))
      | .motor => none
    settle := none }

/-- The commanded flag of an object set (R23): a running intermediate timer stops (R21). -/
def setCommanded (k : Nat) (s : State) : State :=
  s.putObj k { objIn s k with commanded := true, intermediate := none }

/-- The commanded flag of an object cleared (R23): while it is MOVING the intermediate timer starts (R21). -/
def clearCommanded (k : Nat) (s : State) : State :=
  let o := objIn s k
  s.putObj k
    { o with
      commanded := false
      intermediate := if o.position = .moving then some (s.now + fieldOf s (·.intermediate)) else o.intermediate }

/-- A drive start (R149): the record, the commanded flag, the output, the timers. -/
def startDrive (d : ObjDesc) (op : Operation) (s : State) : State :=
  let s := setCommanded op.object s
  s.withDrive (energize op.object op.dir { s.drive with record := some (newDrive s d op) })

/-! ### Grant handling and the head start -/

/-- The bypass reason that a verdict gives its operation (R121, R128 step 3, R130 step 1). -/
def bypassReasonOf (r : EvalResult) : Option Reason :=
  if r.verdict = .permittedBypass then some r.reason else none

/-- The bypass reason of the head operation set or cleared by an evaluation of it (R121). -/
def setBypassReason (r : EvalResult) (s : State) : State :=
  s.withReq { s.req with queue := s.req.queue.modifyHead fun op => { op with bypassReason := bypassReasonOf r } }

/-- Grant handling (R130): final evaluation, mechanism ready, drive start. The flag says that the operation ended. -/
def grantHandling (s : State) : State × Bool :=
  match headOp s with
  | none => (s, false)
  | some op =>
    let v := evaluate s op.object op.dir op.source
    if v.verdict = .refused then (endOperation op .refused v.reason (endHeldClaim false s), true)
    else
      let op := { op with bypassReason := bypassReasonOf v }
      let s := setHead op s
      match objDesc s op.object with
      | none => deferHead .notReady (endHeldClaim false s)
      | some d =>
        if (objIn s op.object).ready = .ready then (startDrive d op (setHead { op with state := .travelling } s), false)
        else deferHead .notReady (endHeldClaim false s)

/-- The position step of a head start (R128 step 1): the reason of a refusal. -/
def positionRefusal (p : Position) (dir : Direction) : Option Reason :=
  match p with
  | .faulty => some .faulty
  | .moving => some .moving
  | .unknown => some .moving
  | .opened => if dir = .toOpen then some .already else none
  | .closed => if dir = .toClose then some .already else none

/-- The travel limit of the head's object, or UNRATED (R128 step 2). -/
def headTravel (s : State) (op : Operation) : Option Nat := (objDesc s op.object).bind (travelLimit s)

/-- The claim step of a head start (R128 step 4). -/
def claimStep (op : Operation) (nodes : NodeSet) (s : State) : State × Bool :=
  match startClaim op nodes s with
  | (s, .claiming) => (setHead { op with state := .claiming } s, false)
  | (s, .held) => grantHandling s
  | (s, .foreign) => deferHead .foreign s
  | (s, .linkBusy) => deferHead .linkBusy s

/-- The steps of a head start (R128). The flag says that the operation ended and the next head is due. -/
def startHead (op : Operation) (s : State) : State × Bool :=
  match positionRefusal (positionOf s op.object) op.dir with
  | some r => (endOperation op .refused r s, true)
  | none =>
    match headTravel s op with
    | none => (endOperation { op with travelLimit := none } .failed .mechUnrated s, true)
    | some l =>
      let op := { op with travelLimit := some l }
      let s := setHead op s
      let v := evaluate s op.object op.dir op.source
      match v.nodes with
      | none => (endOperation op .refused v.reason s, true)
      | some nodes =>
        let op := { op with bypassReason := bypassReasonOf v }
        claimStep op nodes (setHead op s)

/-- The changes of a QUEUED operation's object that wait for the Request Controller are seen at its head start, and end
nothing later (R133; DEDUCED, log 32). -/
def seePositions (op : Operation) (s : State) : State :=
  if op.state = .queued then
    s.withHandover { s.handover with positions := s.handover.positions.filter (· != op.object) }
  else s

/-- One head start (R128, R133). The flag says that the operation ended and the next head is due. -/
def headStart (s : State) : State × Bool :=
  match headOp s with
  | none => (s, false)
  | some op => startHead op (seePositions op s)

/-- Head starts until one leaves its operation in the queue, at most `n` (R122, R128). -/
def runHeads : Nat → State → State
  | 0, s => s
  | n + 1, s =>
    match headOp s with
    | none => s
    | some _ =>
      let r := headStart s
      if r.2 then runHeads n r.1 else r.1

/-- The head starts that follow when an operation becomes head (R122): each one that ends its operation shortens the
queue, so the queue's length bounds them. -/
def nextHead (s : State) : State := runHeads s.req.queue.length s

/-- What follows an act on the head: the next head's start when the head has ended. -/
def followUp (r : State × Bool) : State := if r.2 then nextHead r.1 else r.1

/-! ### The ends of a claim, as the Request Controller takes them -/

/-- What the Claim Manager reports when a claim ends in CLAIMING (R129). -/
inductive ClaimReport where
  | defer (r : Reason)
  | refused (r : Reason)
  | positionChanged
  deriving DecidableEq, Repr

/-- The cause a report is kept under as the last ending (R120). -/
def reportCause : ClaimReport → EndCause
  | .defer r => .reason r
  | .refused r => .reason r
  | .positionChanged => .reason .positionChanged

/-- The Request Controller's act on a report (R129). -/
def takeReport (rep : ClaimReport) (s : State) : State :=
  match headOp s with
  | none => s
  | some op =>
    match rep with
    | .defer r => followUp (deferHead r s)
    | .refused r => nextHead (endOperation op .refused r s)
    | .positionChanged => nextHead (endOperation op .failed .positionChanged s)

/-- A withdrawal that is reported (R109, R129). -/
def withdrawAndReport (rep : ClaimReport) (objection : Option Objection) (s : State) : State :=
  takeReport rep (withdrawClaim (reportCause rep) objection s)

/-- Every entry of the answer table is ASSENTED and no station of the table has a SUSPECT entry (R104 row 1). -/
def answersGrant (s : State) : Bool :=
  s.claims.answers.all fun e =>
    e.2 == .assented &&
      match entryOf s e.1 with
      | some v => v.state != .suspect
      | none => true

/-- The judgement of the answer table at a window expiry (R104). -/
def judgeWindow (s : State) : State :=
  match s.claims.own with
  | none => s
  | some c =>
    if c.held then s
    else if answersGrant s then followUp (grantHandling (grantClaim c s))
    else if c.round < Config.lastRound then newRound c s
    else if c.source = .localPanel ∧ bypassHolds s = true then followUp (grantHandling (grantClaim c s))
    else withdrawAndReport (.defer .noAnswer) none s

/-! ### The end of a drive -/

/-- Step 1 of a drive's end (R157): the output is de-energized, and the record's timers stop with it. -/
def stopDrive (d : DriveRecord) (s : State) : State := s.withDrive { deenergize d.object d.dir s.drive with record := none }

/-- The reason of DONE: the bypass reason, or NONE (R135). -/
def doneReason (op : Operation) : Reason := op.bypassReason.getD .none

/-- The report of a drive's end to the Request Controller (R157 step 5, R134). -/
def reportDriveEnd (o : OpOutcome) (r : Reason) (s : State) : State :=
  match headOp s with
  | none => s
  | some op => nextHead (endOperation op o (if o = .done then doneReason op else r) s)

/-- The end of a drive (R157). The record is IDLE before the end is reported. -/
def endDrive (o : OpOutcome) (r : Reason) (s : State) : State :=
  match s.drive.record with
  | none => s
  | some d =>
    let s := clearCommanded d.object (stopDrive d s)
    let s := if o = .failed then reportEvent .travelFail s else s
    reportDriveEnd o r s

end Sys2Proof.Machine
end

