-- ==== Sys2Proof/Machine/FieldOps.lean ====
section
/-! DEFINITION. The Field Interface's shared operations: the qualification of objects, sensors, single inputs and
measurements (R19 to R34), and what the Travel Supervisor does with a qualification event of the commanded object
(R151 to R156). -/

namespace Sys2Proof.Machine

/-! ### Objects -/

/-- The position a newly qualified combination gives (R20). -/
def positionFor (c : Comb) (previous : Position) : Position :=
  match c with
  | .c10 => .opened
  | .c01 => .closed
  | .c11 => .faulty
  | .c00 => if previous = .faulty then .faulty else .moving

/-- The intermediate timer after a qualification event (R20, R21): started when the position becomes MOVING while the
commanded flag is clear, and stopped otherwise. -/
def intermediateFor (p : Position) (commanded : Bool) (expiry : Nat) : Option Nat :=
  if p = .moving ∧ commanded = false then some expiry else none

/-- A change of an own object's qualified position handed over (R24): an own-content event, a view change naming the own
station, a hand-over to the Request Controller, and the fault logic. -/
def handPosition (k : Nat) (s : State) : State :=
  let s := raiseView (ownAddress s) none (ownChanged s)
  watchFaulty (s.withHandover { s.handover with positions := s.handover.positions ++ [k] })

/-- The arrival (R152): departure seen, output off, timers stopped, SETTLING, and the operation SETTLING (R135). -/
def arrive (d : DriveRecord) (s : State) : State :=
  let rec' : DriveRecord :=
    { d with departed := true, energized := false, travel := none, departure := none, coilPulse := none, settling := true,
             settle := some (s.now + fieldOf s (·.settle)) }
  let s := s.withDrive { deenergize d.object d.dir s.drive with record := some rec' }
  match headOp s with
  | none => s
  | some op => setHead { op with state := .settling } s

/-- The departure (R151): departure seen is set and the departure timer stopped. -/
def depart (d : DriveRecord) (s : State) : State :=
  s.withDrive { s.drive with record := some { d with departed := true, departure := none } }

/-- A qualification event of the commanded object, as the Travel Supervisor takes it (R151 to R154, R156). -/
def superviseEvent (c : Comb) (s : State) : State :=
  match s.drive.record with
  | none => s
  | some d =>
    if d.settling then (if c = d.target then s else endDrive .failed .reversed s)
    else if c = d.target then arrive d s
    else if c = .c11 then endDrive .failed .contactFault s
    else if c = d.start then endDrive .failed .reversed s
    else depart d s

/-- The event goes to the Travel Supervisor while the object's commanded flag is set (R23, R24). -/
def superviseIf (commanded : Bool) (c : Comb) (s : State) : State := if commanded then superviseEvent c s else s

/-- The object of slot `k` after its combination `c` has qualified (R19 to R22). -/
def qualifiedObj (s : State) (o : ObjIn) (c : Comb) : ObjIn :=
  let p := positionFor c o.position
  { o with qualified := some c, position := p,
           intermediate := intermediateFor p o.commanded (s.now + fieldOf s (·.intermediate)) }

/-- The qualification event of combination `c` at slot `k` (R20, R24): the new state, the hand-overs of a changed
position, then the Travel Supervisor. -/
def qualifyObject (k : Nat) (c : Comb) (s : State) : State :=
  let o := objIn s k
  let o' := qualifiedObj s o c
  let s := s.putObj k o'
  let s := if o'.position = o.position then s else handPosition k s
  superviseIf o.commanded c s

/-! ### Sensors -/

/-- The qualification event of a sensor's pair (R27): a changed indication is an own-content event and a view change. -/
def qualifySensor (k : Nat) (p : RawPair) (s : State) : State :=
  let i := sensorIn s k
  let s' := s.withSensors (tablePut s.sensors k { i with qualified := some p, indication := indicationOf p })
  if indicationOf p = i.indication then s' else raiseView (ownAddress s) none (ownChanged s')

/-! ### Single inputs -/

/-- A single input (R28). -/
def singleOf (s : State) : SingleInput → SingleIn
  | .selector => s.singles.selector
  | .bypassKey => s.singles.bypassKey
  | .synchroPermit => s.singles.synchro
  | .faultReset => s.singles.faultReset
  | .localPush k .toOpen => (tableGet s.singles.openPushes k).getD {}
  | .localPush k .toClose => (tableGet s.singles.closePushes k).getD {}

/-- `s` with a single input replaced. -/
def State.putSingle (s : State) (which : SingleInput) (i : SingleIn) : State :=
  s.withSingles
    (match which with
      | .selector => { s.singles with selector := i }
      | .bypassKey => { s.singles with bypassKey := i }
      | .synchroPermit => { s.singles with synchro := i }
      | .faultReset => { s.singles with faultReset := i }
      | .localPush k .toOpen => { s.singles with openPushes := tablePut s.singles.openPushes k i }
      | .localPush k .toClose => { s.singles with closePushes := tablePut s.singles.closePushes k i })

/-- A rising edge: from a qualified open contact to a closed one (R28). -/
def risingEdge (previous : Option Bool) (contact : Bool) : Bool := previous == some false && contact

/-- A local push edge (R32): a local request while the node takes requests and the selector is LOCAL, else discarded. -/
def pushEdge (k : Nat) (dir : Direction) (s : State) : State :=
  if inService s && selectorOf s == .localMode then
    s.withHandover { s.handover with locals := s.handover.locals ++ [(k, dir)] }
  else s

/-- A changed selector handed over (R29). -/
def handSelector (s : State) : State :=
  let s := ownChanged s
  s.withHandover { s.handover with selectors := s.handover.selectors ++ [selectorOf s] }

/-- What follows the qualification of a single input (R28 to R32, R37), given its previous qualified state. -/
def singleQualified (which : SingleInput) (previous : Option Bool) (contact : Bool) (s : State) : State :=
  match which with
  | .selector => handSelector s
  | .bypassKey => ownChanged s
  | .synchroPermit => s
  | .faultReset => if risingEdge previous contact then faultResetEdge s else s
  | .localPush k dir => if risingEdge previous contact then pushEdge k dir s else s

/-- The raw state of a single input qualifies, when it differs from the qualified one (R19, R28). -/
def qualifySingle (which : SingleInput) (s : State) : State :=
  let i := singleOf s which
  if i.qualified = some i.contact then s
  else singleQualified which i.qualified i.contact (s.putSingle which { i with qualified := some i.contact })

/-- The single inputs in a fixed order. -/
def allSingles : List SingleInput :=
  [.selector, .bypassKey, .synchroPermit, .faultReset] ++
    (List.range' 1 8).flatMap fun k => [.localPush k .toOpen, .localPush k .toClose]

/-- The inputs whose raw state has already stood for the record's time when LISTEN is entered qualify at that entry
(R28). -/
def qualifyRipeSingles (s : State) : State :=
  allSingles.foldl
    (fun s which => if (singleOf s which).since + qualificationTime s ≤ s.now then qualifySingle which s else s) s

/-! ### Measurements -/

/-- A measurement. -/
def measureOf (s : State) : Measure → MeasureIn
  | .supply => s.supply
  | .temperature => s.temperature

/-- `s` with a measurement replaced. -/
def State.putMeasure (s : State) (which : Measure) (m : MeasureIn) : State :=
  match which with
  | .supply => s.withSupply m
  | .temperature => s.withTemperature m

/-- A measurement after a reading at a moment (R33): the value follows in-range readings; the persistence restarts when
readings go out of range or come back. -/
def takeReading (which : Measure) (r : Reading) (now : Nat) (m : MeasureIn) : MeasureIn :=
  let inRange := readingInRange which r
  { m with
    value := match r with
      | .value v => if inRange then roundedReading which v else m.value
      | .inputOpen => m.value
    inRange := inRange
    since := if inRange = m.inRange then m.since else now }

/-- The readings now standing differ from the measurement's state, so that their persistence would change it (R33). -/
def measureTurns (m : MeasureIn) : Bool := m.inRange != m.valid

/-- The measurement takes the state of the readings that have stood (R33). -/
def turnMeasure (which : Measure) (s : State) : State :=
  let m := measureOf s which
  s.putMeasure which { m with valid := m.inRange }

/-- The measurements whose readings have already stood for the record's time when LISTEN is entered (R28, R33). -/
def qualifyRipeMeasures (s : State) : State :=
  [Measure.supply, .temperature].foldl
    (fun s which =>
      let m := measureOf s which
      if measureTurns m && decide (m.since + qualificationTime s ≤ s.now) then turnMeasure which s else s) s

end Sys2Proof.Machine
end

