-- ==== Sys2Proof/Machine/PhaseOps.lean ====
section
/-! DEFINITION. Resets (R162), the phases (R163 to R168), the departure (R167), the port's exchange (R171), and the taking
of a reset by each block. -/

namespace Sys2Proof.Machine

/-! ### The port's exchange -/

/-- The bytes of a response frame (R180). -/
def responseBytes (r : Response) : List Byte :=
  let core := [r.code, r.status] ++ halfBytes r.data.length ++ r.data
  [0x7D] ++ core ++ checkBytes core

/-- A BUSY carrying a refused command's code (R171, R180). -/
def busyResponse (code : Byte) : Response := { code := code, status := statusBusy, data := [] }

/-- The transmitter's next response when it is idle (R171): an owed BUSY first, then the outstanding command's response. -/
def Port.kick (p : Port) : Port :=
  match p.sending, p.owedBusy, p.response with
  | some _, _, _ => p
  | none, some code, _ => { p with sending := some { busy := true, bytes := responseBytes (busyResponse code) } }
  | none, none, some r => { p with sending := some { busy := false, bytes := responseBytes r } }
  | none, none, none => p

/-- The outstanding command's response is known and is sent when the transmitter allows (R171). -/
def respondWith (code status : Byte) (data : List Byte) (s : State) : State :=
  s.withPort ({ s.port with response := some { code := code, status := status, data := data } } : Port).kick

/-! ### Resets -/

/-- An object slot after a reset (R25): its pins stay, its qualified state is gone. -/
def resetObj (o : ObjIn) : ObjIn :=
  { o with qualified := none, position := .unknown, ready := .unknown, commanded := false, intermediate := none }

/-- A sensor after a reset (R27). -/
def resetSensor (i : SensorIn) : SensorIn := { i with qualified := none, indication := .unknown }

/-- A single input after a reset (R28): UNKNOWN, and its qualification begins at the start of the reset. -/
def resetSingle (now : Nat) (i : SingleIn) : SingleIn := { i with qualified := none, since := now }

/-- The single inputs after a reset. -/
def resetSingles (now : Nat) (x : Singles) : Singles :=
  { selector := resetSingle now x.selector, bypassKey := resetSingle now x.bypassKey, synchro := resetSingle now x.synchro,
    faultReset := resetSingle now x.faultReset, openPushes := tableMap (resetSingle now) x.openPushes,
    closePushes := tableMap (resetSingle now) x.closePushes }

/-- A measurement after a reset (R34): FAULT, and its persistence starts from the reset. -/
def resetMeasure (now : Nat) (m : MeasureIn) : MeasureIn := { m with valid := false, since := now }

/-- The counters after a reset (R174): 0 for POWER_ON, else as they were. -/
def resetCounters (cause : ResetCause) (c : Counters) : Counters := if cause = .powerOn then Counters.zero else c

/-- A reset of a cause (R162): every block takes its own reset, the phase becomes SELF_TEST and the cause is kept. The
Configuration Store keeps its content (R6), and no record is in force until the self-test ends: the copy is gone. -/
def resetNode (cause : ResetCause) (s : State) : State :=
  { s with
    copy := none
    objects := tableMap resetObj s.objects
    sensors := tableMap resetSensor s.sensors
    singles := resetSingles s.now s.singles
    supply := resetMeasure s.now s.supply
    temperature := resetMeasure s.now s.temperature
    faults := Faults.clear
    link := Link.empty s.link.draws
    view := View.empty
    claims := Claims.empty
    req := Requests.empty
    drive := Drive.idle
    start := { phase := .selfTest, cause := cause, listen := none, announce := none, departure := none }
    port := Port.idle
    counters := resetCounters cause s.counters
    handover := Handover.none }

/-! ### Phases -/

/-- The phase changed, an own-content event from LISTEN on (R60, R161). -/
def enterPhase (p : Phase) (s : State) : State := ownChanged (s.withStart { s.start with phase := p })

/-- An object slot at entry to LISTEN (R25): the raw states present start their persistence. -/
def startObj (now : Nat) (o : ObjIn) : ObjIn := { o with since := now, readySince := now }

/-- A sensor at entry to LISTEN (R27). -/
def startSensor (now : Nat) (i : SensorIn) : SensorIn := { i with since := now }

/-- The entry to LISTEN with a record in force (R164): the listen timer, the start of object and sensor qualification,
the mask that now selects the relay, the own content afresh (R64), and the inputs that qualify at that entry (DEDUCED,
log 22). -/
def enterListen (r : BayRecord) (s : State) : State :=
  let s := { s with
    copy := some r
    objects := tableMap (startObj s.now) s.objects
    sensors := tableMap (startSensor s.now) s.sensors
    start := { s.start with phase := .listen, listen := some (s.now + Config.listenTime) }
    view := { s.view with counter := 0, joining := false }
    req := { s.req with lastLocal := none } }
  qualifyRipeMeasures (qualifyRipeSingles (refreshRelay s))

/-- The store's self-test passes (R14): status IN_FORCE, the failing place cleared. -/
def storeInForce (s : State) : State := s.withStore { s.store with status := .inForce, failing := none }

/-- The store's self-test fails at a place (R14). -/
def storeRejected (p : Place) (s : State) : State := s.withStore { s.store with status := .rejected, failing := some p }

/-- The phase UNCONFIGURED (R163). -/
def enterUnconfigured (s : State) : State := s.withStart { s.start with phase := .unconfigured }

/-- The end of the self-test (R14, R163). -/
def endSelfTest (s : State) : State :=
  match s.store.status, s.store.stored with
  | .none, _ => enterUnconfigured s
  | _, none => enterUnconfigured s
  | _, some bytes =>
    match checkRecord bytes with
    | none => enterListen (parseRecord bytes) (storeInForce s)
    | some p => beginCondition .configInvalid (enterUnconfigured (storeRejected p s))

/-- The entry to READY (R166): the phase event, its STATUS, and the silence timer (R75). -/
def enterReady (s : State) : State :=
  let s := enterPhase .ready s
  s.withView { s.view with silence := some (s.now + 3 * fieldOf s (·.heartbeat)) }

/-! ### Departure and silence -/

/-- The erase's store change (R15 step 2): status NONE, the record and the failing place gone. With the status no longer
IN_FORCE no record is in force (R6), so the relay follows the mask of all five causes (R38), while the blocks go on with
the copy they read (R14; DEDUCED, log 8). With the status no longer REJECTED the condition CONFIG_INVALID ends (R11, R35;
DEDUCED, log 28). -/
def eraseStore (s : State) : State :=
  refreshRelay (endCondition .configInvalid (s.withStore { status := .none, stored := none, failing := none }))

/-- The response of a command that restarts the node (R175), with the erase carried out first (R15). -/
def finishDeparture (d : Departure) (s : State) : State :=
  match d with
  | .restart => respondWith codeRestart statusRestarting [] s
  | .erase => respondWith codeEraseConfig statusErased [] (eraseStore s)

/-- The end of a departure, when the FINAL STATUS has been sent or abandoned (R167); the controller begins no further
attempt (R50). Departure stays pending until the restart (DEDUCED, log 11). -/
def endDeparture (s : State) : State :=
  let s := s.withLink { s.link with halted := true }
  match s.start.departure with
  | none => s
  | some d => finishDeparture d s

/-- A departure taken in READY (R167): the queue is emptied, a CLAIMING claim dropped, and the FINAL STATUS asked for. -/
def beginDeparture (d : Departure) (s : State) : State :=
  let s := s.withStart { s.start with departure := some d }
  let s := s.withReq { s.req with queue := [], deferTimer := none }
  requestFinal (dropClaiming .leaving s)

/-- The controller at entry to SILENT (R58): its queues are emptied, an attempt on the line runs on. -/
def silenceLink (s : State) : State :=
  s.withLink { s.link with urgent := [], normal := [], inbound := [], viewTaken := false, current := none, header := none }

/-- The Request Controller at entry to SILENT (R141): the waiting operations are removed, the defer timer stopped. -/
def silenceRequests (s : State) : State :=
  s.withReq { s.req with queue := s.req.queue.filter isDriven, deferTimer := none }

/-- The View Manager at entry to SILENT (R75): the silence timer stops, which ends LINK_SILENT. -/
def silenceView (s : State) : State := endCondition .linkSilent (s.withView { s.view with silence := none })

/-- The departure's remaining steps after an address conflict (R168), unless its end has been taken already (DEDUCED,
log 11). -/
def conflictDeparture (d : Option Departure) (ended : Bool) (s : State) : State :=
  match d with
  | none => s
  | some d => if ended then s else finishDeparture d s

/-- An address conflict (R168): SILENT, the condition ADDRESS_CONFLICT, and what each block does with the phase. -/
def goSilent (s : State) : State :=
  let departure := s.start.departure
  let ended := s.link.halted
  let s := s.withStart { s.start with listen := none, announce := none, departure := none }
  let s := silenceLink (enterPhase .silent s)
  let s := beginCondition .addressConflict s
  let s := silenceRequests (dropClaiming .silenced s)
  conflictDeparture departure ended (silenceView s)

end Sys2Proof.Machine
end

