-- ==== Sys2Proof/Machine/LineEvents.lean ====
section
/-! DEFINITION. The commands of the Yard Link Controller (03): attempts (R45 to R50) and received frames (R51 to R57). -/

namespace Sys2Proof.Machine

/-! ### Attempts -/

/-- The item the current frame stands for, as a frame (R43 to R46): a STATUS is assembled from the own content as it
stands (R45, R64). -/
def currentFrame (s : State) (cls : FrameClass) : Option Frame :=
  match cls with
  | .urgent => (s.link.urgent.head?).map (·.frame)
  | .normal =>
    match s.link.normal with
    | [] => none
    | .claim _ f _ _ :: _ => some f
    | .marker _ final _ :: _ =>
      (ownContent s).map fun c =>
        { type := .status, src := ownAddress s, dst := 0, final := final,
          body := statusBody c s.view.joining (ownClaimPart s) }

/-- The attempts made of the current frame. -/
def currentAttempts (l : Link) (cls : FrameClass) : Nat :=
  match cls with
  | .urgent =>
    match l.urgent with
    | i :: _ => i.attempts
    | [] => 0
  | .normal =>
    match l.normal with
    | .marker _ _ n :: _ => n
    | .claim _ _ n _ :: _ => n
    | [] => 0

/-- The wait of the current frame, in bit times of idle line (R47). -/
def waitOf (l : Link) (c : Current) : Nat :=
  match c.cls with
  | .urgent => if currentAttempts l .urgent = 0 then 16 else 16 + c.k * 8
  | .normal => 32 + c.k * 8

/-- The longest wait of any frame (R47). -/
def longestWait : Nat := 152

/-- The line has been idle for the wait. An idle time of the longest wait or more is long enough whatever k is (DESIGN
CHOICE, log 24). -/
def waited (l : Link) (c : Current) (idle : Nat) : Bool := decide (longestWait ≤ idle) || decide (waitOf l c ≤ idle)

/-- ATTEMPT_START (R47, R48): the current frame's attempt begins once the line has been idle for its wait. The node
transmits in ANNOUNCE and READY alone (R58), one attempt at a time, and none after a FINAL STATUS has ended (R50). -/
def execAttemptStart (idle : Nat) (s : State) : Host.Outcome State Fault Refusal :=
  .next (match s.link.attempt, s.link.current with
    | none, some c =>
      if transmits s.start.phase && !s.link.halted && waited s.link c idle then
        match currentFrame s c.cls with
        | none => s
        | some f =>
          s.withLink
            { s.link with
              attempt := some { cls := c.cls, frame := f, symbols := frameSymbols f, inReady := s.start.phase == .ready } }
      else s
    | _, _ => s)

/-- A marker's end reported to the View Manager (R62, R63, R64): the heartbeat timer restarts; JOINING clears when the
STATUS was sent by an attempt that began in READY. -/
def markerEnded (sentInReady : Bool) (s : State) : State :=
  s.withView
    { s.view with
      heartbeat := some (s.now + fieldOf s (·.heartbeat))
      joining := if sentInReady then false else s.view.joining }

/-- The marker that follows one that left the queue (R45, R50): FINAL after a NORMAL attempt of a FINAL marker, a fresh
one after RENEW. -/
def followingMarker (renew final finalSent : Bool) : List NormalItem :=
  if final then (if finalSent then [] else [.marker false true 0]) else if renew then [.marker false false 0] else []

/-- A SENT report of a CLAIM (R102): the window starts, when the own claim is CLAIMING with that id. -/
def claimSent (id : Byte) (s : State) : State :=
  match s.claims.own with
  | none => s
  | some c =>
    if c.held = false ∧ c.id = id then
      s.withClaims { s.claims with window := some (s.now + fieldOf s (·.claimWindow)) }
    else s

/-- An ABANDONED report of a CLAIM (R102): the round's window expiry, at once. -/
def claimAbandoned (id : Byte) (s : State) : State :=
  match s.claims.own with
  | none => s
  | some c => if c.held = false ∧ c.id = id then judgeWindow s else s

/-- The end of an attempt: the line is free and there is no current frame. -/
def clearAttempt (s : State) : State := s.withLink { s.link with attempt := none, current := none }

/-- The STATUS marker's attempt was sent (R45, R49, R50, R165, R166, R167). -/
def markerSent (renew final : Bool) (rest : List NormalItem) (a : Attempt) (s : State) : State :=
  let s := s.withLink { s.link with normal := rest ++ followingMarker renew final a.frame.final }
  let s := markerEnded a.inReady s
  let s := if s.start.phase = .announce then enterReady s else s
  if final && a.frame.final then endDeparture s else s

/-- FRAME_SENT (R49): the attempt on the line reaches its last bit and its frame leaves its queue. After entry to SILENT
the end is not reported (R58). -/
def execFrameSent (s : State) : Host.Outcome State Fault Refusal :=
  .next (match s.link.attempt with
    | none => s
    | some a =>
      let s := clearAttempt s
      match a.cls, s.link.urgent, s.link.normal with
      | .urgent, _ :: rest, _ => (s.withLink { s.link with urgent := rest }).pick
      | .normal, _, .marker renew final _ :: rest => (markerSent renew final rest a s).pick
      | .normal, _, .claim id _ _ _ :: rest => (claimSent id (s.withLink { s.link with normal := rest })).pick
      | _, _, _ => s)

/-- A frame abandoned: TX_ABANDONED rises (R49). -/
def countAbandoned (s : State) : State :=
  s.withCounters { s.counters with txAbandoned := bump s.counters.txAbandoned }

/-- The STATUS marker was abandoned (R45, R49, R50, R165): in ANNOUNCE a further STATUS is asked for at once. A RENEW of
the abandoned attempt counts (DEDUCED, log 9). -/
def markerAbandoned (renew final : Bool) (rest : List NormalItem) (s : State) : State :=
  let s := s.withLink { s.link with normal := rest ++ followingMarker renew final true }
  let s := markerEnded false (countAbandoned s)
  let s := if s.start.phase = .announce then requestStatus s else s
  if final then endDeparture s else s

/-- An attempt of an urgent frame collided (R48, R49). -/
def urgentCollided (i : UrgentItem) (rest : List UrgentItem) (s : State) : State :=
  if i.attempts + 1 < Config.attemptLimit then
    s.withLink { s.link with urgent := { i with attempts := i.attempts + 1 } :: rest }
  else countAbandoned (s.withLink { s.link with urgent := rest })

/-- An attempt of the marker collided (R45, R48, R49): RENEW clears with the retry. -/
def markerCollided (renew final : Bool) (n : Nat) (rest : List NormalItem) (s : State) : State :=
  if n + 1 < Config.attemptLimit then s.withLink { s.link with normal := .marker false final (n + 1) :: rest }
  else markerAbandoned renew final rest s

/-- An attempt of the CLAIM collided (R46, R48, R49): a removal asked for takes effect, with no report and no count (DEDUCED,
log 10). -/
def claimCollided (id : Byte) (f : Frame) (n : Nat) (removed : Bool) (rest : List NormalItem) (s : State) : State :=
  if removed then s.withLink { s.link with normal := rest }
  else if n + 1 < Config.attemptLimit then s.withLink { s.link with normal := .claim id f (n + 1) removed :: rest }
  else claimAbandoned id (countAbandoned (s.withLink { s.link with normal := rest }))

/-- The attempt on the line collided (R48): the node stops driving, counts the attempt and chooses its current frame
afresh. After entry to SILENT there is no retry (R58). -/
def collide (a : Attempt) (s : State) : State :=
  let s := clearAttempt s
  match a.cls, s.link.urgent, s.link.normal with
  | .urgent, i :: rest, _ => (urgentCollided i rest s).pick
  | .normal, _, .marker renew final n :: rest => (markerCollided renew final n rest s).pick
  | .normal, _, .claim id f n removed :: rest => (claimCollided id f n removed rest s).pick
  | _, _, _ => s

/-- COLLISION (R48): the level read back in a half-bit differs from the level driven in it. A half-bit read as driven is no
collision (DESIGN CHOICE, log 24). -/
def execCollision (halfBit : Nat) (read : Level) (s : State) : Host.Outcome State Fault Refusal :=
  .next (match s.link.attempt with
    | none => s
    | some a =>
      match levelAt a.symbols halfBit with
      | none => s
      | some driven => if driven = read then s else collide a s)

/-! ### Received frames -/

/-- A header failed (R52): the frame is discarded, and while the line is still busy the rest of the stretch is ignored. -/
def headerFailed (busy : Bool) (s : State) : State :=
  (s.withCounters { s.counters with headerErrors := bump s.counters.headerErrors }).withLink
    { s.link with header := none, ignoring := busy }

/-- A passed header is taken up: its body follows (R54). It takes the place of one still under reception (DEDUCED,
log 13). -/
def headerPassed (h : Header) (s : State) : State := s.withLink { s.link with header := some h, ignoring := false }

/-- A passed header with the own address as source (R53, R58): an address conflict, and in SILENT only a discarded
frame, uncounted; the rest of the frame is ignored (DEDUCED, log 13). -/
def ownSourceHeader (s : State) : State :=
  let s := s.withLink { s.link with header := none, ignoring := true }
  if s.start.phase = .silent then s else goSilent s

/-- The symbols of a header. -/
def headerLength : Nat := 6

/-- The receiver takes a header up (R51 to R53): the first of a stretch of busy line always, one that follows in the same
stretch unless a frame is under reception or the rest of the stretch is ignored, and one of the node's own transmission
never. -/
def takesUp (l : Link) : HeaderOrigin → Bool
  | .afterIdle => true
  | .sameStretch => l.header.isNone && !l.ignoring
  | .ownTransmission => false

/-- HEADER_RECEIVED (R51 to R53): judged while receiving is on (R58). A header taken up before the node's own attempt began
may be judged while the attempt is on the line (R165; DEDUCED, log 13). -/
def execHeaderReceived (heard : HeardHeader) (s : State) : Host.Outcome State Fault Refusal :=
  .next (if receives s.start.phase && takesUp s.link heard.origin then
    match judgeHeader heard.syms with
    | none => headerFailed (decide (headerLength ≤ heard.syms.length)) s
    | some h => if h.src = ownAddress s then ownSourceHeader s else headerPassed h s
    else s)

/-- A suspect report (R70): a FRESH entry becomes SUSPECT, a view change. -/
def suspectReport (station : Nat) (s : State) : State :=
  match entryOf s station with
  | none => s
  | some e =>
    if e.state = .fresh then
      raiseView station (some .suspect)
        (s.withView { s.view with entries := tablePut s.view.entries station { e with state := .suspect } })
    else s

/-- A good-frame report (R75): in READY the silence timer restarts and LINK_SILENT ends. -/
def goodFrameReport (s : State) : State :=
  if s.start.phase = .ready then
    endCondition .linkSilent (s.withView { s.view with silence := some (s.now + 3 * fieldOf s (·.heartbeat)) })
  else s

/-- A body failed (R54): counted, and its source reported suspect except in SILENT (R58). -/
def bodyFailed (h : Header) (s : State) : State :=
  let s := s.withCounters { s.counters with bodyErrors := bump s.counters.bodyErrors }
  if s.start.phase = .silent then s else suspectReport h.src s

/-- A good frame that is an answer for gateways or is addressed elsewhere is discarded (R55). -/
def discards (s : State) (f : Frame) : Bool :=
  (f.dst != 0 && f.dst != ownAddress s) || f.type == .accept || f.type == .result

/-- A good frame (R55): reported, then discarded, queued or overrun. In SILENT it is discarded without report (R58). -/
def goodFrame (f : Frame) (s : State) : State :=
  if s.start.phase = .silent then s
  else
    let s := goodFrameReport s
    if discards s f then s
    else if s.link.inbound.length < Config.inboundPlaces then
      s.withLink { s.link with inbound := s.link.inbound ++ [f] }
    else suspectReport f.src (s.withCounters { s.counters with overruns := bump s.counters.overruns })

/-- FRAME_END (R54, R55): the frame of the header under reception ends and its body is judged. -/
def execFrameEnd (syms : List LineSym) (s : State) : Host.Outcome State Fault Refusal :=
  .next (match s.link.header with
    | none => s
    | some h =>
      if receives s.start.phase then
        let s := s.withLink { s.link with header := none }
        match judgeBody h syms with
        | none => bodyFailed h s
        | some f => goodFrame f s
      else s)

end Sys2Proof.Machine
end

