-- ==== Sys2Proof/Machine/ViewEvents.lean ====
section
/-! DEFINITION. The commands of the View Manager (04): STATUS and RELEASE frames as it takes them (R66 to R74), the
heartbeat and silence timers (R62, R75), and ageing (R71). -/

namespace Sys2Proof.Machine

/-! ### Delivery -/

/-- The frame under delivery (R56). -/
def inboundHead (s : State) : Option Frame := s.link.inbound.head?

/-- The View Manager has finished with the head of the inbound queue (R57). -/
def markViewTaken (s : State) : State := s.withLink { s.link with viewTaken := true }

/-- Every owner has taken the head, and it leaves the inbound queue (R56). -/
def finishDelivery (s : State) : State :=
  s.withLink { s.link with inbound := s.link.inbound.tail, viewTaken := false }

/-! ### STATUS -/

/-- The entry's state after a good, well-formed STATUS (R67, R69). -/
def stateAfter (final : Bool) : EntryState := if final then .stale else .fresh

/-- A STATUS of an existing entry replaces its content (R67). -/
def replaces (joining : Bool) (c : Content) (e : Entry) : Bool := joining || c.counter != e.content.counter

/-- An entry's change put into the view table. -/
def putEntry (station : Nat) (e : Entry) (s : State) : State :=
  s.withView { s.view with entries := tablePut s.view.entries station e }

/-- The station is one of the expected stations of the record in force (R74). -/
def isExpected (s : State) (station : Nat) : Bool :=
  match s.copy with
  | some r => r.expected.getLsbD station
  | none => false

/-- A STATUS creates the entry of an ABSENT station (R67, R69): it leaves ABSENT, and an expected one leaves the MISSING
set (R73, R74), the reports by log 17 (DEDUCED). The time of the STATUS, from which the age counts, is the clock when the
View Manager takes it (DESIGN CHOICE, log 29). -/
def createEntry (station : Nat) (final : Bool) (c : Content) (s : State) : State :=
  let st := stateAfter final
  let s := raiseView station (some st) (putEntry station { state := st, content := c, lastGood := s.now } s)
  if isExpected s station then raiseView station (some st) s else s

/-- A STATUS refreshes an existing entry and replaces its content where R67 says so; the reports follow R73's order. The
time of the STATUS is the clock when the View Manager takes it (DESIGN CHOICE, log 29). -/
def refreshEntry (station : Nat) (e : Entry) (joining final : Bool) (c : Content) (s : State) : State :=
  let st := stateAfter final
  let replaced := replaces joining c e
  let s := putEntry station { state := st, content := if replaced then c else e.content, lastGood := s.now } s
  let s := if e.state = st then s else raiseView station (some st) s
  if replaced then raiseView station (some st) s else s

/-- A well-formed STATUS taken by the View Manager (R67, R69). -/
def takeStatus (station : Nat) (joining final : Bool) (c : Content) (s : State) : State :=
  match entryOf s station with
  | none => createEntry station final c s
  | some e => refreshEntry station e joining final c s

/-- STATUS_TAKEN_BY_VIEW (R57, R66, R67): the View Manager takes the STATUS under delivery; one that is not well formed
is a suspect report of its source (R70). -/
def execStatusTakenByView (s : State) : Host.Outcome State Fault Refusal :=
  .next (match inboundHead s with
    | none => s
    | some f =>
      if f.type = .status ∧ s.link.viewTaken = false then
        match parseStatus f.body with
        | none => suspectReport f.src (markViewTaken s)
        | some c => takeStatus f.src (statusJoining f.body) f.final c (markViewTaken s)
      else s)

/-! ### RELEASE -/

/-- The object a RELEASE names in a content and the position it carries, when both are there (R68, R72); index 0 names
none (DEDUCED, log 16). -/
def releasedObject (body : List Byte) (c : Content) : Option (Nat × Position) :=
  if 1 ≤ natAt body 2 ∧ natAt body 2 ≤ c.objects.length then
    (positionOfCode (natAt body 3)).map fun p => (natAt body 2, p)
  else none

/-- A content with the position of its object `k` replaced. -/
def setPosition (k : Nat) (p : Position) (c : Content) : Content :=
  { c with objects := c.objects.modify (k - 1) fun o => { o with position := p } }

/-- The counter an entry holds after a RELEASE with another counter (R72). -/
def counterAfter (held released : Byte) : Byte := if released = held + 1 then released else held

/-- A RELEASE whose counter differs from the entry's, naming object `k` (R72): a view change unless the entry is STALE
(R73), the same position replaced included (DEDUCED, log 17). -/
def applyRelease (station : Nat) (e : Entry) (counter : Byte) (k : Nat) (p : Position) (s : State) : State :=
  let s := putEntry station
    { e with content := { setPosition k p e.content with counter := counterAfter e.content.counter counter } } s
  if e.state = .stale then s else raiseView station (some e.state) s

/-- A RELEASE taken by the View Manager (R72). -/
def takeRelease (station : Nat) (body : List Byte) (s : State) : State :=
  match entryOf s station with
  | none => s
  | some e =>
    match releasedObject body e.content with
    | none => s
    | some (k, p) => if byteAt body 1 = e.content.counter then s else applyRelease station e (byteAt body 1) k p s

/-- RELEASE_TAKEN_BY_VIEW (R57, R72): the View Manager takes the RELEASE under delivery. -/
def execReleaseTakenByView (s : State) : Host.Outcome State Fault Refusal :=
  .next (match inboundHead s with
    | none => s
    | some f =>
      if f.type = .release ∧ s.link.viewTaken = false then takeRelease f.src f.body (markViewTaken s) else s)

/-! ### Timers -/

/-- HEARTBEAT_EXPIRY (R62): in READY a STATUS is asked for; the timer stays stopped until a marker ends. -/
def execHeartbeatExpiry (s : State) : Host.Outcome State Fault Refusal :=
  .next (match s.view.heartbeat with
    | none => s
    | some d =>
      let s := s.reachTime d
      let s := s.withView { s.view with heartbeat := none }
      if s.start.phase = .ready then requestStatus s else s)

/-- The ageing deadline of an entry (R71). -/
def ageingDeadline (e : Entry) : Nat := e.lastGood + 3 * e.content.heartbeat

/-- AGEING_DEADLINE (R71): a FRESH or SUSPECT entry goes STALE, a view change. -/
def execAgeingDeadline (station : Nat) (s : State) : Host.Outcome State Fault Refusal :=
  .next (match entryOf s station with
    | none => s
    | some e =>
      if e.state = .stale then s
      else raiseView station (some .stale) (putEntry station { e with state := .stale } (s.reachTime (ageingDeadline e))))

/-- SILENCE_TIMER_EXPIRY (R75): in READY the condition LINK_SILENT begins. -/
def execSilenceTimerExpiry (s : State) : Host.Outcome State Fault Refusal :=
  .next (match s.view.silence with
    | none => s
    | some d =>
      if s.start.phase = .ready then
        let s := s.reachTime d
        beginCondition .linkSilent (s.withView { s.view with silence := none })
      else s)

end Sys2Proof.Machine
end

