-- ==== Sys2Proof/Machine/ClaimEvents.lean ====
section
/-! DEFINITION. The commands of the Claim Manager (06): the claim part of STATUS and RELEASE frames (R113 to R116), CLAIM,
ASSENT and OBJECT frames (R103, R110 to R112), view changes (R105), and the window and hold expiries (R104, R117). -/

namespace Sys2Proof.Machine

/-! ### STATUS and RELEASE -/

/-- The record of a station after the claim part of its STATUS (R115). -/
def takeClaimPart (station : Nat) (part : Option ClaimPart) (s : State) : State :=
  match tableGet s.claims.foreign station, part with
  | none, none => s
  | none, some c => recordForeign station c false s
  | some _, none => removeForeign station s
  | some r, some c =>
    if c.id = r.id then
      s.withClaims { s.claims with foreign := tablePut s.claims.foreign station { r with held := c.held } }
    else recordForeign station c false s

/-- A JOINING STATUS from a station of the answer table (R113): its entry is removed, and made anew, AWAITING, when the
station is concerned as the view stands. -/
def rejoinAnswer (station : Nat) (s : State) : State :=
  match s.claims.own, tableGet s.claims.answers station with
  | some c, some _ =>
    let rest := tableDel s.claims.answers station
    let concerned := match entryOf s station with
      | some e => peerConcerned c.nodes e
      | none => false
    s.withClaims { s.claims with answers := if concerned then tablePut rest station .awaiting else rest }
  | _, _ => s

/-- A JOINING STATUS removes the station's record and renews its answer (R113, R115). -/
def takeJoining (station : Nat) (s : State) : State := rejoinAnswer station (removeForeign station s)

/-- A STATUS as the Claim Manager takes it (R115, R116): with the FINAL mark the record goes and none is made; the claim
part counts only while the entry is FRESH or SUSPECT (DEDUCED, log 25). -/
def takeStatusClaim (f : Frame) (s : State) : State :=
  let s := if statusJoining f.body then takeJoining f.src s else s
  if f.final then removeForeign f.src s
  else if entryCurrent (entryOf s f.src) then takeClaimPart f.src (parseClaimPart f.body) s
  else s

/-- STATUS_CLAIM_PART (R57, R115): the Claim Manager takes the STATUS under delivery after the View Manager, and its
delivery ends. -/
def execStatusClaimPart (s : State) : Host.Outcome State Fault Refusal :=
  .next (match inboundHead s with
    | none => s
    | some f => if f.type = .status ∧ s.link.viewTaken = true then takeStatusClaim f (finishDelivery s) else s)

/-- A RELEASE removes the record of its claim id (R116). -/
def takeReleaseClaim (f : Frame) (s : State) : State :=
  match tableGet s.claims.foreign f.src with
  | none => s
  | some r => if r.id = byteAt f.body 0 then removeForeign f.src s else s

/-- RELEASE_TAKEN_BY_CLAIMS (R57, R116): the Claim Manager takes the RELEASE under delivery after the View Manager. -/
def execReleaseTakenByClaims (s : State) : Host.Outcome State Fault Refusal :=
  .next (match inboundHead s with
    | none => s
    | some f => if f.type = .release ∧ s.link.viewTaken = true then takeReleaseClaim f (finishDelivery s) else s)

/-! ### CLAIM -/

/-- The rank of a received claim (R98). -/
def rankOfPart (station : Nat) (c : ClaimPart) : Rank := { cls := c.cls, deferCount := c.deferCount, address := station }

/-- The rank of the own claim (R98). -/
def rankOfOwn (s : State) (c : OwnClaim) : Rank := { cls := c.cls, deferCount := c.deferCount, address := ownAddress s }

/-- The rows of R112's response. -/
inductive ClaimResponse where
  | objectHeld
  | objectRank
  | giveWay
  | assent
  | silent
  deriving DecidableEq, Repr

/-- The response of a node in service to a CLAIM (R112). -/
def claimResponse (s : State) (station : Nat) (c : ClaimPart) : ClaimResponse :=
  let otherwise := if selfConcerned s c.nodes then ClaimResponse.assent else .silent
  match s.claims.own with
  | none => otherwise
  | some own =>
    if nodesOverlap own.nodes c.nodes then
      if own.held then .objectHeld
      else if rankBetter (rankOfOwn s own) (rankOfPart station c) then .objectRank
      else .giveWay
    else otherwise

/-- The origin R112's table gives the record: ASSENTED where the response includes an ASSENT. -/
def assentedBy (concerned : Bool) : ClaimResponse → Bool
  | .objectHeld => false
  | .objectRank => false
  | .giveWay => concerned
  | .assent => true
  | .silent => false

/-- An ASSENT where the node is concerned. -/
def assentIf (concerned : Bool) (station : Nat) (id : Byte) (s : State) : State :=
  if concerned then handAssent station id s else s

/-- The response carried out (R112): a withdrawal's RELEASE goes ahead of the ASSENT. -/
def respondClaim (r : ClaimResponse) (concerned : Bool) (station : Nat) (c : ClaimPart) (s : State) : State :=
  match r with
  | .objectHeld => handObject station c.id .held s
  | .objectRank => handObject station c.id .rank s
  | .giveWay => assentIf concerned station c.id (withdrawAndReport (.defer .conflict) none s)
  | .assent => handAssent station c.id s
  | .silent => s

/-- A CLAIM from a FRESH or SUSPECT station (R111, R112): recorded, and answered while the node is in service; with a
departure pending it is recorded alone (R167). -/
def judgeClaim (station : Nat) (c : ClaimPart) (s : State) : State :=
  if inService s then
    let r := claimResponse s station c
    let concerned := selfConcerned s c.nodes
    respondClaim r concerned station c (recordForeign station c (assentedBy concerned r) s)
  else recordForeign station c false s

/-- A CLAIM from a STALE station (R110): answered with OBJECT HELD alone, when a HELD claim of this node overlaps it. -/
def claimFromStale (station : Nat) (c : ClaimPart) (s : State) : State :=
  match s.claims.own with
  | none => s
  | some own => if own.held ∧ nodesOverlap own.nodes c.nodes = true then handObject station c.id .held s else s

/-- A CLAIM as the Claim Manager judges it (R110). -/
def takeClaim (f : Frame) (s : State) : State :=
  match f.dst, parseClaim f.body with
  | 0, some c =>
    match entryOf s f.src with
    | none => s
    | some e => if e.state = .stale then claimFromStale f.src c s else judgeClaim f.src c s
  | _, _ => s

/-- CLAIM (R57, R110 to R112): the Claim Manager takes the CLAIM under delivery. -/
def execClaim (s : State) : Host.Outcome State Fault Refusal :=
  .next (match inboundHead s with
    | none => s
    | some f => if f.type = .claim then takeClaim f (finishDelivery s) else s)

/-! ### ASSENT and OBJECT -/

/-- An answer counts: the own claim is CLAIMING with the id it carries, and it is not addressed to all stations (R103). -/
def answerCounts (s : State) (f : Frame) : Bool :=
  match s.claims.own with
  | some c => !c.held && c.id == byteAt f.body 0 && f.dst != 0
  | none => false

/-- An ASSENT marks its station's entry of the answer table (R103). -/
def takeAssent (f : Frame) (s : State) : State :=
  if answerCounts s f && (tableGet s.claims.answers f.src).isSome then
    s.withClaims { s.claims with answers := tablePut s.claims.answers f.src .assented }
  else s

/-- ASSENT (R57, R103): the Claim Manager takes the ASSENT under delivery. -/
def execAssent (s : State) : Host.Outcome State Fault Refusal :=
  .next (match inboundHead s with
    | none => s
    | some f => if f.type = .assent then takeAssent f (finishDelivery s) else s)

/-- An OBJECT withdraws the claim with CONFLICT and is kept as the last objection (R103). -/
def takeObject (f : Frame) (s : State) : State :=
  if answerCounts s f then
    let o : Objection := { station := f.src, reason := byteAt f.body 1 }
    withdrawAndReport (.defer .conflict) (some o) (s.withClaims { s.claims with lastObjection := some o })
  else s

/-- OBJECT (R57, R103): the Claim Manager takes the OBJECT under delivery. -/
def execObject (s : State) : Host.Outcome State Fault Refusal :=
  .next (match inboundHead s with
    | none => s
    | some f => if f.type = .object then takeObject f (finishDelivery s) else s)

/-! ### View changes and expiries -/

/-- The re-evaluation of a CLAIMING claim (R105): an evaluation of its operation, which is the head (R79, R122), so that
the verdict sets or clears the operation's bypass reason (R121). -/
def reevaluate (c : OwnClaim) (s : State) : State :=
  if positionOf s c.object ≠ c.startPos then withdrawAndReport .positionChanged none s
  else
    let v := evaluate s c.object c.dir c.source
    let s := setBypassReason v s
    match v.nodes with
    | none => withdrawAndReport (.refused v.reason) none s
    | some nodes =>
      if nodes ≠ c.nodes then withdrawAndReport (.defer .scope) none s
      else s.withClaims { s.claims with answers := adjustedAnswers s c.nodes }

/-- A view change as the Claim Manager takes it (R105, R116): the record of a station gone STALE is removed, then a
CLAIMING claim is re-evaluated (the order DEDUCED, log 15). -/
def takeViewReport (v : ViewReport) (s : State) : State :=
  let s := if v.state = some .stale then removeForeign v.station s else s
  match s.claims.own with
  | none => s
  | some c => if c.held then s else reevaluate c s

/-- VIEW_CHANGE (R73, R105): the oldest view change report is taken. -/
def execViewChange (s : State) : Host.Outcome State Fault Refusal :=
  .next (match s.handover.views with
    | [] => s
    | v :: rest => takeViewReport v (s.withHandover { s.handover with views := rest }))

/-- The claim window stopped. -/
def stopWindow (s : State) : State := s.withClaims { s.claims with window := none }

/-- WINDOW_EXPIRY (R102, R104): the claim window of a CLAIMING claim ends and its answer table is judged. -/
def execWindowExpiry (s : State) : Host.Outcome State Fault Refusal :=
  .next (match s.claims.own, s.claims.window with
    | some c, some d => if c.held then s else judgeWindow (stopWindow (s.reachTime d))
    | _, _ => s)

/-- The hold expiry of a record (R117). -/
def holdDeadline (r : ForeignRec) : Nat := r.recorded + 10 * r.holdLimit

/-- HOLD_EXPIRY (R117): a record's hold limit runs out and it is removed. -/
def execHoldExpiry (station : Nat) (s : State) : Host.Outcome State Fault Refusal :=
  .next (match tableGet s.claims.foreign station with
    | none => s
    | some r => removeForeign station (s.reachTime (holdDeadline r)))

end Sys2Proof.Machine
end

