-- ==== Sys2Proof/Machine/DriveEvents.lean ====
section
/-! DEFINITION. The commands of the Travel Supervisor (08): the expiries of a drive's four timers (R150, R151, R155,
R156). A timer that is stopped expires for nothing. -/

namespace Sys2Proof.Machine

/-- The departure timer's end of a drive at its deadline `e` (R151): FAILED with reason NO_DEPARTURE. -/
def endUndeparted (e : Nat) (s : State) : State := endDrive .failed .noDeparture (s.reachTime e)

/-- The end of a travelling drive whose travel timer expires at `e` (R155): FAILED with reason TRAVEL_TIMEOUT, departure
being seen by then. Where the departure timer still runs, it is the shorter (R146) and ends the drive first, at its own
deadline (R151, R155). -/
def endOverdue (d : DriveRecord) (e : Nat) (s : State) : State :=
  match d.departure with
  | some e' => endUndeparted e' s
  | none => endDrive .failed .travelTimeout (s.reachTime e)

/-- DEPARTURE_EXPIRY (R151): the drive ends FAILED with reason NO_DEPARTURE. -/
def execDepartureExpiry (s : State) : Host.Outcome State Fault Refusal :=
  .next (match s.drive.record with
    | none => s
    | some d =>
      match d.departure with
      | none => s
      | some e => if d.settling then s else endUndeparted e s)

/-- TRAVEL_EXPIRY (R155): the drive ends FAILED with reason TRAVEL_TIMEOUT, departure seen being set; a departure timer
that runs has ended it before (R146). -/
def execTravelExpiry (s : State) : Host.Outcome State Fault Refusal :=
  .next (match s.drive.record with
    | none => s
    | some d =>
      match d.travel with
      | none => s
      | some e => if d.settling then s else endOverdue d e s)

/-- The end of a coil pulse (R150): the output is OFF; stage, departure seen, travel and departure timers stay. -/
def endPulse (d : DriveRecord) (s : State) : State :=
  s.withDrive
    { deenergize d.object d.dir s.drive with record := some { d with energized := false, coilPulse := none } }

/-- COIL_PULSE_EXPIRY (R150): the output of a travelling COIL drive is de-energized. -/
def execCoilPulseExpiry (s : State) : Host.Outcome State Fault Refusal :=
  .next (match s.drive.record with
    | none => s
    | some d =>
      match d.coilPulse with
      | none => s
      | some t => if d.settling then s else endPulse d (s.reachTime t))

/-- SETTLE_EXPIRY (R156): the drive ends DONE. -/
def execSettleExpiry (s : State) : Host.Outcome State Fault Refusal :=
  .next (match s.drive.record with
    | none => s
    | some d =>
      match d.settle with
      | none => s
      | some t => if d.settling then endDrive .done .none (s.reachTime t) else s)

end Sys2Proof.Machine
end

