-- ==== Sys2Proof/WellFormed.lean ====
section
/-! DEFINITION. Which operands a command can carry: the ranges that the spec gives slots, sensors, stations, line
symbols and port frames. A command outside these ranges names no input of the node. -/

namespace Sys2Proof

/-- Slots are numbered 1 to 8 (R4). -/
def slotOk (k : Nat) : Bool := decide (1 ≤ k) && decide (k ≤ 8)

/-- Sensors are numbered 1 to 3 (R5). -/
def sensorOk (k : Nat) : Bool := decide (1 ≤ k) && decide (k ≤ 3)

/-- Stations are numbered 1 to 63 (00, Conventions). -/
def stationOk (s : Nat) : Bool := decide (1 ≤ s) && decide (s ≤ 63)

/-- A local push belongs to a slot (R28). -/
def singleInputOk : SingleInput → Bool
  | .localPush k _ => slotOk k
  | _ => true

/-- The bytes of a port command frame are at most 130: five, and 125 of arguments (R180). -/
def portBytesOk (bytes : List Byte) : Bool := decide (bytes.length ≤ 130)

/-- The operands of a command lie in the ranges the spec gives them. -/
def wellFormed : Instr → Bool
  | .rawCombinationChange k _ _ => slotOk k
  | .qualificationEvent k => slotOk k
  | .intermediateLimitExpiry k => slotOk k
  | .readyInputChange k _ => slotOk k
  | .readyQualification k => slotOk k
  | .sensorInputChange k _ _ => sensorOk k
  | .sensorQualification k => sensorOk k
  | .singleInputChange i _ => singleInputOk i
  | .singleInputQualification i => singleInputOk i
  | .headerReceived heard => decide (heard.syms.length ≤ 6)
  | .collision h _ => decide (h < 112 * 16)
  | .ageingDeadline st => stationOk st
  | .holdExpiry st => stationOk st
  | .readIdentity a => portBytesOk a
  | .readConfig a => portBytesOk a
  | .writeConfig a => portBytesOk a
  | .eraseConfig a => portBytesOk a
  | .readView a => portBytesOk a
  | .readObject a => portBytesOk a
  | .readClaims a => portBytesOk a
  | .readCounters a => portBytesOk a
  | .clearCounters a => portBytesOk a
  | .restart a => portBytesOk a
  | .unknownCommand code a => (decide (code.toNat = 0) || decide (10 < code.toNat)) && portBytesOk a
  | .portFrameCheckFailed a => portBytesOk a
  | .portArgumentLengthExceeded a => portBytesOk a
  | .powerOn => true
  | .supplyDip => true
  | .resetLine => true
  | .selfTestEnd => true
  | .listenExpiry => true
  | .announceExpiry => true
  | .measurementReading _ _ => true
  | .measurementStateChange _ => true
  | .localRequest => true
  | .selectorChange => true
  | .positionChangeTaken => true
  | .attemptStart _ => true
  | .frameSent => true
  | .frameEnd _ => true
  | .statusTakenByView => true
  | .statusClaimPart => true
  | .releaseTakenByView => true
  | .releaseTakenByClaims => true
  | .claim => true
  | .assent => true
  | .object => true
  | .request => true
  | .check => true
  | .cancel => true
  | .viewChange => true
  | .heartbeatExpiry => true
  | .silenceTimerExpiry => true
  | .windowExpiry => true
  | .deferExpiry => true
  | .departureExpiry => true
  | .travelExpiry => true
  | .coilPulseExpiry => true
  | .settleExpiry => true
  | .portByteTimeout => true
  | .responseSent => true
  | .portCharacterError => true

end Sys2Proof
end

