-- ==== Sys2Proof/Machine/FieldEvents.lean ====
section
/-! DEFINITION. The commands of the Field Interface (02): changes of contacts and readings, and their qualification. -/

namespace Sys2Proof.Machine

/-- RAW_COMBINATION_CHANGE (R18, R19): the contacts of a slot take their new state; a changed raw combination starts its
persistence anew. -/
def execRawCombinationChange (slot : Nat) (openContact closedContact : Bool) (s : State) :
    Host.Outcome State Fault Refusal :=
  .next (if slotOk slot then
    let o := objIn s slot
    s.putObj slot
      { o with openContact := openContact, closedContact := closedContact
               since := if openContact = o.openContact ∧ closedContact = o.closedContact then o.since else s.now }
    else s)

/-- QUALIFICATION_EVENT (R19, R20): the raw combination of a configured object has stood for the qualification time. When
it equals the qualified combination there is no event. -/
def execQualificationEvent (slot : Nat) (s : State) : Host.Outcome State Fault Refusal :=
  .next (match objDesc s slot with
    | none => s
    | some d =>
      let o := objIn s slot
      let c := rawComb d o
      if o.qualified = some c then s
      else qualifyObject slot c (s.reachTime (o.since + qualificationTime s)))

/-- INTERMEDIATE_LIMIT_EXPIRY (R21): an uncommanded MOVING object becomes FAULTY; its qualified combination stays. -/
def execIntermediateLimitExpiry (slot : Nat) (s : State) : Host.Outcome State Fault Refusal :=
  .next (match (objIn s slot).intermediate with
    | none => s
    | some d =>
      let o := objIn s slot
      if o.position = .moving ∧ o.commanded = false then
        handPosition slot ((s.reachTime d).putObj slot { o with position := .faulty, intermediate := none })
      else s)

/-- READY_INPUT_CHANGE (R26): the mechanism-ready contact takes its new state; its persistence starts anew. -/
def execReadyInputChange (slot : Nat) (contact : Bool) (s : State) : Host.Outcome State Fault Refusal :=
  .next (if slotOk slot then
    let o := objIn s slot
    s.putObj slot
      { o with readyContact := contact, readySince := if contact = o.readyContact then o.readySince else s.now }
    else s)

/-- READY_QUALIFICATION (R26): the ready state qualifies; it is handed to no block. -/
def execReadyQualification (slot : Nat) (s : State) : Host.Outcome State Fault Refusal :=
  .next (match objDesc s slot with
    | none => s
    | some d =>
      let o := objIn s slot
      if o.ready = rawReady d o then s
      else (s.reachTime (o.readySince + qualificationTime s)).putObj slot { o with ready := rawReady d o })

/-- SENSOR_INPUT_CHANGE (R27): a sensor's contacts take their new state; a changed raw pair starts its persistence
anew. -/
def execSensorInputChange (sensor : Nat) (presence healthy : Bool) (s : State) : Host.Outcome State Fault Refusal :=
  .next (if sensorOk sensor then
    let i := sensorIn s sensor
    s.withSensors (tablePut s.sensors sensor
      { i with presenceContact := presence, healthyContact := healthy
               since := if presence = i.presenceContact ∧ healthy = i.healthyContact then i.since else s.now })
    else s)

/-- SENSOR_QUALIFICATION (R27): the raw pair of a configured sensor has stood for the qualification time. -/
def execSensorQualification (sensor : Nat) (s : State) : Host.Outcome State Fault Refusal :=
  .next (match sensorDesc s sensor with
    | none => s
    | some d =>
      let i := sensorIn s sensor
      let p := rawPair d i
      if i.qualified = some p then s
      else qualifySensor sensor p (s.reachTime (i.since + qualificationTime s)))

/-- SINGLE_INPUT_CHANGE (R28): a single input takes its new state; its persistence starts anew. -/
def execSingleInputChange (input : SingleInput) (contact : Bool) (s : State) : Host.Outcome State Fault Refusal :=
  .next (if singleInputOk input then
    let i := singleOf s input
    s.putSingle input { i with contact := contact, since := if contact = i.contact then i.since else s.now }
    else s)

/-- SINGLE_INPUT_QUALIFICATION (R28): the raw state has stood for the qualification time. -/
def execSingleInputQualification (input : SingleInput) (s : State) : Host.Outcome State Fault Refusal :=
  .next (if singleInputOk input then
    let i := singleOf s input
    if i.qualified = some i.contact then s
    else qualifySingle input (s.reachTime (i.since + qualificationTime s))
    else s)

/-- MEASUREMENT_READING (R33): a reading arrives. -/
def execMeasurementReading (which : Measure) (reading : Reading) (s : State) : Host.Outcome State Fault Refusal :=
  .next (s.putMeasure which (takeReading which reading s.now (measureOf s which)))

/-- MEASUREMENT_STATE_CHANGE (R33): the readings have stood for the qualification time and the state follows them. -/
def execMeasurementStateChange (which : Measure) (s : State) : Host.Outcome State Fault Refusal :=
  .next (let m := measureOf s which
    if measureTurns m then turnMeasure which (s.reachTime (m.since + qualificationTime s)) else s)

end Sys2Proof.Machine
end

