-- ==== Sys2Proof/Machine/PortData.lean ====
section
/-! DEFINITION. The data of the maintenance port's responses (R172, R173, R180). -/

namespace Sys2Proof.Machine

/-! ### Identity, record, counters -/

/-- READ_IDENTITY (R7, R180). -/
def identityData : List Byte := halfBytes Config.vendorCode ++ halfBytes Config.partCode ++ [byteOf Config.revision]

/-- A failing place as two bytes. -/
def placeBytes (p : Place) : List Byte := [byteOf p.field, byteOf p.index]

/-- READ_CONFIG (R17, R180): the place counts with REJECTED alone, the record is absent with NONE. -/
def configData (c : Store) : List Byte :=
  recordStatusCode c.status ::
    (match c.status, c.failing with
      | .rejected, some p => placeBytes p
      | _, _ => [0, 0]) ++
    (if c.status = .none then [] else c.stored.getD [])

/-- READ_COUNTERS (R174, R180): the nine counters in the order of R174. -/
def countersData (c : Counters) : List Byte :=
  [c.headerErrors, c.bodyErrors, c.overruns, c.txAbandoned, c.txDropped, c.claimsGranted, c.claimsWithdrawn, c.opsDone,
    c.opsFailed].flatMap halfBytes

/-! ### READ_VIEW -/

/-- A content with each position and indication as read in an entry of a state (R65, R78). -/
def contentAsRead (st : EntryState) (c : Content) : Content :=
  if st = .stale then
    { c with
      objects := c.objects.map fun o => { o with position := .unknown }
      sensors := c.sensors.map fun p => { p with indication := .unknown } }
  else c

/-- The age of an entry in ms, 65,535 when it exceeds that (R65, R78). -/
def ageOf (s : State) (e : Entry) : Nat := min (s.now - e.lastGood) 65535

/-- Bit 0 expected, bit 1 MISSING (R180). -/
def standingByte (s : State) (station : Nat) : Byte :=
  (match s.copy with
    | some r => flagByte (r.expected.getLsbD station)
    | none => 0) ||| (if isMissing s station then 2 else 0)

/-- READ_VIEW of the own address (R78): the own content as it stands, the claim part included. -/
def ownViewData (s : State) (c : Content) : List Byte :=
  [4, 0, 0, 0] ++ statusBody c s.view.joining (ownClaimPart s)

/-- READ_VIEW of a peer (R78). An entry holds neither JOINING nor a claim (R65), so the body shows neither
(DEDUCED, log 20). -/
def peerViewData (s : State) (station : Nat) : List Byte :=
  match entryOf s station with
  | none => [0, 0, 0, standingByte s station]
  | some e =>
    [entryStateCode e.state] ++ halfBytes (ageOf s e) ++ [standingByte s station] ++
      statusBody (contentAsRead e.state e.content) false none

/-- READ_VIEW (R78, R172). -/
def viewData (s : State) (station : Nat) : List Byte :=
  match ownContent s with
  | some c => if station = ownAddress s then ownViewData s c else peerViewData s station
  | none => peerViewData s station

/-! ### READ_OBJECT -/

/-- NO_OBJECT (R173, R180). -/
def noObjectData (s : State) : List Byte := [s.faults.pending.setWidth 8, flagByte s.faults.relay]

/-- What the Field Interface gives of an object (R173). -/
def fieldData (s : State) (k : Nat) (d : ObjDesc) : List Byte :=
  let o := objIn s k
  [combCode (rawComb d o),
   match o.qualified with
   | some c => combCode c
   | none => 0xFF,
   positionCode o.position, readyCode (rawReady d o), readyCode o.ready, flagByte o.commanded] ++
  halfBytes (remaining s o.intermediate) ++
  [s.faults.pending.setWidth 8, s.faults.holding.setWidth 8, flagByte s.faults.relay]

/-- The drive record (R160, R180): all zero while IDLE. -/
def driveData (s : State) : List Byte :=
  match s.drive.record with
  | none => List.replicate 15 0
  | some d =>
    [1, byteOf d.object, directionCode d.dir, driveKindCode d.kind, if d.settling then 2 else 1, flagByte d.energized,
     flagByte d.departed] ++
    [d.travel, d.departure, d.coilPulse, d.settle].flatMap fun t => halfBytes (remaining s t)

/-- The two outputs of a slot, the OPEN output first (R160, R180). -/
def outputData (s : State) (k : Nat) : List Byte :=
  [flagByte (s.drive.openOutputs.getLsbD (k - 1)), flagByte (s.drive.closeOutputs.getLsbD (k - 1))]

/-- The measurements (R173, R180); the value sent with FAULT is free (log 6). -/
def measureData (s : State) : List Byte :=
  (if s.supply.valid then halfBytes s.supply.value.toNat else halfBytes (Config.faultSupplyValue s.supply.value).toNat) ++
  [flagByte (!s.supply.valid)] ++
  [if s.temperature.valid then signedByte s.temperature.value else Config.faultTemperatureValue s.temperature.value,
   flagByte (!s.temperature.valid)]

/-- A reason as the port sends it: 0 for none (R180). -/
def reasonByte : Option Reason → Byte
  | some r => reasonCode r
  | none => 0

/-- One operation (R173, R180). -/
def operationData (op : Operation) : List Byte :=
  [byteOf op.requester, op.tag, directionCode op.dir, byteOf op.cls, sourceCode op.source, opStateCode op.state,
   byteOf op.deferCount, reasonByte op.lastDeferral] ++
  halfBytes (op.travelLimit.getD 0 / 10) ++ [reasonByte op.bypassReason]

/-- The operations of an object, in queue order (R173). -/
def operationsData (s : State) (k : Nat) : List Byte :=
  let ops := s.req.queue.filter fun op => op.object == k
  byteOf ops.length :: ops.flatMap operationData

/-- READ_OBJECT of a configured object (R173, R180). -/
def objectData (s : State) (k : Nat) (d : ObjDesc) : List Byte :=
  fieldData s k d ++ driveData s ++ outputData s k ++ measureData s ++ operationsData s k

/-! ### READ_CLAIMS -/

/-- The own claim (R120, R180): all zero while IDLE. -/
def ownClaimData (s : State) : List Byte :=
  match s.claims.own with
  | none => List.replicate 25 0
  | some c =>
    [if c.held then 2 else 1, c.id, byteOf c.cls, byteOf c.deferCount] ++ halfBytes c.holdLimit ++ nodeBytes c.nodes ++
      [byteOf c.object, byteOf c.round, flagByte s.claims.window.isSome]

/-- The state code of an answer (R180). -/
def answerCode : Answer → Byte
  | .awaiting => 1
  | .assented => 2

/-- The answer table (R120, R180). -/
def answersData (s : State) : List Byte :=
  byteOf s.claims.answers.length ::
    s.claims.answers.flatMap fun e =>
      [byteOf e.1, answerCode e.2,
       match entryOf s e.1 with
       | some v => entryStateCode v.state
       | none => 0]

/-- A time to hold expiry in 10 ms units, rounded freely to one of its two neighbours (log 5). -/
def expiryUnits (ms : Nat) : Nat :=
  if ms % 10 = 0 then ms / 10 else if Config.remainderRoundsUp ms then ms / 10 + 1 else ms / 10

/-- One foreign record (R120, R180). -/
def foreignData (s : State) (station : Nat) (r : ForeignRec) : List Byte :=
  [byteOf station, r.id, byteOf r.cls, byteOf r.deferCount] ++ halfBytes r.holdLimit ++
    halfBytes (expiryUnits (r.recorded + 10 * r.holdLimit - s.now)) ++
    [flagByte r.held ||| (if r.assented then 2 else 0)] ++ nodeBytes r.nodes

/-- The last ending (R120, R180): all zero when none. -/
def endingData : Option LastEnding → List Byte
  | none => [0, 0, 0, 0]
  | some e =>
    [e.id, endCauseCode e.cause] ++ match e.objection with
      | some o => [byteOf o.station, o.reason]
      | none => [0, 0]

/-- READ_CLAIMS (R120, R180); the orders and the zeros by log 20 (DEDUCED). -/
def claimsData (s : State) : List Byte :=
  ownClaimData s ++ answersData s ++
    (byteOf s.claims.foreign.length :: s.claims.foreign.flatMap fun e => foreignData s e.1 e.2) ++
    endingData s.claims.lastEnding

end Sys2Proof.Machine
end

