-- ==== Sys2Proof/Machine/PortFrames.lean ====
section
/-! DEFINITION. Command frames of the maintenance port (R170, R180): their bytes, and what the receiver finds in the bytes
it has gathered. -/

namespace Sys2Proof.Machine

/-- The start byte of a command frame (R180). -/
def portStart : Byte := 0x7E

/-- A command code of the port (R180). -/
def knownPortCode (code : Byte) : Bool := decide (1 ≤ code.toNat) && decide (code.toNat ≤ 10)

/-- The bytes of a command frame (R180). -/
def commandFrame (code : Byte) (args : List Byte) : List Byte :=
  portStart :: code :: byteOf args.length :: (args ++ checkBytes (code :: byteOf args.length :: args))

/-- What the receiver finds in the bytes gathered (R170); `rest` are the bytes after what it has judged. -/
inductive Reception where
  /-- No frame is complete: these bytes stay gathered. -/
  | gathering (bytes : List Byte)
  /-- A complete frame whose check passes. -/
  | command (code : Byte) (args : List Byte) (rest : List Byte)
  /-- A complete frame whose check fails. -/
  | checkFailed (rest : List Byte)
  /-- A frame whose argument length exceeds the longest permitted. -/
  | tooLong (rest : List Byte)
  deriving DecidableEq, Repr

/-- A frame from its command code and argument length on (R170): too long, not complete, failing its check, or a
command. -/
def judgeFrame (code length : Byte) (tail : List Byte) : Reception :=
  if Config.recordLength < length.toNat then .tooLong tail
  else if tail.length < length.toNat + 2 then .gathering (portStart :: code :: length :: tail)
  else if checkBytes (code :: length :: tail.take length.toNat) = slice tail length.toNat 2 then
    .command code (tail.take length.toNat) (tail.drop (length.toNat + 2))
  else .checkFailed (tail.drop (length.toNat + 2))

/-- The receiver on the bytes gathered (R170): it waits for a start byte, and judges the frame that follows it. -/
def receive : List Byte → Reception
  | [] => .gathering []
  | b :: rest =>
    if b = portStart then
      match rest with
      | code :: length :: tail => judgeFrame code length tail
      | _ => .gathering (b :: rest)
    else receive rest

end Sys2Proof.Machine
end

