-- ==== Sys2Proof/Machine/PortCommands.lean ====
section
/-! DEFINITION. The commands of the maintenance port (10): the exchange (R170, R171), the reads (R172 to R174), and the
commands that change the node (R175). -/

namespace Sys2Proof.Machine

/-! ### The exchange -/

/-- More than 20 ms have passed since the byte that arrived at `t` (R170). -/
def gapPassed (s : State) (t : Nat) : Bool := decide (t + Config.portByteGap < s.now)

/-- The bytes gathered of a frame under reception that the next byte can go on from: none once more than 20 ms have passed
since the last of them (R170). -/
def gatheredNow (s : State) : List Byte := if s.port.lastByte.any (gapPassed s) then [] else s.port.gathered

/-- When the last of the bytes kept arrived: now, where bytes have arrived (R170). -/
def lastByteOf (kept arrived : List Byte) (s : State) : Option Nat :=
  if kept = [] then none else if arrived = [] then s.port.lastByte else some s.now

/-- The bytes gathered of a frame under reception, after the bytes `arrived` (R170). -/
def setGathered (kept arrived : List Byte) (s : State) : State :=
  s.withPort { s.port with gathered := kept, lastByte := lastByteOf kept arrived s }

/-- The bytes gathered are discarded: the receiver waits for a new start byte (R170). -/
def clearGathered (s : State) : State := s.withPort { s.port with gathered := [], lastByte := none }

/-- A command received while the exchange is OUTSTANDING is discarded, and a BUSY with its code is owed unless one is
owed already (R171). -/
def oweBusy (code : Byte) (s : State) : State :=
  match s.port.owedBusy with
  | some _ => s
  | none => s.withPort ({ s.port with owedBusy := some code } : Port).kick

/-- A command taken: the exchange becomes OUTSTANDING with its code (R171). -/
def takeExchange (code : Byte) (s : State) : State := s.withPort { s.port with outstanding := some code }

/-- A command received (R170, R171): taken while the exchange is IDLE, and answered BAD_ARGUMENT when its arguments are
wrong, before it acts. An owed BUSY does not keep a command from being taken (DEDUCED, log 21). -/
def portCommand (code : Byte) (argumentOk : Bool) (act : State → State) (s : State) : State :=
  match s.port.outstanding with
  | some _ => oweBusy code s
  | none =>
    let s := takeExchange code s
    if argumentOk then act s else respondWith code statusBadArgument [] s

/-- The bytes of a port command arrive (R170): with those gathered before them they complete a frame whose check passes
and whose code is the command's, or the frame goes on being gathered. Bytes that spell anything else are no bytes of this
command, and have no effect (DESIGN CHOICE, log 21). -/
def portFrame (takes : Byte → Bool) (argumentOk : List Byte → Bool) (act : Byte → List Byte → State → State)
    (bytes : List Byte) (s : State) : State :=
  match receive (gatheredNow s ++ bytes) with
  | .gathering kept => setGathered kept bytes s
  | .command code args rest =>
    if takes code then portCommand code (argumentOk args) (act code args) (setGathered rest bytes s) else s
  | .checkFailed _ => s
  | .tooLong _ => s

/-- The head operation is TRAVELLING or SETTLING (R15, R175). -/
def headDriven (s : State) : Bool :=
  match headOp s with
  | some op => isDriven op
  | none => false

/-! ### Reads -/

/-- READ_IDENTITY (R7, R172). -/
def execReadIdentity (bytes : List Byte) (s : State) : Host.Outcome State Fault Refusal :=
  .next (portFrame (· == codeReadIdentity) List.isEmpty
    (fun code _ => respondWith code statusOk identityData) bytes s)

/-- READ_CONFIG (R17, R172). -/
def execReadConfig (bytes : List Byte) (s : State) : Host.Outcome State Fault Refusal :=
  .next (portFrame (· == codeReadConfig) List.isEmpty
    (fun code _ s => respondWith code statusOk (configData s.store) s) bytes s)

/-- READ_VIEW (R78, R172): the station lies in 1 to 63. -/
def execReadView (bytes : List Byte) (s : State) : Host.Outcome State Fault Refusal :=
  .next (portFrame (· == codeReadView) (fun args => args.length == 1 && stationOk (natAt args 0))
    (fun code args s => respondWith code statusOk (viewData s (natAt args 0)) s) bytes s)

/-- The answer to a READ_OBJECT of an index in range (R173): NO_OBJECT while no record is in force too. -/
def answerReadObject (k : Nat) (s : State) : State :=
  match recordInForce s, objDesc s k with
  | some _, some d => respondWith codeReadObject statusOk (objectData s k d) s
  | _, _ => respondWith codeReadObject statusNoObject (noObjectData s) s

/-- READ_OBJECT (R173): the index lies in 1 to 8. -/
def execReadObject (bytes : List Byte) (s : State) : Host.Outcome State Fault Refusal :=
  .next (portFrame (· == codeReadObject) (fun args => args.length == 1 && slotOk (natAt args 0))
    (fun _ args => answerReadObject (natAt args 0)) bytes s)

/-- READ_CLAIMS (R120, R172). -/
def execReadClaims (bytes : List Byte) (s : State) : Host.Outcome State Fault Refusal :=
  .next (portFrame (· == codeReadClaims) List.isEmpty
    (fun code _ s => respondWith code statusOk (claimsData s) s) bytes s)

/-- READ_COUNTERS (R174). -/
def execReadCounters (bytes : List Byte) (s : State) : Host.Outcome State Fault Refusal :=
  .next (portFrame (· == codeReadCounters) List.isEmpty
    (fun code _ s => respondWith code statusOk (countersData s.counters) s) bytes s)

/-! ### Commands that change the node -/

/-- CLEAR_COUNTERS (R174). -/
def execClearCounters (bytes : List Byte) (s : State) : Host.Outcome State Fault Refusal :=
  .next (portFrame (· == codeClearCounters) List.isEmpty
    (fun code _ s => respondWith code statusCleared [] (s.withCounters Counters.zero)) bytes s)

/-- A record that passes is stored (R13): status STORED, no failing place. The status is REJECTED no longer, which ends
the condition CONFIG_INVALID (R11, R35) at once, not at the restart that follows (DEDUCED, log 28). -/
def storeRecord (record : List Byte) (s : State) : State :=
  endCondition .configInvalid (s.withStore { status := .stored, stored := some record, failing := none })

/-- A WRITE_CONFIG taken (R13, R175). -/
def writeConfig (record : List Byte) (s : State) : State :=
  if s.start.phase ≠ .unconfigured then respondWith codeWriteConfig statusConfigured [] s
  else
    match checkRecord record with
    | some p => respondWith codeWriteConfig statusInvalidField (placeBytes p) s
    | none => respondWith codeWriteConfig statusAccepted [] (storeRecord record s)

/-- WRITE_CONFIG (R13, R175): its argument is a record of 125 bytes. -/
def execWriteConfig (bytes : List Byte) (s : State) : Host.Outcome State Fault Refusal :=
  .next (portFrame (· == codeWriteConfig) (fun args => args.length == Config.recordLength)
    (fun _ args => writeConfig args) bytes s)

/-- An ERASE_CONFIG taken (R15, R175). -/
def eraseConfig (s : State) : State :=
  if s.start.phase = .selfTest ∨ headDriven s = true then respondWith codeEraseConfig statusBusy [] s
  else if s.start.phase = .ready then beginDeparture .erase s
  else finishDeparture .erase s

/-- ERASE_CONFIG (R15, R175). -/
def execEraseConfig (bytes : List Byte) (s : State) : Host.Outcome State Fault Refusal :=
  .next (portFrame (· == codeEraseConfig) List.isEmpty
    (fun _ _ => eraseConfig) bytes s)

/-- A RESTART taken (R175). -/
def restartNode (s : State) : State :=
  if headDriven s then respondWith codeRestart statusBusy [] s
  else if s.start.phase = .ready then beginDeparture .restart s
  else finishDeparture .restart s

/-- RESTART (R175). -/
def execRestart (bytes : List Byte) (s : State) : Host.Outcome State Fault Refusal :=
  .next (portFrame (· == codeRestart) List.isEmpty
    (fun _ _ => restartNode) bytes s)

/-- UNKNOWN_COMMAND (R170): a code that is none of the ten, answered with the code as received. -/
def execUnknownCommand (code : Byte) (bytes : List Byte) (s : State) : Host.Outcome State Fault Refusal :=
  .next (portFrame (fun received => received == code && !knownPortCode code) (fun _ => true)
    (fun received _ => respondWith received statusUnknownCommand []) bytes s)

/-! ### Ends on the line -/

/-- When the byte gap after a byte that arrived at `t` is over: the first whole millisecond with more than 20 ms passed
(R170; DESIGN CHOICE, log 30). -/
def gapDeadline (t : Nat) : Nat := t + Config.portByteGap + 1

/-- PORT_BYTE_TIMEOUT (R170): more than 20 ms have passed since the last byte of the frame under reception, and the bytes
gathered are discarded. -/
def execPortByteTimeout (s : State) : Host.Outcome State Fault Refusal :=
  .next (match s.port.lastByte with
    | none => s
    | some t => clearGathered (s.reachTime (gapDeadline t)))

/-- PORT_CHARACTER_ERROR (R170): the bytes gathered are discarded. -/
def execPortCharacterError (s : State) : Host.Outcome State Fault Refusal := .next (clearGathered s)

/-- PORT_FRAME_CHECK_FAILED (R170): a complete frame whose check fails is discarded with no response. Bytes that complete
no frame are gathered; others have no effect here (DESIGN CHOICE, log 21). -/
def execPortFrameCheckFailed (bytes : List Byte) (s : State) : Host.Outcome State Fault Refusal :=
  .next (match receive (gatheredNow s ++ bytes) with
    | .gathering kept => setGathered kept bytes s
    | .command _ _ _ => s
    | .checkFailed rest => setGathered rest bytes s
    | .tooLong _ => s)

/-- PORT_ARGUMENT_LENGTH_EXCEEDED (R170): a frame whose argument length exceeds 125 is discarded with no response. Bytes
that complete no frame are gathered; others have no effect here (DESIGN CHOICE, log 21). -/
def execPortArgumentLengthExceeded (bytes : List Byte) (s : State) : Host.Outcome State Fault Refusal :=
  .next (match receive (gatheredNow s ++ bytes) with
    | .gathering kept => setGathered kept bytes s
    | .command _ _ _ => s
    | .checkFailed _ => s
    | .tooLong rest => setGathered rest bytes s)

/-- The responses whose end restarts the node (R175). -/
def restartsNode (status : Byte) : Bool :=
  status == statusAccepted || status == statusErased || status == statusRestarting

/-- The outstanding command's response has been sent (R171, R175): the exchange is IDLE, or the node restarts. -/
def responseEnded (s : State) : State :=
  match s.port.response with
  | some r =>
    if restartsNode r.status then resetNode .portRestart s
    else s.withPort ({ s.port with outstanding := none, response := none, sending := none } : Port).kick
  | none => s.withPort ({ s.port with outstanding := none, sending := none } : Port).kick

/-- The owed BUSY has been sent (R171). -/
def busyEnded (s : State) : State := s.withPort ({ s.port with owedBusy := none, sending := none } : Port).kick

/-- RESPONSE_SENT (R171): the last byte of what the transmitter was sending. -/
def execResponseSent (s : State) : Host.Outcome State Fault Refusal :=
  .next (match s.port.sending with
    | none => s
    | some x => if x.busy then busyEnded s else responseEnded s)

end Sys2Proof.Machine
end

