-- ==== Sys2Proof/Machine/RequestEvents.lean ====
section
/-! DEFINITION. The commands of the Request Controller (07): requests from gateways and the panel (R123 to R127), CHECK
(R95), CANCEL (R136), the selector (R138), position changes (R133) and the defer expiry (R132). -/

namespace Sys2Proof.Machine

/-! ### Checks of a request -/

/-- Checks 3 to 5 of R124: the position's disposition. -/
def positionDisposition (p : Position) (dir : Direction) : Option Disposition :=
  match p with
  | .faulty => some .faulty
  | .moving => some .moving
  | .unknown => some .moving
  | .opened => if dir = .toOpen then some .already else none
  | .closed => if dir = .toClose then some .already else none

/-- Checks 2 to 7 of R124, in their order: the disposition of the first that fails. -/
def requestChecks (s : State) (requester : Nat) (tag : Byte) (k : Nat) (dir : Direction) : Option Disposition :=
  if objectCount s < k then some .noObject
  else
    match positionDisposition (positionOf s k) dir with
    | some d => some d
    | none =>
      if s.req.queue.any (isNamed requester tag) then some .duplicateTag
      else if fieldOf s (·.depth) ≤ s.req.queue.length then some .queueFull
      else none

/-- The operation a taken request makes (R124, R126). -/
def newOperation (requester : Nat) (tag : Byte) (k : Nat) (dir : Direction) (cls : Nat) (source : Source) : Operation :=
  { requester := requester, tag := tag, object := k, dir := dir, cls := cls, source := source, state := .queued,
    deferCount := 0, lastDeferral := none, travelLimit := none, bypassReason := none }

/-- An operation joins the queue at its tail; one that joins an empty queue becomes head, and its head start is taken
(R122). -/
def joinQueue (op : Operation) (s : State) : State :=
  let s' := s.withReq { s.req with queue := s.req.queue ++ [op] }
  if s.req.queue.isEmpty then nextHead s' else s'

/-! ### Requests from gateways -/

/-- A REQUEST that passes the screening of R123: tag, object index, direction and class. -/
def screenRequest (s : State) (f : Frame) : Option (Byte × Nat × Direction × Nat) :=
  if inService s = true ∧ f.dst ≠ 0 ∧ 1 ≤ natAt f.body 1 ∧ natAt f.body 1 ≤ 8 ∧ natAt f.body 3 ≤ 1 then
    (directionOfCode (natAt f.body 2)).map fun dir => (byteAt f.body 0, natAt f.body 1, dir, natAt f.body 3)
  else none

/-- The eight checks of R124: `none` when all pass. -/
def requestDisposition (s : State) (requester : Nat) (tag : Byte) (k : Nat) (dir : Direction) : Option Disposition :=
  if selectorOf s ≠ .remoteMode then some .selector else requestChecks s requester tag k dir

/-- An ACCEPT handed over (R124, R136). -/
def handAccept (station : Nat) (tag : Byte) (d : Disposition) (s : State) : State :=
  handUrgent (ownFrame s .accept station (acceptBody tag d)) s

/-- A REQUEST as the Request Controller takes it (R123, R124). -/
def takeRequest (f : Frame) (s : State) : State :=
  match screenRequest s f with
  | none => s
  | some (tag, k, dir, cls) =>
    match requestDisposition s f.src tag k dir with
    | some d => handAccept f.src tag d s
    | none => joinQueue (newOperation f.src tag k dir cls .remote) (handAccept f.src tag .queued s)

/-- REQUEST (R57, R123, R124): the Request Controller takes the REQUEST under delivery. -/
def execRequest (s : State) : Host.Outcome State Fault Refusal :=
  .next (match inboundHead s with
    | none => s
    | some f => if f.type = .request then takeRequest f (finishDelivery s) else s)

/-! ### CHECK -/

/-- The RESULT body that answers a CHECK (R95). -/
def checkAnswer (s : State) (tag : Byte) (k : Nat) (dir : Direction) : List Byte :=
  if objectCount s < k then checkResultBody tag k dir .refused .none .noObject none
  else
    let v := evaluate s k dir .remote
    checkResultBody tag k dir v.verdict v.basis v.reason (some (positionOf s k))

/-- A CHECK as the Request Controller takes it (R95). -/
def takeCheck (f : Frame) (s : State) : State :=
  match directionOfCode (natAt f.body 2) with
  | none => s
  | some dir =>
    if inService s = true ∧ f.dst ≠ 0 ∧ 1 ≤ natAt f.body 1 ∧ natAt f.body 1 ≤ 8 then
      handUrgent (ownFrame s .result f.src (checkAnswer s (byteAt f.body 0) (natAt f.body 1) dir)) s
    else s

/-- CHECK (R57, R95): the Request Controller takes the CHECK under delivery. -/
def execCheck (s : State) : Host.Outcome State Fault Refusal :=
  .next (match inboundHead s with
    | none => s
    | some f => if f.type = .check then takeCheck f (finishDelivery s) else s)

/-! ### CANCEL -/

/-- The withdrawal the Request Controller asks for a CLAIMING operation (R109, R129). -/
def withdrawFor (op : Operation) (s : State) : State :=
  if op.state = .claiming then withdrawClaim .operationEnded none s else s

/-- An operation is the head of the queue. -/
def isHead (s : State) (op : Operation) : Bool :=
  match headOp s with
  | some h => isNamed op.requester op.tag h
  | none => false

/-- A waiting operation is cancelled at its requester's wish (R136). -/
def cancelOperation (op : Operation) (station : Nat) (tag : Byte) (s : State) : State :=
  let head := isHead s op
  let s := handAccept station tag .cancelTaken (withdrawFor op s)
  let s := endOperation op .cancelled .requested s
  if head then nextHead s else s

/-- A CANCEL as the Request Controller takes it (R136). -/
def takeCancel (f : Frame) (s : State) : State :=
  let tag := byteAt f.body 0
  if inService s = true ∧ f.dst ≠ 0 then
    match s.req.queue.find? (isNamed f.src tag) with
    | none => handAccept f.src tag .notFound s
    | some op => if isDriven op then handAccept f.src tag .tooLate s else cancelOperation op f.src tag s
  else s

/-- CANCEL (R57, R136): the Request Controller takes the CANCEL under delivery. -/
def execCancel (s : State) : Host.Outcome State Fault Refusal :=
  .next (match inboundHead s with
    | none => s
    | some f => if f.type = .cancel then takeCancel f (finishDelivery s) else s)

/-! ### The panel, the selector and the position -/

/-- The tag of a local push (R126). -/
def localTag (slot : Nat) (dir : Direction) : Byte :=
  byteOf (2 * (slot - 1) + match dir with
    | .toOpen => 0
    | .toClose => 1)

/-- The reason that stands for a disposition in the last local result (R126, R177). -/
def reasonOfDisposition : Disposition → Reason
  | .queued => .none
  | .selector => .selector
  | .noObject => .noObject
  | .faulty => .faulty
  | .moving => .moving
  | .already => .already
  | .duplicateTag => .duplicateTag
  | .queueFull => .queueFull
  | .cancelTaken => .none
  | .tooLate => .none
  | .notFound => .none

/-- A local request as the Request Controller takes it (R126): in service alone (R141), the selector not judged again
(DEDUCED, log 12). -/
def takeLocal (slot : Nat) (dir : Direction) (s : State) : State :=
  if inService s then
    match requestChecks s 0 (localTag slot dir) slot dir with
    | some d => setLastLocal { outcome := .refused, reason := reasonOfDisposition d } s
    | none => joinQueue (newOperation 0 (localTag slot dir) slot dir 0 .localPanel) s
  else s

/-- LOCAL_REQUEST (R126): the oldest local request is taken. -/
def execLocalRequest (s : State) : Host.Outcome State Fault Refusal :=
  .next (match s.handover.locals with
    | [] => s
    | (slot, dir) :: rest => takeLocal slot dir (s.withHandover { s.handover with locals := rest }))

/-- A source matches a selector (R138). -/
def sourceMatches (sel : Selector) : Source → Bool
  | .remote => sel == .remoteMode
  | .localPanel => sel == .localMode

/-- One operation cancelled by a selector change (R138). -/
def cancelBySelector (s : State) (op : Operation) : State :=
  endOperation op .cancelled .selector (withdrawFor op s)

/-- The operations a selector change cancels, in queue order (R138). -/
def mismatched (sel : Selector) (s : State) : List Operation :=
  s.req.queue.filter fun op => isWaiting op && !sourceMatches sel op.source

/-- A selector change as the Request Controller takes it (R138): the next head starts after every cancellation. -/
def takeSelector (sel : Selector) (s : State) : State :=
  let ops := mismatched sel s
  let headGone := ops.any (isHead s)
  let s := ops.foldl cancelBySelector s
  if headGone then nextHead s else s

/-- SELECTOR_CHANGE (R138): the oldest change of the qualified selector is taken. -/
def execSelectorChange (s : State) : Host.Outcome State Fault Refusal :=
  .next (match s.handover.selectors with
    | [] => s
    | sel :: rest => takeSelector sel (s.withHandover { s.handover with selectors := rest }))

/-- A change of own object `k`'s position as the Request Controller takes it (R133). -/
def takePosition (k : Nat) (s : State) : State :=
  match headOp s with
  | none => s
  | some op =>
    if op.object = k ∧ (op.state = .claiming ∨ op.state = .deferred) then
      nextHead (endOperation op .failed .positionChanged (withdrawFor op s))
    else s

/-- POSITION_CHANGE_TAKEN (R133): the oldest change of an own object's position is taken. -/
def execPositionChangeTaken (s : State) : Host.Outcome State Fault Refusal :=
  .next (match s.handover.positions with
    | [] => s
    | k :: rest => takePosition k (s.withHandover { s.handover with positions := rest }))

/-- The defer timer stopped. -/
def stopDeferTimer (s : State) : State := s.withReq { s.req with deferTimer := none }

/-- DEFER_EXPIRY (R132): the head start of the DEFERRED head is taken again. -/
def execDeferExpiry (s : State) : Host.Outcome State Fault Refusal :=
  .next (match headOp s, s.req.deferTimer with
    | some op, some d => if op.state = .deferred then nextHead (stopDeferTimer (s.reachTime d)) else s
    | _, _ => s)

end Sys2Proof.Machine
end

