-- ==== Sys2Proof/Machine/StartUpEvents.lean ====
section
/-! DEFINITION. The commands of the Start-up Controller (09): resets, the end of the self-test, and the listen and announce
timers. -/

namespace Sys2Proof.Machine

/-- POWER_ON (R162): a reset that also sets the counters to 0. -/
def execPowerOn (s : State) : Host.Outcome State Fault Refusal := .next (resetNode .powerOn s)

/-- SUPPLY_DIP (R162): a reset that keeps the counters. -/
def execSupplyDip (s : State) : Host.Outcome State Fault Refusal := .next (resetNode .supplyDip s)

/-- RESET_LINE (R162): a reset that keeps the counters. -/
def execResetLine (s : State) : Host.Outcome State Fault Refusal := .next (resetNode .resetLine s)

/-- SELF_TEST_END (R14, R163): taken in SELF_TEST alone. -/
def execSelfTestEnd (s : State) : Host.Outcome State Fault Refusal :=
  .next (if s.start.phase = .selfTest then endSelfTest s else s)

/-- The entry to ANNOUNCE (R164, R165): JOINING is set, the phase event taken, the announce timer started. -/
def enterAnnounce (s : State) : State :=
  let s := s.withView { s.view with joining := true }
  let s := enterPhase .announce s
  s.withStart { s.start with listen := none, announce := some (s.now + ownAddress s * Config.announceStep) }

/-- LISTEN_EXPIRY (R164): finds the timer stopped, or ends the listen window. -/
def execListenExpiry (s : State) : Host.Outcome State Fault Refusal :=
  .next (match s.start.listen with
    | none => s
    | some d => if s.start.phase = .listen then enterAnnounce (s.reachTime d) else s)

/-- ANNOUNCE_EXPIRY (R165): the announcing STATUS is asked for. -/
def execAnnounceExpiry (s : State) : Host.Outcome State Fault Refusal :=
  .next (match s.start.announce with
    | none => s
    | some d =>
      if s.start.phase = .announce then
        let s := s.reachTime d
        requestStatus (s.withStart { s.start with announce := none })
      else s)

end Sys2Proof.Machine
end

