-- ==== Sys2Proof/Machine/Dispatch.lean ====
section
/-! DEFINITION. The meaning of every command: one direct call for each constructor of `Instr`. -/

namespace Sys2Proof.Machine

def exec (i : Instr) (s : State) : Host.Outcome State Fault Refusal :=
  match i with
  | .powerOn => Sys2Proof.Machine.execPowerOn s
  | .supplyDip => Sys2Proof.Machine.execSupplyDip s
  | .resetLine => Sys2Proof.Machine.execResetLine s
  | .selfTestEnd => Sys2Proof.Machine.execSelfTestEnd s
  | .listenExpiry => Sys2Proof.Machine.execListenExpiry s
  | .announceExpiry => Sys2Proof.Machine.execAnnounceExpiry s
  | .rawCombinationChange slot openContact closedContact => Sys2Proof.Machine.execRawCombinationChange slot openContact closedContact s
  | .qualificationEvent slot => Sys2Proof.Machine.execQualificationEvent slot s
  | .intermediateLimitExpiry slot => Sys2Proof.Machine.execIntermediateLimitExpiry slot s
  | .readyInputChange slot contact => Sys2Proof.Machine.execReadyInputChange slot contact s
  | .readyQualification slot => Sys2Proof.Machine.execReadyQualification slot s
  | .sensorInputChange sensor presence healthy => Sys2Proof.Machine.execSensorInputChange sensor presence healthy s
  | .sensorQualification sensor => Sys2Proof.Machine.execSensorQualification sensor s
  | .singleInputChange input contact => Sys2Proof.Machine.execSingleInputChange input contact s
  | .singleInputQualification input => Sys2Proof.Machine.execSingleInputQualification input s
  | .measurementReading which reading => Sys2Proof.Machine.execMeasurementReading which reading s
  | .measurementStateChange which => Sys2Proof.Machine.execMeasurementStateChange which s
  | .localRequest => Sys2Proof.Machine.execLocalRequest s
  | .selectorChange => Sys2Proof.Machine.execSelectorChange s
  | .positionChangeTaken => Sys2Proof.Machine.execPositionChangeTaken s
  | .attemptStart idle => Sys2Proof.Machine.execAttemptStart idle s
  | .collision halfBit read => Sys2Proof.Machine.execCollision halfBit read s
  | .frameSent => Sys2Proof.Machine.execFrameSent s
  | .headerReceived heard => Sys2Proof.Machine.execHeaderReceived heard s
  | .frameEnd syms => Sys2Proof.Machine.execFrameEnd syms s
  | .statusTakenByView => Sys2Proof.Machine.execStatusTakenByView s
  | .statusClaimPart => Sys2Proof.Machine.execStatusClaimPart s
  | .releaseTakenByView => Sys2Proof.Machine.execReleaseTakenByView s
  | .releaseTakenByClaims => Sys2Proof.Machine.execReleaseTakenByClaims s
  | .claim => Sys2Proof.Machine.execClaim s
  | .assent => Sys2Proof.Machine.execAssent s
  | .object => Sys2Proof.Machine.execObject s
  | .request => Sys2Proof.Machine.execRequest s
  | .check => Sys2Proof.Machine.execCheck s
  | .cancel => Sys2Proof.Machine.execCancel s
  | .viewChange => Sys2Proof.Machine.execViewChange s
  | .heartbeatExpiry => Sys2Proof.Machine.execHeartbeatExpiry s
  | .ageingDeadline station => Sys2Proof.Machine.execAgeingDeadline station s
  | .silenceTimerExpiry => Sys2Proof.Machine.execSilenceTimerExpiry s
  | .windowExpiry => Sys2Proof.Machine.execWindowExpiry s
  | .holdExpiry station => Sys2Proof.Machine.execHoldExpiry station s
  | .deferExpiry => Sys2Proof.Machine.execDeferExpiry s
  | .departureExpiry => Sys2Proof.Machine.execDepartureExpiry s
  | .travelExpiry => Sys2Proof.Machine.execTravelExpiry s
  | .coilPulseExpiry => Sys2Proof.Machine.execCoilPulseExpiry s
  | .settleExpiry => Sys2Proof.Machine.execSettleExpiry s
  | .readIdentity bytes => Sys2Proof.Machine.execReadIdentity bytes s
  | .readConfig bytes => Sys2Proof.Machine.execReadConfig bytes s
  | .writeConfig bytes => Sys2Proof.Machine.execWriteConfig bytes s
  | .eraseConfig bytes => Sys2Proof.Machine.execEraseConfig bytes s
  | .readView bytes => Sys2Proof.Machine.execReadView bytes s
  | .readObject bytes => Sys2Proof.Machine.execReadObject bytes s
  | .readClaims bytes => Sys2Proof.Machine.execReadClaims bytes s
  | .readCounters bytes => Sys2Proof.Machine.execReadCounters bytes s
  | .clearCounters bytes => Sys2Proof.Machine.execClearCounters bytes s
  | .restart bytes => Sys2Proof.Machine.execRestart bytes s
  | .unknownCommand code bytes => Sys2Proof.Machine.execUnknownCommand code bytes s
  | .portByteTimeout => Sys2Proof.Machine.execPortByteTimeout s
  | .responseSent => Sys2Proof.Machine.execResponseSent s
  | .portFrameCheckFailed bytes => Sys2Proof.Machine.execPortFrameCheckFailed bytes s
  | .portCharacterError => Sys2Proof.Machine.execPortCharacterError s
  | .portArgumentLengthExceeded bytes => Sys2Proof.Machine.execPortArgumentLengthExceeded bytes s

end Sys2Proof.Machine
end

