-- ==== Sys2Proof/Safety.lean ====
section
/-! DEFINITION. What a safe state of the node is: the laws that the spec states over the whole machine, as predicates of a
state. A run is safe when every state of it satisfies them. -/

namespace Sys2Proof.Machine

/-! ### Frames -/

/-- The parts of the state, one for each field of `State`. -/
inductive Part where
  | now
  | store
  | copy
  | objects
  | sensors
  | singles
  | supply
  | temperature
  | faults
  | link
  | view
  | claims
  | req
  | drive
  | start
  | port
  | counters
  | handover
  | pending
  deriving DecidableEq, Repr

/-- A part of the state is the same in two states. -/
def samePart (s t : State) : Part → Prop
  | .now => t.now = s.now
  | .store => t.store = s.store
  | .copy => t.copy = s.copy
  | .objects => t.objects = s.objects
  | .sensors => t.sensors = s.sensors
  | .singles => t.singles = s.singles
  | .supply => t.supply = s.supply
  | .temperature => t.temperature = s.temperature
  | .faults => t.faults = s.faults
  | .link => t.link = s.link
  | .view => t.view = s.view
  | .claims => t.claims = s.claims
  | .req => t.req = s.req
  | .drive => t.drive = s.drive
  | .start => t.start = s.start
  | .port => t.port = s.port
  | .counters => t.counters = s.counters
  | .handover => t.handover = s.handover
  | .pending => t.pending = s.pending

/-- From `s` to `t` nothing but the named parts of the state has changed. -/
def Touches (parts : List Part) (s t : State) : Prop := ∀ p, p ∉ parts → samePart s t p

/-- What a reset can change: all but the clock, the Configuration Store and the queue of commands (R6, R162). -/
def resetParts : List Part :=
  [.copy, .objects, .sensors, .singles, .supply, .temperature, .faults, .link, .view, .claims, .req, .drive, .start,
   .port, .counters, .handover]

/-- What a head start, a grant or the end of an operation can change (R128, R130, R134). -/
def operationParts : List Part := [.link, .counters, .claims, .view, .req, .objects, .drive, .handover]

/-- What a departure or an address conflict can change (R167, R168). -/
def departureParts : List Part := [.start, .req, .link, .counters, .claims, .view, .faults, .store, .port]

/-- The part of the state that holds a measurement (R33). -/
def measurePart : Measure → Part
  | .supply => .supply
  | .temperature => .temperature

/-- The parts of the state that each command can change, by the rules of the blocks it reaches. -/
def mayChange : Instr → List Part
  | .powerOn => resetParts
  | .supplyDip => resetParts
  | .resetLine => resetParts
  | .selfTestEnd =>
    [.store, .copy, .objects, .sensors, .start, .view, .req, .faults, .singles, .link, .handover, .supply, .temperature]
  | .listenExpiry => [.now, .start, .view, .link]
  | .announceExpiry => [.now, .start, .link]
  | .rawCombinationChange _ _ _ => [.objects]
  | .qualificationEvent _ => [.now, .faults] ++ operationParts
  | .intermediateLimitExpiry _ => [.now, .objects, .view, .link, .handover, .faults]
  | .readyInputChange _ _ => [.objects]
  | .readyQualification _ => [.now, .objects]
  | .sensorInputChange _ _ _ => [.sensors]
  | .sensorQualification _ => [.now, .sensors, .view, .link, .handover]
  | .singleInputChange _ _ => [.singles]
  | .singleInputQualification _ => [.now, .singles, .view, .link, .handover, .faults]
  | .measurementReading which _ => [measurePart which]
  | .measurementStateChange which => [.now, measurePart which]
  | .localRequest => operationParts
  | .selectorChange => operationParts
  | .positionChangeTaken => operationParts
  | .attemptStart _ => [.link]
  | .collision _ _ => [.start, .store, .port, .faults] ++ operationParts
  | .frameSent => [.link, .view, .start, .store, .port, .claims, .faults]
  | .headerReceived _ => departureParts
  | .frameEnd _ => [.link, .view, .faults, .counters, .handover]
  | .statusTakenByView => [.link, .view, .handover]
  | .statusClaimPart => [.link, .claims]
  | .releaseTakenByView => [.link, .view, .handover]
  | .releaseTakenByClaims => [.link, .claims]
  | .claim => operationParts
  | .assent => [.link, .claims]
  | .object => operationParts
  | .request => operationParts
  | .check => [.link, .counters]
  | .cancel => operationParts
  | .viewChange => operationParts
  | .heartbeatExpiry => [.now, .view, .link]
  | .ageingDeadline _ => [.now, .view, .handover]
  | .silenceTimerExpiry => [.now, .view, .faults, .link]
  | .windowExpiry => .now :: operationParts
  | .holdExpiry _ => [.now, .claims]
  | .deferExpiry => .now :: operationParts
  | .departureExpiry => [.now, .faults] ++ operationParts
  | .travelExpiry => [.now, .faults] ++ operationParts
  | .coilPulseExpiry => [.now, .drive]
  | .settleExpiry => .now :: operationParts
  | .readIdentity _ => [.port]
  | .readConfig _ => [.port]
  | .writeConfig _ => [.port, .store, .faults]
  | .eraseConfig _ => departureParts
  | .readView _ => [.port]
  | .readObject _ => [.port]
  | .readClaims _ => [.port]
  | .readCounters _ => [.port]
  | .clearCounters _ => [.port, .counters]
  | .restart _ => departureParts
  | .unknownCommand _ _ => [.port]
  | .portByteTimeout => [.now, .port]
  | .responseSent => resetParts
  | .portFrameCheckFailed _ => [.port]
  | .portCharacterError => [.port]
  | .portArgumentLengthExceeded _ => [.port]

/-! ### The fault indication relay -/

/-- R38: the relay is energized exactly while a pending flag belongs to an enabled cause. -/
def RelayFollowsFlags (s : State) : Prop := s.faults.relay = relayFor s.faults.pending (enabledCauses s)

/-- R14, R25, R60, R76: the blocks hold a copy of the record from entry to LISTEN until the next reset, and none in SELF_TEST
and UNCONFIGURED. -/
def CopyFollowsPhase (s : State) : Prop := s.copy = none ↔ (s.start.phase = .selfTest ∨ s.start.phase = .unconfigured)

/-! ### Tables and queues -/

/-- The keys of a table rise strictly: at most one entry for a key. -/
def TableOk {α : Type} (t : Table α) : Prop := (t.map (·.1)).Pairwise (· < ·)

/-- Every table of the node has at most one entry for a key (R65, R101, R114). -/
def TablesOk (s : State) : Prop :=
  TableOk s.view.entries ∧ TableOk s.claims.answers ∧ TableOk s.claims.foreign ∧ TableOk s.objects ∧ TableOk s.sensors

/-- R44 to R46, R56: at most eight urgent frames, one STATUS marker and one CLAIM wait, and at most six inbound frames. -/
def QueuesBounded (l : Link) : Prop :=
  l.urgent.length ≤ Config.urgentPlaces ∧ (l.normal.filter isMarker).length ≤ 1 ∧
    (l.normal.filter fun i => !isMarker i).length ≤ 1 ∧ l.inbound.length ≤ Config.inboundPlaces

/-- The frame of a CLAIM of the normal queue. -/
def claimFrameOf : NormalItem → Option Frame
  | .marker _ _ _ => none
  | .claim _ f _ _ => some f

/-- The frame of an attempt is at the head of its class's queue (R47, R48): an urgent frame, the CLAIM, or a STATUS of the
marker. -/
def AtHead (l : Link) (a : Attempt) : Prop :=
  match a.cls with
  | .urgent => (l.urgent.head?).map (·.frame) = some a.frame
  | .normal => ∃ i, l.normal.head? = some i ∧ (claimFrameOf i = some a.frame ∨ (isMarker i = true ∧ a.frame.type = .status))

/-- The class that R47 chooses: urgent while an urgent frame waits, else normal while a marker or a CLAIM waits. -/
def ChosenClass (l : Link) (cls : Option FrameClass) : Prop :=
  (l.urgent ≠ [] → cls = some .urgent) ∧ (l.urgent = [] → l.normal ≠ [] → cls = some .normal) ∧
    (l.urgent = [] → l.normal = [] → cls = none)

/-- R43, R47, R48, R58: with no attempt on the line the current frame is the one of the class R47 chooses, with a k of at
most 15; outside SILENT an attempt's frame is at the head of its queue and current; no frame waits in a phase that does not
transmit, and no attempt is on the line there but one that runs on in SILENT. -/
def LinkCoherent (s : State) : Prop :=
  (s.link.attempt = none → ChosenClass s.link (s.link.current.map (·.cls))) ∧ (∀ c, s.link.current = some c → c.k ≤ 15) ∧
    (∀ a, s.link.attempt = some a → s.start.phase ≠ .silent →
      AtHead s.link a ∧ s.link.current.map (·.cls) = some a.cls) ∧
    (transmits s.start.phase = false → s.link.urgent = [] ∧ s.link.normal = [] ∧ s.link.current = none) ∧
    (s.link.attempt ≠ none → transmits s.start.phase = true ∨ s.start.phase = .silent)

/-- A frame that stays current keeps its k (R47): an urgent one, or the marker, with no attempt begun. -/
def KeepsWait (l m : Link) : Prop :=
  l.attempt = none → m.attempt = none → ∀ c d, l.current = some c → m.current = some d → c.cls = d.cls →
    (c.cls = .normal → (l.normal.head?).any isMarker = true) → d = c

/-- R59, R119, R140: every counter is at most 65,535. -/
def CountersBounded (c : Counters) : Prop :=
  c.headerErrors ≤ Config.counterMax ∧ c.bodyErrors ≤ Config.counterMax ∧ c.overruns ≤ Config.counterMax ∧
    c.txAbandoned ≤ Config.counterMax ∧ c.txDropped ≤ Config.counterMax ∧ c.claimsGranted ≤ Config.counterMax ∧
    c.claimsWithdrawn ≤ Config.counterMax ∧ c.opsDone ≤ Config.counterMax ∧ c.opsFailed ≤ Config.counterMax

/-! ### Claims -/

/-- The law of R113: no ASSENTED foreign record shares a yard node with the own claim. -/
def PromisesKept (s : State) : Prop :=
  ∀ c, s.claims.own = some c → ∀ e ∈ s.claims.foreign, e.2.assented = true → nodesOverlap c.nodes e.2.nodes = false

/-! ### The head operation, the own claim and the drive -/

/-- The outputs that a drive record energizes: one while its output is ENERGIZED, else none (R147). -/
def outputsOf : Option DriveRecord → BitVec 8 × BitVec 8
  | none => (0, 0)
  | some d =>
    if d.energized then
      match d.dir with
      | .toOpen => (outputBit d.object, 0)
      | .toClose => (0, outputBit d.object)
    else (0, 0)

/-- The outputs are those of the drive record (R147). -/
def OutputsFollowRecord (d : Drive) : Prop := (d.openOutputs, d.closeOutputs) = outputsOf d.record

/-- The own claim is CLAIMING for an object and direction. -/
def claimingFor (own : Option OwnClaim) (k : Nat) (dir : Direction) : Prop :=
  match own with
  | some c => c.held = false ∧ c.object = k ∧ c.dir = dir
  | none => False

/-- The own claim is HELD for an object and direction. -/
def heldFor (own : Option OwnClaim) (k : Nat) (dir : Direction) : Prop :=
  match own with
  | some c => c.held = true ∧ c.object = k ∧ c.dir = dir
  | none => False

/-- The drive record is ACTIVE for an object and direction, in the stage TRAVELLING or SETTLING; in SETTLING its output is
OFF (R147, R152). -/
def drivenFor (record : Option DriveRecord) (k : Nat) (dir : Direction) (settling : Bool) : Prop :=
  match record with
  | some d => d.object = k ∧ d.dir = dir ∧ d.settling = settling ∧ (d.settling = true → d.energized = false)
  | none => False

/-- What the own claim and the drive record are for the head operation (R97, R122, R147). -/
def headAgrees (head : Option Operation) (own : Option OwnClaim) (record : Option DriveRecord) : Prop :=
  match head with
  | none => own = none ∧ record = none
  | some op =>
    match op.state with
    | .queued => False
    | .claiming => claimingFor own op.object op.dir ∧ record = none
    | .deferred => own = none ∧ record = none
    | .travelling => heldFor own op.object op.dir ∧ drivenFor record op.object op.dir false
    | .settling => heldFor own op.object op.dir ∧ drivenFor record op.object op.dir true

/-- Two operations have not the same requester and tag (R122, R125). -/
def namesDiffer (x y : Operation) : Prop := isNamed x.requester x.tag y = false

/-- R122: behind the head every operation is QUEUED, and no two operations have the same name. -/
def QueueOk (q : List Operation) : Prop := (∀ op ∈ q.tail, op.state = .queued) ∧ q.Pairwise namesDiffer

/-- An object's commanded flag is set exactly while the drive record is ACTIVE for it (R23). -/
def CommandedFollowsRecord (s : State) : Prop :=
  ∀ k, (objIn s k).commanded = true ↔ ∃ d, s.drive.record = some d ∧ d.object = k

/-- The head operation, the own claim, the drive record, the outputs and the commanded flags agree (R23, R97, R122,
R147). -/
def DriveCoherent (s : State) : Prop :=
  QueueOk s.req.queue ∧ headAgrees (headOp s) s.claims.own s.drive.record ∧ OutputsFollowRecord s.drive ∧
    CommandedFollowsRecord s

/-- The drive record follows the contacts of its object (R149, R151, R152, R155, R156): its combinations are those of its
direction; in TRAVELLING the departure timer runs exactly until departure is seen, and from then on 00 is the qualified
combination; in SETTLING the target is. -/
def DriveFollowsContacts (s : State) : Prop :=
  ∀ d, s.drive.record = some d →
    d.start = startComb d.dir ∧ d.target = targetComb d.dir ∧
      (d.settling = false →
        (d.departure = none ↔ d.departed = true) ∧
          (d.departed = true → (objIn s d.object).qualified = some .c00)) ∧
      (d.settling = true → (objIn s d.object).qualified = some d.target)

/-- The number of energized drive outputs. -/
def energizedOutputs (d : Drive) : Nat :=
  ((List.range 8).filter fun i => d.openOutputs.getLsbD i).length +
    ((List.range 8).filter fun i => d.closeOutputs.getLsbD i).length

/-- R148: at most one drive output is energized, and only while the head operation is TRAVELLING and the own claim is
HELD. -/
def OneOutput (s : State) : Prop :=
  energizedOutputs s.drive ≤ 1 ∧
    (energizedOutputs s.drive = 1 →
      (∃ op, headOp s = some op ∧ op.state = .travelling) ∧ ∃ c, s.claims.own = some c ∧ c.held = true)

/-- R122, R141, R167: the queue holds no more operations than field 4 admits, and none before LISTEN, before
READY, or while a departure is pending; in SILENT it holds a driven one alone. -/
def QueueFits (s : State) : Prop :=
  (∀ r, s.copy = some r → s.req.queue.length ≤ r.depth) ∧ (s.copy = none → s.req.queue = []) ∧
    (s.start.phase ≠ .ready → s.start.phase ≠ .silent → s.req.queue = []) ∧
    (s.start.phase = .silent → (s.req.queue.all isDriven) = true) ∧ (s.start.departure ≠ none → s.req.queue = [])

/-- The event-type cause TRAVEL_FAIL has no condition that holds (R35). -/
def NoTravelCondition (s : State) : Prop := causeIn s.faults.holding .travelFail = false

/-- The moment of a last byte is held exactly while bytes of a frame are gathered (R170). -/
def GapFollowsBytes (p : Port) : Prop := p.lastByte.isSome = true ↔ p.gathered ≠ []

/-- Every law at once. -/
def Safe (s : State) : Prop :=
  RelayFollowsFlags s ∧ CopyFollowsPhase s ∧ NoTravelCondition s ∧ TablesOk s ∧ QueuesBounded s.link ∧ LinkCoherent s ∧
    CountersBounded s.counters ∧ PromisesKept s ∧
    DriveCoherent s ∧ OneOutput s ∧ QueueFits s ∧ GapFollowsBytes s.port

/-! ### Tables of the spec, as relations -/

/-- The position table of R20: the new position from the new qualified combination and the previous position. -/
def PositionTable (c : Comb) (previous new : Position) : Prop :=
  (c = .c10 → new = .opened) ∧ (c = .c01 → new = .closed) ∧ (c = .c11 → new = .faulty) ∧
    (c = .c00 → previous = .faulty → new = .faulty) ∧ (c = .c00 → previous ≠ .faulty → new = .moving)

/-- The own objects' positions agree with their qualified combinations (R20 to R22): UNKNOWN exactly before the first
qualification event, and FAULTY or MOVING at 00. -/
def PositionsFollowCombinations (s : State) : Prop :=
  ∀ k, match (objIn s k).qualified with
    | none => (objIn s k).position = .unknown
    | some .c10 => (objIn s k).position = .opened
    | some .c01 => (objIn s k).position = .closed
    | some .c11 => (objIn s k).position = .faulty
    | some .c00 => (objIn s k).position = .moving ∨ (objIn s k).position = .faulty

/-- No pending flag of `s` is clear in `t`. -/
def FlagsStay (s t : State) : Prop := s.faults.pending &&& t.faults.pending = s.faults.pending

/-- The resets of the table, and the end of a response, which restarts the node after ACCEPTED, ERASED and RESTARTING. -/
def mayReset (c : Instr) : Prop := c = .powerOn ∨ c = .supplyDip ∨ c = .resetLine ∨ c = .responseSent

/-! ### Effects that several commands share -/

/-- The change counter after `n` own-content events (R61): it advances from LISTEN on. -/
def countedFrom (s : State) (n : Nat) : Byte :=
  if s.copy.isSome then s.view.counter + BitVec.ofNat 8 n else s.view.counter

/-- The CLAIM of the normal queue, if one waits (R46). -/
def claimsQueued (l : Link) : List NormalItem := l.normal.filter fun i => !isMarker i

/-- The normal queue after a request to send a STATUS (R45). -/
def askedNormal (l : Link) : List NormalItem :=
  if l.normal.any isMarker then (if markerOnLine l then l.normal.map markRenew else l.normal)
  else l.normal ++ [.marker false false 0]

/-- Own-content events ask for a STATUS in READY (R61, R62). -/
def asksStatus (s : State) (n : Nat) : Bool := decide (0 < n) && s.copy.isSome && s.start.phase == .ready

/-- From `s` to `t` `n` own-content events have been taken (R61, R62): of the view the counter alone has changed, and in
READY a STATUS has been asked for. -/
def OwnEvents (s t : State) (n : Nat) : Prop :=
  t.view = { s.view with counter := countedFrom s n } ∧
    t.link.normal.filter isMarker =
      (if asksStatus s n then askedNormal s.link else s.link.normal).filter isMarker

/-- Urgent frames handed over one after the other (R43, R44): while the node transmits they join the tail in their order as
far as the eight places go, and each one beyond is dropped and counted; else they are discarded. -/
def HandsOver (s t : State) (fs : List Frame) : Prop :=
  if transmits s.start.phase then
    t.link.urgent = s.link.urgent ++ (fs.take (8 - s.link.urgent.length)).map (fun f => { frame := f, attempts := 0 }) ∧
      t.counters.txDropped = Nat.iterate bump (fs.length - (8 - s.link.urgent.length)) s.counters.txDropped
  else t.link.urgent = s.link.urgent ∧ t.counters.txDropped = s.counters.txDropped

/-- Urgent frames handed over, and nothing else done. -/
def HandedOver (s t : State) (fs : List Frame) : Prop :=
  HandsOver s t fs ∧ t.counters = { s.counters with txDropped := t.counters.txDropped } ∧
    t.link = { s.link with urgent := t.link.urgent, current := t.link.current, draws := t.link.draws } ∧
    Touches [.link, .counters] s t

/-- The delivery of the inbound head has ended (R56). -/
def delivered (s : State) : State :=
  s.withLink { s.link with inbound := s.link.inbound.tail, viewTaken := false }

/-- The own claim has become IDLE (R97, R109, R120), CLAIMS_WITHDRAWN counted or not, with the frames handed over: the
answer table discarded, the window stopped, the ending kept, one own-content event. -/
def ClaimEnded (c : OwnClaim) (cause : EndCause) (objection : Option Objection) (counted : Bool) (frames : List Frame)
    (s t : State) : Prop :=
  t.claims = { s.claims with
    own := none, answers := [], window := none
    lastEnding := some { id := c.id, cause := cause, objection := objection } } ∧
    t.counters = { s.counters with
      claimsWithdrawn := if counted then bump s.counters.claimsWithdrawn else s.counters.claimsWithdrawn
      txDropped := t.counters.txDropped } ∧
    HandsOver s t frames ∧ OwnEvents s t 1 ∧ Touches [.link, .counters, .claims, .view] s t

/-- A RELEASE of a claim in its no-position form (R108). -/
def bareRelease (s : State) (c : OwnClaim) : Frame :=
  ownFrame s .release 0 (releaseBody c.id s.view.counter none)

/-- A CLAIMING claim has been withdrawn (R109): its RELEASE handed over in the no-position form, its CLAIM removed from the
normal queue, or marked for removal while its attempt is on the line (R46). -/
def Withdrawn (c : OwnClaim) (cause : EndCause) (objection : Option Objection) (s t : State) : Prop :=
  ClaimEnded c cause objection true [bareRelease s c] s t ∧
    claimsQueued t.link = if claimOnLine s.link then (claimsQueued s.link).map markRemoved else []

/-- A HELD claim has been released without travel (R109): no RELEASE for an empty claim set. -/
def ReleasedUndriven (c : OwnClaim) (s t : State) : Prop :=
  ClaimEnded c .notDriven none false (if c.nodes = 0 then [] else [bareRelease s c]) s t ∧
    claimsQueued t.link = claimsQueued s.link

/-- The withdrawal that the Request Controller asks for an operation that it ends (R129): of a CLAIMING one alone. -/
def WithdrawnFor (op : Operation) (s t : State) : Prop :=
  match op.state, s.claims.own with
  | .claiming, some c => Withdrawn c .operationEnded none s t
  | _, _ => t = s

/-- The last local result that an operation's end sets (R127, R134). -/
def localAfter (op : Operation) (o : OpOutcome) (r : Reason) (s : State) : Option LocalResult :=
  match op.source with
  | .localPanel => some { outcome := o, reason := r }
  | .remote => s.req.lastLocal

/-- The RESULT that an operation's end hands over (R134, R139). -/
def resultsFor (op : Operation) (o : OpOutcome) (r : Reason) (s : State) : List Frame :=
  match op.source with
  | .localPanel => []
  | .remote => [ownFrame s .result op.requester (resultBody op.tag op.object op.dir o r (positionOf s op.object))]

/-- The own-content events of an operation's end: a changed last local result is one (R61, R127). -/
def localEvents (op : Operation) (o : OpOutcome) (r : Reason) (s : State) : Nat :=
  if localAfter op o r s = s.req.lastLocal then 0 else 1

/-- An operation without a drive has ended (R134): its answer given, the counter raised, and the operation gone from the
queue, with its defer timer stopped (R132). -/
def OperationEnded (op : Operation) (o : OpOutcome) (r : Reason) (s t : State) : Prop :=
  t.req =
      { queue := s.req.queue.filter fun q => !isNamed op.requester op.tag q
        deferTimer := if op.state = .deferred then none else s.req.deferTimer
        lastLocal := localAfter op o r s } ∧
    t.counters = { s.counters with
      opsDone := if o = .done then bump s.counters.opsDone else s.counters.opsDone
      opsFailed := if o = .failed then bump s.counters.opsFailed else s.counters.opsFailed
      txDropped := t.counters.txDropped } ∧
    HandsOver s t (resultsFor op o r s) ∧ OwnEvents s t (localEvents op o r s) ∧
    claimsQueued t.link = claimsQueued s.link ∧ Touches [.link, .counters, .view, .req] s t

/-- The head `op` has been deferred (R131): DEFERRED with its defer count raised and the defer timer started while the stall
limit admits it, and else ended FAILED with the deferral's reason, the next head started. -/
def Deferral (op : Operation) (r : Reason) (s t : State) : Prop :=
  (op.deferCount + 1 ≤ fieldOf s (·.stallLimit) →
    t = s.withReq { s.req with
      queue := { op with state := .deferred, deferCount := op.deferCount + 1, lastDeferral := some r } :: s.req.queue.tail
      deferTimer := some (s.now + fieldOf s (·.deferInterval)) }) ∧
    (fieldOf s (·.stallLimit) < op.deferCount + 1 → ∃ u, OperationEnded op .failed r s u ∧ t = nextHead u)

/-- A selector change cancels an operation (R138): it waits, and its source does not match the new selector. -/
def isCancelledBy (sel : Selector) (op : Operation) : Bool :=
  !isDriven op && match op.source with
    | .remote => sel != .remoteMode
    | .localPanel => sel != .localMode

/-- The own claim that a selector change withdraws, if any: that of a CLAIMING head it cancels. -/
def withdrawnBy (sel : Selector) (s : State) : List OwnClaim :=
  if (headOp s).any (fun op => isCancelledBy sel op && op.state == .claiming) then s.claims.own.toList else []

/-- A cause newly pending counts one own-content event (R36, R61). -/
def newlyPending (s t : State) (c : Cause) : Nat :=
  if causeIn s.faults.pending c = false ∧ causeIn t.faults.pending c = true then 1 else 0

/-- The own-content events of a drive's end up to its RELEASE: a changed position, and each cause newly pending. -/
def driveEvents (s t : State) (k : Nat) : Nat :=
  (if positionOf t k = positionOf s k then 0 else 1) + newlyPending s t .objectFaulty + newlyPending s t .travelFail

/-- The qualified combination and the position of an object are the same in two states. -/
def ContactsStay (k : Nat) (s t : State) : Prop :=
  (objIn t k).qualified = (objIn s k).qualified ∧ positionOf t k = positionOf s k

/-- The drive of the head has ended with an outcome and a reason (R134, R157): record IDLE, its output off, the commanded
flag clear, TRAVEL_FAIL pending after FAILED, the claim IDLE, the operation gone from the queue and counted; the RELEASE in
its position form handed over unless the claim set is empty, and after it the RESULT of a REMOTE operation. -/
def DriveEnded (o : OpOutcome) (r : Reason) (d : DriveRecord) (op : Operation) (c : OwnClaim) (s t : State) : Prop :=
  t.drive =
      { record := none
        openOutputs := if d.dir = .toOpen then s.drive.openOutputs &&& ~~~ outputBit d.object else s.drive.openOutputs
        closeOutputs := if d.dir = .toClose then s.drive.closeOutputs &&& ~~~ outputBit d.object else s.drive.closeOutputs } ∧
    (objIn t d.object).commanded = false ∧
    ((objIn t d.object).position = .moving →
      (objIn t d.object).intermediate = some (t.now + fieldOf s (·.intermediate))) ∧
    (∀ j, j ≠ d.object → objIn t j = objIn s j) ∧
    t.claims = { s.claims with
      own := none, answers := [], window := none
      lastEnding := some { id := c.id, cause := .travelEnded, objection := none } } ∧
    t.req = { s.req with
      queue := s.req.queue.filter fun q => !isNamed op.requester op.tag q, lastLocal := localAfter op o r s } ∧
    t.counters = { s.counters with
      opsDone := if o = .done then bump s.counters.opsDone else s.counters.opsDone
      opsFailed := if o = .failed then bump s.counters.opsFailed else s.counters.opsFailed
      txDropped := t.counters.txDropped } ∧
    FlagsStay s t ∧ (o = .failed → causeIn t.faults.pending .travelFail = true) ∧
    HandsOver s t
      ((if c.nodes = 0 then [] else
          [ownFrame s .release 0
            (releaseBody c.id (countedFrom s (driveEvents s t d.object)) (some (c.object, positionOf t c.object)))]) ++
        resultsFor op o r t) ∧
    OwnEvents s t (driveEvents s t d.object + 1 + localEvents op o r s) ∧ claimsQueued t.link = claimsQueued s.link

/-! ### The head start and the grant -/

/-- Step 1 of R128: the positions that refuse a head start, with their reasons. -/
def StartRefusal (p : Position) (dir : Direction) (r : Reason) : Prop :=
  (p = .faulty ∧ r = .faulty) ∨ ((p = .moving ∨ p = .unknown) ∧ r = .moving) ∨ (p = targetPosition dir ∧ r = .already)

/-- The profile of the drive kind of an object's kind (R4, R10). -/
def profileFor (r : BayRecord) (kind : Kind) : Profile := if kind = .cb then r.coilProfile else r.motorProfile

/-- The travel limit of an object is `l` (R142): from the two measurements, field 12, the profile of its drive kind and its
base travel time. -/
def TravelLimitIs (s : State) (d : ObjDesc) (l : Nat) : Prop :=
  ∃ r, s.copy = some r ∧ ∃ p, supplyPercent s.supply r.nominal = some p ∧
    ∃ t, temperatureAbove s.temperature = some t ∧
      ∃ a, derating (profileFor r d.kind) p t = some a ∧ l = travelFrom d.base a

/-- The travel limit of an object is UNRATED at one of its steps (R142 to R145). -/
def TravelUnrated (s : State) (d : ObjDesc) : Prop :=
  ∃ r, s.copy = some r ∧
    (supplyPercent s.supply r.nominal = none ∨ temperatureAbove s.temperature = none ∨
      ∃ p, supplyPercent s.supply r.nominal = some p ∧ ∃ t, temperatureAbove s.temperature = some t ∧
        derating (profileFor r d.kind) p t = none)

/-- The bypass reason that a permitted verdict sets or clears (R128, R130). -/
def bypassOf (v : EvalResult) : Option Reason := if v.verdict = .permittedBypass then some v.reason else none

/-- An operation after an evaluation of it: its bypass reason set or cleared by the verdict, and nothing else (R121). -/
def evaluated (v : EvalResult) (op : Operation) : Operation := { op with bypassReason := bypassOf v }

/-- The state after an evaluation of its head operation (R121). -/
def headEvaluated (v : EvalResult) (s : State) : State :=
  s.withReq { s.req with queue := match s.req.queue with
    | [] => []
    | op :: rest => evaluated v op :: rest }

/-- A claim set shares a yard node with a record of the foreign claim list (R99). -/
def meetsForeign (s : State) (nodes : NodeSet) : Bool := s.claims.foreign.any fun e => nodesOverlap nodes e.2.nodes

/-- A claim as it starts for an operation (R97, R99), HELD or CLAIMING in a round. -/
def claimFor (s : State) (op : Operation) (limit : Nat) (nodes : NodeSet) (held : Bool) (round : Nat) : OwnClaim :=
  { held := held, id := s.claims.nextId, round := round, cls := op.cls, deferCount := op.deferCount
    holdLimit := (limit + fieldOf s (·.settle) + 2000) / 10, nodes := nodes, object := op.object, dir := op.dir
    source := op.source, startPos := positionOf s op.object }

/-- The head `op` has started a claim (R99 to R101): CLAIMING in round 1, every concerned station AWAITING, its CLAIM at the
tail of the normal queue, one own-content event. -/
def ClaimStarted (op : Operation) (limit : Nat) (nodes : NodeSet) (s t : State) : Prop :=
  t.claims = { s.claims with
    own := some (claimFor s op limit nodes false 1), nextId := s.claims.nextId + 1
    answers := (concernedStations s nodes).map fun j => (j, .awaiting) } ∧
    claimsQueued t.link = [.claim s.claims.nextId
      (ownFrame s .claim 0 (claimBody s.claims.nextId 1 op.cls op.deferCount
        ((limit + fieldOf s (·.settle) + 2000) / 10) nodes)) 0 false] ∧
    t.req = { s.req with queue := { op with state := .claiming } :: s.req.queue.tail } ∧ OwnEvents s t 1 ∧
    t.link.urgent = s.link.urgent ∧ Touches [.link, .view, .claims, .req] s t

/-- A claim has become HELD (R107), in round 0 (log 20): CLAIMS_GRANTED raised, one own-content event. -/
def Granted (c : OwnClaim) (s t : State) : Prop :=
  t.claims = { s.claims with own := some { c with held := true, round := 0 }, answers := [], window := none } ∧
    t.counters = { s.counters with claimsGranted := bump s.counters.claimsGranted } ∧ OwnEvents s t 1 ∧
    t.link.urgent = s.link.urgent ∧ claimsQueued t.link = claimsQueued s.link ∧
    Touches [.link, .view, .claims, .counters] s t

/-- The head `op` has taken a claim over an empty set, HELD at once (R99). -/
def EmptyClaimHeld (op : Operation) (limit : Nat) (s t : State) : Prop :=
  t.claims = { s.claims with own := some (claimFor s op limit 0 true 0), nextId := s.claims.nextId + 1 } ∧
    t.counters = { s.counters with claimsGranted := bump s.counters.claimsGranted } ∧ OwnEvents s t 1 ∧
    t.link.urgent = s.link.urgent ∧ claimsQueued t.link = claimsQueued s.link ∧
    Touches [.link, .view, .claims, .counters] s t

/-- The drive of the head `op` has started (R149): the record filled, the commanded flag set, the output energized, the
timers started, the operation TRAVELLING. -/
def DriveStarted (d : ObjDesc) (op : Operation) (s t : State) : Prop :=
  t.req = { s.req with queue := { op with state := .travelling } :: s.req.queue.tail } ∧
    objIn t op.object = { objIn s op.object with commanded := true, intermediate := none } ∧
    (∀ j, j ≠ op.object → objIn t j = objIn s j) ∧
    t.drive =
      { record := some
          { object := op.object, dir := op.dir, kind := if d.kind = .cb then .coil else .motor
            start := if op.dir = .toOpen then .c01 else .c10, target := if op.dir = .toOpen then .c10 else .c01
            settling := false, energized := true, departed := false
            travel := some (s.now + op.travelLimit.getD 0)
            departure := some (s.now + departureLimit (op.travelLimit.getD 0))
            coilPulse := if d.kind = .cb then some (s.now + fieldOf s (·.coilPulse)) else none
            settle := none }
        openOutputs := if op.dir = .toOpen then s.drive.openOutputs ||| outputBit op.object else s.drive.openOutputs
        closeOutputs := if op.dir = .toClose then s.drive.closeOutputs ||| outputBit op.object else s.drive.closeOutputs } ∧
    Touches [.req, .objects, .drive] s t

/-- The grant of the head `op` has been handled under the HELD claim `c` (R130): final evaluation, mechanism ready, drive
start. -/
def GrantHandled (op : Operation) (c : OwnClaim) (s t : State) : Prop :=
  ((evaluate s op.object op.dir op.source).verdict = .refused →
    ∃ u v, ReleasedUndriven c s u ∧
      OperationEnded op .refused (evaluate s op.object op.dir op.source).reason u v ∧ t = nextHead v) ∧
    ((evaluate s op.object op.dir op.source).verdict ≠ .refused →
      ((objIn s op.object).ready ≠ .ready →
        ∃ u, ReleasedUndriven c s u ∧
          Deferral (evaluated (evaluate s op.object op.dir op.source) op) .notReady u t) ∧
      ((objIn s op.object).ready = .ready → ∀ d, objDesc s op.object = some d →
        DriveStarted d (evaluated (evaluate s op.object op.dir op.source) op) s t))

/-- The waiting position changes as a head start leaves them (R133; log 32). -/
def seenBy (op : Operation) (s : State) : State :=
  s.withHandover { s.handover with
    positions := if op.state = .queued then s.handover.positions.filter (· != op.object) else s.handover.positions }

/-- The head `op` has ended at a step of its head start, and the next head has started (R128, R134). -/
def EndsAtStart (op : Operation) (o : OpOutcome) (r : Reason) (s t : State) : Prop :=
  ∃ u, OperationEnded op o r s u ∧ t = nextHead u

/-- The claim step of a head start (R99, R128 step 4), for the operation with its travel limit and bypass reason held. -/
def ClaimAsked (op : Operation) (limit : Nat) (nodes : NodeSet) (s t : State) : Prop :=
  (nodes = 0 → ∃ u, EmptyClaimHeld op limit s u ∧ GrantHandled op (claimFor s op limit 0 true 0) u t) ∧
    (nodes ≠ 0 → meetsForeign s nodes = true → Deferral op .foreign s t) ∧
    (nodes ≠ 0 → meetsForeign s nodes = false → claimsQueued s.link ≠ [] → Deferral op .linkBusy s t) ∧
    (nodes ≠ 0 → meetsForeign s nodes = false → claimsQueued s.link = [] → transmits s.start.phase = true →
      ClaimStarted op limit nodes s t)

/-- The head start of the head `op` has been taken, step by step (R128). -/
def HeadStarted (op : Operation) (s t : State) : Prop :=
  (∀ r, StartRefusal (positionOf s op.object) op.dir r → EndsAtStart op .refused r (seenBy op s) t) ∧
    ((∀ r, ¬ StartRefusal (positionOf s op.object) op.dir r) → ∀ d, objDesc s op.object = some d →
      (TravelUnrated s d → EndsAtStart op .failed .mechUnrated (seenBy op s) t) ∧
      ∀ l, TravelLimitIs s d l →
        ((evaluate s op.object op.dir op.source).nodes = none →
          EndsAtStart op .refused (evaluate s op.object op.dir op.source).reason (seenBy op s) t) ∧
        ∀ nodes, (evaluate s op.object op.dir op.source).nodes = some nodes →
          ClaimAsked { op with
            travelLimit := some l, bypassReason := bypassOf (evaluate s op.object op.dir op.source) } l nodes
            (seenBy op s) t)

/-- Every entry of the answer table is ASSENTED and no station of it is SUSPECT (R104, first row). -/
def AllAssented (s : State) : Prop :=
  ∀ e ∈ s.claims.answers, e.2 = .assented ∧ (entryOf s e.1).map (·.state) ≠ some .suspect

/-- The departure has ended (R15, R167, R175): its response is known, and sent when the transmitter is free; an erase has
set the store to NONE, so that no record is in force while the blocks keep their copy (log 8), and has ended CONFIG_INVALID
(log 28). -/
def DepartureEnded (d : Departure) (s t : State) : Prop :=
  t.port.outstanding = s.port.outstanding ∧ t.port.owedBusy = s.port.owedBusy ∧ t.port.gathered = s.port.gathered ∧
    t.port.lastByte = s.port.lastByte ∧
    t.port.response = some
      (match d with
        | .restart => { code := 0x0A, status := 0x03, data := [] }
        | .erase => { code := 0x04, status := 0x02, data := [] }) ∧
    (s.port.sending = none → s.port.owedBusy = none →
      t.port.sending = t.port.response.map fun r => { busy := false, bytes := responseBytes r }) ∧
    (s.port.sending ≠ none → t.port.sending = s.port.sending) ∧
    (d = .restart → Touches [.port] s t) ∧
    (d = .erase → t.store = { status := .none, stored := none, failing := none } ∧
      t.faults =
        { pending := s.faults.pending, holding := s.faults.holding &&& ~~~ causeBit .configInvalid
          relay := s.faults.pending != 0 } ∧
      Touches [.port, .store, .faults] s t)

/-- The position an operation leaves (R121). -/
def startPosition : Direction → Position
  | .toOpen => .closed
  | .toClose => .opened

/-- Checks 2 to 7 of R124: the disposition of the first that fails (R126 takes these alone). -/
def LocalRefused (s : State) (requester : Nat) (tag : Byte) (k : Nat) (dir : Direction) : Disposition → Prop
  | .noObject => objectCount s < k
  | .faulty => k ≤ objectCount s ∧ positionOf s k = .faulty
  | .moving => k ≤ objectCount s ∧ (positionOf s k = .moving ∨ positionOf s k = .unknown)
  | .already => k ≤ objectCount s ∧ positionOf s k = targetPosition dir
  | .duplicateTag => k ≤ objectCount s ∧ positionOf s k = startPosition dir ∧ s.req.queue.any (isNamed requester tag) = true
  | .queueFull =>
    k ≤ objectCount s ∧ positionOf s k = startPosition dir ∧ s.req.queue.any (isNamed requester tag) = false ∧
      fieldOf s (·.depth) ≤ s.req.queue.length
  | .queued => False
  | .selector => False
  | .cancelTaken => False
  | .tooLate => False
  | .notFound => False

/-- Checks 1 to 7 of R124: the disposition of the first that fails. -/
def RequestRefused (s : State) (requester : Nat) (tag : Byte) (k : Nat) (dir : Direction) (d : Disposition) : Prop :=
  if d = .selector then selectorOf s ≠ .remoteMode
  else selectorOf s = .remoteMode ∧ LocalRefused s requester tag k dir d

/-- The state of a station's entry; `none` is ABSENT. -/
def entryState (s : State) (station : Nat) : Option EntryState := (entryOf s station).map (·.state)

/-- The entry state after a suspect report (R70): FRESH alone changes, to SUSPECT. -/
def suspected : Option EntryState → Option EntryState
  | some .fresh => some .suspect
  | some .suspect => some .suspect
  | some .stale => some .stale
  | none => none

/-- The view change that a suspect report of a station raises (R70, R73): one when its entry was FRESH. -/
def suspectChange (s : State) (station : Nat) : List ViewReport :=
  if entryState s station = some .fresh then [{ station := station, state := some .suspect }] else []

/-- The own claim is HELD (`held`) or CLAIMING and its claim set shares a yard node with a set. -/
def ownOverlaps (s : State) (nodes : NodeSet) (held : Bool) : Bool :=
  match s.claims.own with
  | some own => own.held == held && nodesOverlap own.nodes nodes
  | none => false

/-- The own claim's rank is better than that of a station's claim (R98). -/
def ownRankBetter (s : State) (station : Nat) (c : ClaimPart) : Bool :=
  match s.claims.own with
  | some own =>
    rankBetter { cls := own.cls, deferCount := own.deferCount, address := ownAddress s }
      { cls := c.cls, deferCount := c.deferCount, address := station }
  | none => false

/-- The foreign claim list of `t` is that of `s` with a station's record replaced by one of a claim received now, and
nothing else of the Claim Manager has changed (R112 step one, R115). -/
def Recorded (s t : State) (station : Nat) (c : ClaimPart) (assented : Bool) : Prop :=
  tableGet t.claims.foreign station =
      some { id := c.id, nodes := c.nodes, cls := c.cls, deferCount := c.deferCount, holdLimit := c.holdLimit,
             recorded := s.now, held := c.held, assented := assented } ∧
    (∀ j, j ≠ station → tableGet t.claims.foreign j = tableGet s.claims.foreign j) ∧
    t.claims = { s.claims with foreign := t.claims.foreign }

/-- The own claim stands, HELD (`held`) or CLAIMING. -/
def ownHolds (s : State) (held : Bool) : Bool :=
  match s.claims.own with
  | some own => own.held == held
  | none => false

/-- The exchange is IDLE (R171). -/
def PortIdle (s : State) : Prop := s.port.outstanding = none

/-- The exchange is OUTSTANDING for a command and its response is known (R171, R180): its bytes, of start byte, code,
status, data length, data and check, are being sent unless the transmitter still sends an owed BUSY. -/
def PortAnswers (s t : State) (code status : Byte) (data : List Byte) : Prop :=
  t.port.outstanding = some code ∧ t.port.response = some { code := code, status := status, data := data } ∧
    t.port.owedBusy = s.port.owedBusy ∧ t.port.gathered = [] ∧ t.port.lastByte = none ∧
    (s.port.sending = none → s.port.owedBusy = none → t.port.sending = some
      { busy := false
        bytes := 0x7D :: code :: status :: (halfBytes data.length ++ data ++
          checkBytes (code :: status :: (halfBytes data.length ++ data))) }) ∧
    (s.port.sending ≠ none → t.port.sending = s.port.sending)

/-- A port command is answered and changes nothing but the exchange. -/
def Answered (s t : State) (code status : Byte) (data : List Byte) : Prop :=
  PortAnswers s t code status data ∧ Touches [.port] s t

/-- The command of a code, with the bytes that arrive (R170, R180). -/
def portInstr (code : Byte) (bytes : List Byte) : Instr :=
  if code = 0x01 then .readIdentity bytes
  else if code = 0x02 then .readConfig bytes
  else if code = 0x03 then .writeConfig bytes
  else if code = 0x04 then .eraseConfig bytes
  else if code = 0x05 then .readView bytes
  else if code = 0x06 then .readObject bytes
  else if code = 0x07 then .readClaims bytes
  else if code = 0x08 then .readCounters bytes
  else if code = 0x09 then .clearCounters bytes
  else if code = 0x0A then .restart bytes
  else .unknownCommand code bytes

/-- The bytes of a command frame up to its check (R180): start, code, argument length, arguments. -/
def uncheckedFrame (code : Byte) (args : List Byte) : List Byte := 0x7E :: code :: byteOf args.length :: args

/-- The check of a command frame, over code, length and arguments (R180). -/
def frameCheck (code : Byte) (args : List Byte) : List Byte := checkBytes (code :: byteOf args.length :: args)

/-- The bytes gathered that still count: none once more than 20 ms have passed since the last of them (R170). -/
def standingBytes (s : State) : List Byte :=
  match s.port.lastByte with
  | some t => if s.now ≤ t + 20 then s.port.gathered else []
  | none => s.port.gathered

/-- The bytes that arrive complete the command frame of a code and arguments, after those that stand gathered before them,
and after bytes of which none is a start byte (R170, R180). -/
def Arrives (s : State) (code : Byte) (args bytes : List Byte) : Prop :=
  args.length ≤ 125 ∧ ∃ skipped : List Byte, 0x7E ∉ skipped ∧
    standingBytes s ++ bytes = skipped ++ (uncheckedFrame code args ++ frameCheck code args)

/-- The arguments of a command that are wrong (R170, R172, R173, R180): a length that the code does not take, a station
outside 1 to 63, an index outside 1 to 8. -/
def argumentsWrong (code : Byte) (args : List Byte) : Prop :=
  if code = 0x03 then args.length ≠ 125
  else if code = 0x05 then args.length ≠ 1 ∨ natAt args 0 < 1 ∨ 63 < natAt args 0
  else if code = 0x06 then args.length ≠ 1 ∨ natAt args 0 < 1 ∨ 8 < natAt args 0
  else args ≠ []

/-- A departure has begun (R167): pending with its command, the queue empty, a CLAIMING claim dropped and counted, a FINAL
STATUS waiting, no response yet, and the store, the view entries and the drive as they were. The CLAIM of the claim dropped
leaves the normal queue, or is marked for removal while its attempt is on the line (R46, R109). -/
def DepartureBegun (d : Departure) (code : Byte) (s t : State) : Prop :=
  t.start = { s.start with departure := some d } ∧ t.req = { s.req with queue := [], deferTimer := none } ∧
    t.port = { s.port with outstanding := some code, gathered := [], lastByte := none } ∧ t.store = s.store ∧ t.drive = s.drive ∧
    t.view.entries = s.view.entries ∧ (t.link.normal.any fun i => isMarker i && i == markFinal i) = true ∧
    t.link.urgent = s.link.urgent ∧
    ((ownHolds s false = true → t.claims.own = none ∧ t.claims.window = none ∧
        t.counters = { s.counters with claimsWithdrawn := bump s.counters.claimsWithdrawn }) ∧
      (ownHolds s false = false → t.claims = s.claims ∧ t.counters = s.counters)) ∧
    claimsQueued t.link =
      (if ownHolds s false then (if claimOnLine s.link then (claimsQueued s.link).map markRemoved else [])
        else claimsQueued s.link) ∧
    Touches [.port, .start, .req, .link, .claims, .counters, .view] s t

/-! ### Partitions, verdicts and what a STATUS carries -/

/-- A chain of edges joins two points (R84). -/
inductive Chained (edges : List Edge) (p : Point) : Point → Prop where
  | here : Chained edges p p
  | forward (e : Edge) : e ∈ edges → Chained edges p e.a → Chained edges p e.b
  | backward (e : Edge) : e ∈ edges → Chained edges p e.b → Chained edges p e.a

/-- No edge touches a point. -/
def untouched (edges : List Edge) (p : Point) : Prop := ∀ e ∈ edges, e.a ≠ p ∧ e.b ≠ p

/-- The second terminal of an own object as a point; none for an ES (R81). -/
def secondPoint (s : State) (d : ObjDesc) : Option Point := pointOf (ownAddress s) d.term2

/-- What the verdict tests are taken on, for an own object with first terminal `a` (R87). -/
def factsFor (s : State) (k : Nat) (d : ObjDesc) (a : Point) : SideFacts := sideFacts s k a (secondPoint s d)

/-- A live side faces an earthed one (R89, R90). -/
def liveFacesEarth (f : SideFacts) : Bool := (f.liveA && f.earthedB) || (f.liveB && f.earthedA)

/-- The yard nodes that an evaluation reaches (R93). -/
def reachedNodes (s : State) (k : Nat) (d : ObjDesc) (a : Point) : NodeSet :=
  yardNodesOf (reachOf (edgesFor s k) a (secondPoint s d))

/-- The missing-station test refuses (R88). -/
def missingRefuses (s : State) (k : Nat) (d : ObjDesc) (a : Point) : Bool :=
  someMissing s && reachedNodes s k d a != 0

/-- The bypass admits a refused evaluation of a source (R92). -/
def bypassAdmits (s : State) (source : Source) : Bool := source == .localPanel && bypassHolds s

/-- An evaluation is PERMITTED on a basis, with the yard nodes reached as its claim set (R93, R94). -/
def PermittedOn (s : State) (k : Nat) (d : ObjDesc) (a : Point) (dir : Direction) (source : Source) (b : Basis) : Prop :=
  evaluate s k dir source = { verdict := .permitted, basis := b, reason := .none, nodes := some (reachedNodes s k d a) }

/-- An evaluation is REFUSED for a reason, without a claim set, or PERMITTED_BYPASS with that reason and the claim set of
the yard nodes reached (R92 to R94). -/
def RefusedFor (s : State) (k : Nat) (d : ObjDesc) (a : Point) (dir : Direction) (source : Source) (r : Reason) : Prop :=
  evaluate s k dir source =
    if bypassAdmits s source then
      { verdict := .permittedBypass, basis := .bypass, reason := r, nodes := some (reachedNodes s k d a) }
    else { verdict := .refused, basis := .none, reason := r, nodes := none }

/-- An object that an evaluation of object `k` counts, its station and the position it is read at (R80, R83): each other
object of the own bay at its qualified position, and each object of an entry that is not ABSENT, at the position held, or
UNKNOWN in a STALE entry. -/
def CountedObject (s : State) (k station : Nat) (o : PubObject) (p : Position) : Prop :=
  (station = ownAddress s ∧ ∃ i, i ≠ k ∧ ∃ d, objDesc s i = some d ∧
    o = { kind := d.kind, term1 := d.term1, term2 := d.term2, position := positionOf s i } ∧ p = positionOf s i) ∨
    ∃ e, (station, e) ∈ s.view.entries ∧ o ∈ e.content.objects ∧ p = if e.state = .stale then .unknown else o.position

/-- A point that carries a counted sensor, and the indication it is read at (R85). -/
def CountedSensor (s : State) (q : Point) (i : Indication) : Prop :=
  (∃ j, ∃ d, sensorDesc s j = some d ∧ pointOf (ownAddress s) d.node = some q ∧ i = (sensorIn s j).indication) ∨
    ∃ station e, (station, e) ∈ s.view.entries ∧ ∃ x ∈ e.content.sensors, pointOf station x.node = some q ∧
      i = if e.state = .stale then .unknown else x.indication

/-- The edge of a counted DS or CB between its terminals (R83): FIRM at CLOSED, none at OPEN, and LOOSE else. -/
def EdgeOf (s : State) (k : Nat) (e : Edge) : Prop :=
  ∃ station o p, CountedObject s k station o p ∧ o.kind ≠ .es ∧ p ≠ .opened ∧
    pointOf station o.term1 = some e.a ∧ pointOf station o.term2 = some e.b ∧ (e.firm = true ↔ p = .closed)

/-- The loose component of a point is LIVE (R84, R85). -/
def LiveAt (s : State) (k : Nat) (p : Point) : Prop :=
  ∃ q i, Chained (edgesFor s k) p q ∧ CountedSensor s q i ∧ i ≠ .absent

/-- The loose component of a point is EARTHED (R84, R86). -/
def EarthedAt (s : State) (k : Nat) (p : Point) : Prop :=
  ∃ station o position q, CountedObject s k station o position ∧ o.kind = .es ∧ position ≠ .opened ∧
    pointOf station o.term1 = some q ∧ Chained (edgesFor s k) p q

/-- A point that a published object or sensor can name (R178). -/
def publishedPoint : Terminal → Bool
  | .yard n => decide (1 ≤ n) && decide (n ≤ 127)
  | .localNode k => decide (1 ≤ k) && decide (k ≤ 4)
  | .earth => false

/-- Terminal 2 of a published object: E for an ES, else a point (R4, R178). -/
def publishedSecond (kind : Kind) (t : Terminal) : Bool := if kind = .es then t == .earth else publishedPoint t

/-- Content that a node in ANNOUNCE or READY publishes, in the ranges of R4, R5 and R8. -/
def Publishable (c : Content) : Prop :=
  (c.phase = .announce ∨ c.phase = .ready) ∧ 100 ≤ c.heartbeat ∧ c.heartbeat ≤ 2000 ∧ c.heartbeat % 50 = 0 ∧
    c.objects.length ≤ 8 ∧ c.sensors.length ≤ 3 ∧
    (c.objects.all fun o => publishedPoint o.term1 && publishedSecond o.kind o.term2) = true ∧
    (c.sensors.all fun p => publishedPoint p.node) = true

/-- A value lies in a range and is a whole multiple of a step (R8). -/
def InRange (v lo hi step : Nat) : Prop := lo ≤ v ∧ v ≤ hi ∧ ∃ m, v = m * step

/-- The byte of a point that a frame names: a yard node, or a local node of the source (R66, R178). -/
def PointByte (n : Nat) : Prop := (1 ≤ n ∧ n ≤ 127) ∨ (129 ≤ n ∧ n ≤ 132)

/-- Checks 7 and 8 of R66 on the object record of index `k` that begins at an offset. -/
def ObjectRecordOk (body : List Byte) (k i : Nat) : Prop :=
  natAt body i / 16 = k ∧ 1 ≤ natAt body i % 16 ∧ natAt body i % 16 ≤ 3 ∧ PointByte (natAt body (i + 1)) ∧
    (if natAt body i % 16 = 3 then natAt body (i + 2) = 0xFF else PointByte (natAt body (i + 2))) ∧
    1 ≤ natAt body (i + 3) ∧ natAt body (i + 3) ≤ 5

/-- Check 9 of R66 on the sensor record that begins at an offset. -/
def SensorRecordOk (body : List Byte) (i : Nat) : Prop :=
  PointByte (natAt body i) ∧ 1 ≤ natAt body (i + 1) ∧ natAt body (i + 1) ≤ 3

/-- The nine checks of R66 on a STATUS body with `n` object records and `m` sensor records, at the places of R178. -/
def StatusOk (body : List Byte) (n m : Nat) : Prop :=
  (natAt body 0 = 3 ∨ natAt body 0 = 4) ∧ InRange (natAt body 2) 10 200 5 ∧
    (1 ≤ natAt body 4 % 8 ∧ natAt body 4 % 8 ≤ 4) ∧ (natAt body 1 % 4 ≤ 2 ∧ natAt body 1 / 4 % 4 ≤ 2) ∧
    natAt body 5 < 32 ∧ (natAt body 6 = 0 ∨ (natAt body 6 ≤ 4 ∧ natAt body 7 ≤ 0x19)) ∧ n ≤ 8 ∧
    (∀ k, k < n → ObjectRecordOk body (k + 1) (9 + 4 * k)) ∧ m ≤ 3 ∧
    ∀ k, k < m → SensorRecordOk body (10 + 4 * n + 2 * k)

/-- Class, defer count and hold limit of a claim from an offset on, in the ranges of R97. -/
def ClaimFieldsOk (body : List Byte) (i : Nat) : Prop :=
  natAt body i ≤ 1 ∧ natAt body (i + 1) ≤ 15 ∧ 207 ≤ halfAt body (i + 2) ∧ halfAt body (i + 2) ≤ 6800

/-- The body length that R177 gives each frame type but STATUS. -/
def fixedLength : FrameType → Option Nat
  | .status => none
  | .claim => some 22
  | .assent => some 1
  | .object => some 2
  | .release => some 4
  | .request => some 4
  | .check => some 3
  | .cancel => some 1
  | .accept => some 2
  | .result => some 8

/-- A claim in the ranges of R97; bit 0 of a claim set stands for no node (R177). -/
def ClaimInRange (c : ClaimPart) : Prop :=
  c.cls ≤ 1 ∧ c.deferCount ≤ 15 ∧ 207 ≤ c.holdLimit ∧ c.holdLimit ≤ 6800 ∧ nodesHave c.nodes 0 = false

/-! ### The configuration record -/

/-- The code of a yard node from 1 to 127, or of a local node from 1 to a count (R12, R178). -/
def PointCode (locals n : Nat) : Prop := (1 ≤ n ∧ n ≤ 127) ∨ (129 ≤ n ∧ n ≤ 128 + locals ∧ n ≤ 132)

/-- Step 5 of R12 for the object whose six bytes begin at an offset. -/
def ObjectOk (r : List Byte) (i : Nat) : Prop :=
  (natAt r i = 1 ∨ natAt r i = 2 ∨ natAt r i = 3) ∧ PointCode (natAt r 26) (natAt r (i + 1)) ∧
    (natAt r i = 3 → natAt r (i + 2) = 0xFF) ∧
    (natAt r i ≠ 3 → PointCode (natAt r 26) (natAt r (i + 2)) ∧ natAt r (i + 2) ≠ natAt r (i + 1)) ∧
    (if natAt r i = 1 then InRange (halfAt r (i + 3)) 20 1000 10 else InRange (halfAt r (i + 3)) 1000 30000 10) ∧
    natAt r (i + 5) < 8

/-- Step 6 of R12 for the sensor whose two bytes begin at an offset. -/
def SensorOk (r : List Byte) (i : Nat) : Prop := PointCode (natAt r 26) (natAt r i) ∧ natAt r (i + 1) ≤ 1

/-- Step 7 of R12 for the profile whose twenty bytes begin at an offset: each cell 0 to 250 or UNRATED, and the cell at
100 % and +20 °C rated. -/
def ProfileOk (r : List Byte) (i : Nat) : Prop :=
  (∀ j, j < 20 → natAt r (i + j) ≤ 250 ∨ natAt r (i + j) = 0xFF) ∧ natAt r (i + 14) ≠ 0xFF

/-- Station `n` is not a member of field 3 (R179). -/
def NotExpected (r : List Byte) (n : Nat) : Prop := (byteAt r (3 + n / 8)).getLsbD (n % 8) = false

/-- What R12 asks at a place of a record, with the layout of R179. -/
def PlaceOk (r : List Byte) : Place → Prop
  | ⟨18, _⟩ => checkBytes (slice r 0 123) = slice r 123 2
  | ⟨1, _⟩ => InRange (natAt r 0) 1 63 1
  | ⟨2, _⟩ => InRange (halfAt r 1) 100 2000 50
  | ⟨3, _⟩ => NotExpected r 0 ∧ (natAt r 0 ≤ 63 → NotExpected r (natAt r 0))
  | ⟨4, _⟩ => InRange (natAt r 11) 1 4 1
  | ⟨5, _⟩ => InRange (halfAt r 12) 50 500 10
  | ⟨6, _⟩ => InRange (halfAt r 14) 200 5000 100
  | ⟨7, _⟩ => natAt r 16 ≤ 15
  | ⟨8, _⟩ => InRange (natAt r 17) 10 200 5
  | ⟨9, _⟩ => InRange (halfAt r 18) 1000 20000 100
  | ⟨10, _⟩ => InRange (halfAt r 20) 50 1000 10
  | ⟨11, _⟩ => InRange (halfAt r 22) 40 300 10
  | ⟨12, _⟩ => InRange (natAt r 24) 24 250 1
  | ⟨13, _⟩ => natAt r 25 < 32
  | ⟨14, _⟩ => natAt r 26 ≤ 4
  | ⟨15, 0⟩ => InRange (natAt r 27) 1 8 1
  | ⟨15, k + 1⟩ => ObjectOk r (28 + 6 * k)
  | ⟨16, 0⟩ => natAt r 76 ≤ 3
  | ⟨16, k + 1⟩ => SensorOk r (77 + 2 * k)
  | ⟨17, 1⟩ => ProfileOk r 83
  | ⟨17, 2⟩ => ProfileOk r 103
  | _ => False

/-- The places of a record in the order in which R12 checks them. -/
def recordPlaces (r : List Byte) : List Place :=
  ⟨18, 0⟩ :: (List.range' 1 15).map (fun n => ⟨n, 0⟩) ++ (List.range' 1 (natAt r 27)).map (fun k => ⟨15, k⟩) ++
    ⟨16, 0⟩ :: (List.range' 1 (natAt r 76)).map (fun k => ⟨16, k⟩) ++ [⟨17, 1⟩, ⟨17, 2⟩]

/-- The polarity bits of an object (R179). -/
def polarityByte (d : ObjDesc) : Byte :=
  (if d.openInverted then 1 else 0) ||| (if d.closedInverted then 2 else 0) ||| (if d.readyInverted then 4 else 0)

/-- The six bytes of an object description (R179). -/
def describeObject (d : ObjDesc) : List Byte :=
  [kindCode d.kind, terminalCode d.term1, terminalCode d.term2] ++ halfBytes d.base ++ [polarityByte d]

/-- The two bytes of a sensor description (R179). -/
def describeSensor (d : SensorDesc) : List Byte := [terminalCode d.node, if d.inverted then 1 else 0]

/-- The byte of a profile cell: 0xFF for UNRATED (R179). -/
def cellByte : Option Nat → Byte
  | some n => byteOf n
  | none => 0xFF

/-- Bytes filled up with zeros to a length. -/
def filledTo (n : Nat) (bytes : List Byte) : List Byte := bytes ++ List.replicate (n - bytes.length) 0

/-- Fields 1 to 17 of a record (R179). -/
def recordFields (r : BayRecord) : List Byte :=
  [byteOf r.address] ++ halfBytes r.heartbeat ++ ((List.range 8).map fun i => r.expected.extractLsb' (8 * i) 8) ++
    [byteOf r.depth] ++ halfBytes r.claimWindow ++ halfBytes r.deferInterval ++
    [byteOf r.stallLimit, byteOf r.qualification] ++ halfBytes r.intermediate ++ halfBytes r.settle ++
    halfBytes r.coilPulse ++ [byteOf r.nominal, r.faultMask.setWidth 8, byteOf r.localNodes, byteOf r.objects.length] ++
    filledTo 48 (r.objects.flatMap describeObject) ++ [byteOf r.sensors.length] ++
    filledTo 6 (r.sensors.flatMap describeSensor) ++ r.motorProfile.map cellByte ++ r.coilProfile.map cellByte

/-- The 125 bytes of a record (R179). -/
def recordBytes (r : BayRecord) : List Byte := recordFields r ++ checkBytes (recordFields r)

/-- A terminal is a yard node, or a local node up to a count (R12). -/
def pointTerminal (locals : Nat) : Terminal → Bool
  | .yard n => decide (1 ≤ n ∧ n ≤ 127)
  | .localNode k => decide (1 ≤ k ∧ k ≤ locals)
  | .earth => false

/-- An object description that R4 and R12 admit. -/
def ObjectAdmitted (locals : Nat) (d : ObjDesc) : Prop :=
  pointTerminal locals d.term1 = true ∧ (d.kind = .es → d.term2 = .earth) ∧
    (d.kind ≠ .es → pointTerminal locals d.term2 = true ∧ d.term2 ≠ d.term1) ∧
    (if d.kind = .cb then InRange d.base 20 1000 10 else InRange d.base 1000 30000 10)

/-- A profile that R10 admits. -/
def ProfileAdmitted (p : Profile) : Prop :=
  p.length = 20 ∧ (∀ n, some n ∈ p → n ≤ 250) ∧ p.getD 14 none ≠ none

/-- A record that R8 to R10 admit. -/
def RecordAdmitted (r : BayRecord) : Prop :=
  InRange r.address 1 63 1 ∧ InRange r.heartbeat 100 2000 50 ∧ r.expected.getLsbD 0 = false ∧
    r.expected.getLsbD r.address = false ∧ InRange r.depth 1 4 1 ∧ InRange r.claimWindow 50 500 10 ∧
    InRange r.deferInterval 200 5000 100 ∧ r.stallLimit ≤ 15 ∧ InRange r.qualification 10 200 5 ∧
    InRange r.intermediate 1000 20000 100 ∧ InRange r.settle 50 1000 10 ∧ InRange r.coilPulse 40 300 10 ∧
    InRange r.nominal 24 250 1 ∧ r.localNodes ≤ 4 ∧ InRange r.objects.length 1 8 1 ∧
    (∀ d ∈ r.objects, ObjectAdmitted r.localNodes d) ∧ r.sensors.length ≤ 3 ∧
    (∀ d ∈ r.sensors, pointTerminal r.localNodes d.node = true) ∧ ProfileAdmitted r.motorProfile ∧
    ProfileAdmitted r.coilProfile

/-! ### Timers that follow states -/

/-- R101, R102, R132: the answer table is empty and the window stopped unless the own claim is CLAIMING, and the defer
timer runs exactly while the head is DEFERRED. -/
def TimersFollowStates (s : State) : Prop :=
  (ownHolds s false = false → s.claims.answers = [] ∧ s.claims.window = none) ∧
    (s.req.deferTimer.isSome = true ↔ ∃ op, headOp s = some op ∧ op.state = .deferred)

end Sys2Proof.Machine
end

