-- ==== Sys2Proof/Certificates/Slice0/Obligations.lean ====
section
/-! DEFINITION. The statements for the provers. Each formalises rules of the spec; the log entries that a statement rests
on are named in its docstring. -/

open Sys2Proof Sys2Proof.Machine


/-! ### The queue of commands -/

/-- O1. A step takes the command at the front of the queue and runs it on the state with the queue's rest. The queue
of waiting commands and the step over it are the model's choice (log 7), not the spec's. -/
def Obligations.FrontCommandRuns : Prop :=
  ∀ (c : Instr) (rest : List Instr) (s : State),
    s.pending = c :: rest → Sys2Proof.Machine.step s = Sys2Proof.Machine.exec c (s.withPending rest)

/-- O2. On an empty queue a millisecond passes and nothing else changes. The model's choice: log 1. -/
def Obligations.IdleStepPassesAMillisecond : Prop :=
  ∀ s : State, s.pending = [] →
    ∃ t, Sys2Proof.Machine.step s = .next t ∧ t.now = s.now + 1 ∧ Touches [.now] s t

/-- O3. Every command answers a next state in every state, changes only the parts of the state that the table
`mayChange` names for it, and leaves the queue of waiting commands as it is. That an erase leaves no record in
force, for eraseConfig, frameSent, collision and headerReceived, is the model's reading of R6 (log 8); that it and a
write end CONFIG_INVALID is log 28. -/
def Obligations.CommandsKeepTheirFrames : Prop :=
  ∀ (c : Instr) (s : State),
    ∃ t, Sys2Proof.Machine.exec c s = .next t ∧ Touches (mayChange c) s t ∧ t.pending = s.pending

/-! ### Resets and start-up (01, 09) -/

/-- O4. The state after reset: a factory-fresh part, status NONE, in SELF_TEST after POWER_ON, every counter 0, no
output energized, the relay de-energized, no frame, claim or operation, and every qualified state UNKNOWN. The
contact pins and the values behind a measurement in FAULT are the model's choice (log 3, log 4), and nothing is said
of them here. -/
def Obligations.ResetStateIsFactoryFresh : Prop :=
  State.reset.store.status = .none ∧ State.reset.store.stored = none ∧ State.reset.store.failing = none ∧
    State.reset.copy = none ∧ State.reset.start.phase = .selfTest ∧ State.reset.start.cause = .powerOn ∧
    State.reset.counters = Counters.zero ∧ State.reset.drive.openOutputs = 0 ∧ State.reset.drive.closeOutputs = 0 ∧
    State.reset.drive.record = none ∧ State.reset.faults.pending = 0 ∧ State.reset.faults.holding = 0 ∧
    State.reset.faults.relay = false ∧ State.reset.claims.own = none ∧ State.reset.claims.foreign = [] ∧
    State.reset.req.queue = [] ∧ State.reset.view.entries = [] ∧ State.reset.view.counter = 0 ∧
    State.reset.link.urgent = [] ∧ State.reset.link.normal = [] ∧ State.reset.link.inbound = [] ∧
    State.reset.port.outstanding = none ∧ State.reset.supply.valid = false ∧ State.reset.temperature.valid = false ∧
    (∀ k, positionOf State.reset k = .unknown ∧ (objIn State.reset k).ready = .unknown) ∧
    (∀ k, (sensorIn State.reset k).indication = .unknown) ∧
    (∀ i, (singleOf State.reset i).qualified = none) ∧ State.reset.pending = []

/-- O5. What each reset does, whatever the state before it: SELF_TEST with the reset's cause, every block at its
reset values, the store kept, the contact pins kept, and the counters 0 for POWER_ON alone. -/
def Obligations.ResetsClearEveryBlock : Prop :=
  ∀ (s : State) (c : Instr) (cause : ResetCause),
    (c, cause) ∈ [(Instr.powerOn, ResetCause.powerOn), (.supplyDip, .supplyDip), (.resetLine, .resetLine)] →
    ∃ t, Sys2Proof.Machine.exec c s = .next t ∧
      t.start = { phase := .selfTest, cause := cause, listen := none, announce := none, departure := none } ∧
      t.now = s.now ∧ t.store = s.store ∧ t.copy = none ∧
      t.counters = (if cause = .powerOn then Counters.zero else s.counters) ∧
      t.faults = { pending := 0, holding := 0, relay := false } ∧
      t.drive = { record := none, openOutputs := 0, closeOutputs := 0 } ∧
      (t.claims.own = none ∧ t.claims.answers = [] ∧ t.claims.window = none ∧ t.claims.nextId = 0 ∧
        t.claims.foreign = [] ∧ t.claims.lastObjection = none ∧ t.claims.lastEnding = none) ∧
      t.req = { queue := [], deferTimer := none, lastLocal := none } ∧
      t.view = { entries := [], counter := 0, joining := false, heartbeat := none, silence := none } ∧
      (t.link.urgent = [] ∧ t.link.normal = [] ∧ t.link.inbound = [] ∧ t.link.current = none ∧
        t.link.attempt = none ∧ t.link.header = none ∧ t.link.ignoring = false ∧ t.link.halted = false) ∧
      (t.port.outstanding = none ∧ t.port.response = none ∧ t.port.owedBusy = none ∧ t.port.sending = none ∧
        t.port.gathered = [] ∧ t.port.lastByte = none) ∧
      (t.supply.valid = false ∧ t.supply.since = s.now ∧ t.temperature.valid = false ∧ t.temperature.since = s.now) ∧
      (∀ k, (objIn t k).qualified = none ∧ (objIn t k).position = .unknown ∧ (objIn t k).ready = .unknown ∧
        (objIn t k).commanded = false ∧ (objIn t k).intermediate = none ∧
        (objIn t k).openContact = (objIn s k).openContact ∧ (objIn t k).closedContact = (objIn s k).closedContact ∧
        (objIn t k).readyContact = (objIn s k).readyContact) ∧
      (∀ k, (sensorIn t k).qualified = none ∧ (sensorIn t k).indication = .unknown ∧
        (sensorIn t k).presenceContact = (sensorIn s k).presenceContact ∧
        (sensorIn t k).healthyContact = (sensorIn s k).healthyContact) ∧
      (∀ i, (singleOf t i).qualified = none ∧ (singleOf t i).contact = (singleOf s i).contact) ∧
      (t.handover.positions = [] ∧ t.handover.selectors = [] ∧ t.handover.locals = [] ∧ t.handover.views = []) ∧
      t.pending = s.pending

/-- O6. The end of the self-test, in its three cases: no record (UNCONFIGURED, nothing else), a record that fails
(REJECTED with its place, UNCONFIGURED, CONFIG_INVALID pending and holding, the relay energized), and a record that
passes (IN_FORCE, LISTEN, the listen timer running from its full length, the record's values in force). The check of
a record: it passes when every place passes what R12 asks there, and else reports the first place that does not; and
a record of admitted values, laid out as R179 gives it, passes and supplies those values. At the entry to LISTEN the
persistence of every object and sensor starts from that moment, their contacts and qualified states as they were.
That bit 0 of field 3 is checked with that field is the model's reading (log 18). -/
def Obligations.SelfTestEndJudgesTheStore : Prop :=
  (∀ s : State, s.start.phase = .selfTest → s.faults = Faults.clear → s.copy = none →
    (s.store.status = .none →
      ∃ t, Sys2Proof.Machine.exec .selfTestEnd s = .next t ∧ t.start = { s.start with phase := .unconfigured } ∧
        Touches [.start] s t) ∧
    (s.store.status ≠ .none → ∀ bytes, s.store.stored = some bytes → ∀ p, checkRecord bytes = some p →
      ∃ t, Sys2Proof.Machine.exec .selfTestEnd s = .next t ∧ t.start = { s.start with phase := .unconfigured } ∧
        t.store = { status := .rejected, stored := some bytes, failing := some p } ∧ t.copy = none ∧
        t.faults = { pending := causeBit .configInvalid, holding := causeBit .configInvalid, relay := true } ∧
        Touches [.start, .store, .faults] s t) ∧
    (s.store.status ≠ .none → ∀ bytes, s.store.stored = some bytes → checkRecord bytes = none →
      ∃ t, Sys2Proof.Machine.exec .selfTestEnd s = .next t ∧
        t.start = { s.start with phase := .listen, listen := some (s.now + 6000) } ∧
        t.store = { status := .inForce, stored := some bytes, failing := none } ∧
        t.copy = some (parseRecord bytes) ∧ t.view.joining = false ∧ t.req.lastLocal = none ∧
        t.req.queue = s.req.queue ∧ t.faults.relay = false ∧ t.counters = s.counters ∧ t.drive = s.drive ∧
        t.claims = s.claims ∧ t.port = s.port ∧ t.now = s.now ∧
        (∀ k, (objIn t k).position = (objIn s k).position ∧ (objIn t k).qualified = (objIn s k).qualified) ∧
        (∀ k, (tableGet s.objects k).isSome = true →
          objIn t k = { objIn s k with since := s.now, readySince := s.now }) ∧
        ∀ k, (tableGet s.sensors k).isSome = true → sensorIn t k = { sensorIn s k with since := s.now })) ∧
  (∀ r : List Byte, r.length = 125 →
    (checkRecord r = none ↔ ∀ p ∈ recordPlaces r, PlaceOk r p) ∧
    ∀ p, checkRecord r = some p ↔
      ∃ before after, recordPlaces r = before ++ p :: after ∧ (∀ q ∈ before, PlaceOk r q) ∧ ¬ PlaceOk r p) ∧
  ∀ r : BayRecord, RecordAdmitted r →
    (recordBytes r).length = 125 ∧ checkRecord (recordBytes r) = none ∧ parseRecord (recordBytes r) = r

/-- O7. The listen timer ends the listen window: ANNOUNCE, JOINING set, one own-content event, and the announce
timer of 20 ms for each unit of the station address. The announce timer then asks for the announcing STATUS. The
clock at a deadline is the model's choice (log 1). -/
def Obligations.ListenAndAnnounceTimersLeadToTheStatus : Prop :=
  (∀ s : State, s.start.phase = .listen → ∀ d, s.start.listen = some d → ∀ r, s.copy = some r →
    ∃ t, Sys2Proof.Machine.exec .listenExpiry s = .next t ∧ t.now = max s.now d ∧
      t.start = { s.start with phase := .announce, listen := none, announce := some (max s.now d + r.address * 20) } ∧
      t.view = { s.view with joining := true, counter := s.view.counter + 1 } ∧ t.link = s.link ∧
      Touches [.now, .start, .view] s t) ∧
  (∀ s : State, s.start.phase = .announce → ∀ d, s.start.announce = some d → s.link.normal.any isMarker = false →
    ∃ t, Sys2Proof.Machine.exec .announceExpiry s = .next t ∧ t.now = max s.now d ∧
      t.start = { s.start with announce := none } ∧
      t.link.normal = s.link.normal ++ [.marker false false 0] ∧ t.link.urgent = s.link.urgent ∧
      t.link.inbound = s.link.inbound ∧ Touches [.now, .start, .link] s t)


/-! ### Field inputs (02) -/

/-- O8. A change of an object's, sensor's or single input's contacts: the pins take their new state, the persistence
restarts exactly when the raw state has changed, and no qualified state and no other input changes. The moments are
those of the model's clock (log 1). -/
def Obligations.ContactChangesRestartPersistence : Prop :=
  (∀ (s : State) (k : Nat) (o c : Bool), slotOk k = true →
    ∃ t, Sys2Proof.Machine.exec (.rawCombinationChange k o c) s = .next t ∧
      objIn t k = { objIn s k with
        openContact := o, closedContact := c
        since := if o = (objIn s k).openContact ∧ c = (objIn s k).closedContact then (objIn s k).since else s.now } ∧
      (∀ j, j ≠ k → objIn t j = objIn s j) ∧ Touches [.objects] s t) ∧
  (∀ (s : State) (k : Nat) (b : Bool), slotOk k = true →
    ∃ t, Sys2Proof.Machine.exec (.readyInputChange k b) s = .next t ∧
      objIn t k = { objIn s k with
        readyContact := b, readySince := if b = (objIn s k).readyContact then (objIn s k).readySince else s.now } ∧
      (∀ j, j ≠ k → objIn t j = objIn s j) ∧ Touches [.objects] s t) ∧
  (∀ (s : State) (k : Nat) (p h : Bool), sensorOk k = true →
    ∃ t, Sys2Proof.Machine.exec (.sensorInputChange k p h) s = .next t ∧
      sensorIn t k = { sensorIn s k with
        presenceContact := p, healthyContact := h
        since := if p = (sensorIn s k).presenceContact ∧ h = (sensorIn s k).healthyContact then (sensorIn s k).since
          else s.now } ∧
      (∀ j, j ≠ k → sensorIn t j = sensorIn s j) ∧ Touches [.sensors] s t) ∧
  (∀ (s : State) (i : SingleInput) (b : Bool), singleInputOk i = true →
    ∃ t, Sys2Proof.Machine.exec (.singleInputChange i b) s = .next t ∧
      singleOf t i = { singleOf s i with
        contact := b, since := if b = (singleOf s i).contact then (singleOf s i).since else s.now } ∧
      (∀ j, j ≠ i → singleOf t j = singleOf s j) ∧ Touches [.singles] s t)

/-- O9. The qualification event of an object under no command: the position by the table of R20, the intermediate
timer running from its full length exactly while the position is MOVING, and the hand-overs of a changed position:
to the Request Controller, to the Claim Manager, and to the fault logic, whose condition OBJECT_FAULTY holds exactly
while some configured object is FAULTY. The clock at the qualification is the model's choice (log 1). -/
def Obligations.UncommandedQualificationSetsThePosition : Prop :=
  ∀ (s : State) (k : Nat) (d : ObjDesc), objDesc s k = some d → (objIn s k).commanded = false →
    (objIn s k).qualified ≠ some (rawComb d (objIn s k)) →
    ∃ t, Sys2Proof.Machine.exec (.qualificationEvent k) s = .next t ∧
      t.now = max s.now ((objIn s k).since + qualificationTime s) ∧
      PositionTable (rawComb d (objIn s k)) (positionOf s k) (positionOf t k) ∧
      objIn t k = { objIn s k with
        qualified := some (rawComb d (objIn s k)), position := positionOf t k
        intermediate := if positionOf t k = .moving then some (t.now + fieldOf s (·.intermediate)) else none } ∧
      (∀ j, j ≠ k → objIn t j = objIn s j) ∧ FlagsStay s t ∧
      (positionOf t k = positionOf s k → Touches [.now, .objects] s t) ∧
      (positionOf t k ≠ positionOf s k →
        t.handover.positions = s.handover.positions ++ [k] ∧
        t.handover.views = s.handover.views ++ [{ station := ownAddress s, state := none }] ∧
        t.view.counter = s.view.counter + 1 + (if t.faults.pending = s.faults.pending then 0 else 1) ∧
        causeIn t.faults.holding .objectFaulty = someFaulty t ∧
        (someFaulty t = true → causeIn s.faults.holding .objectFaulty = false →
          causeIn t.faults.pending .objectFaulty = true)) ∧
      Touches [.now, .objects, .view, .link, .handover, .faults] s t

/-- O10. A FAULTY object leaves FAULTY at the qualification event of 10 or 01 alone, whether it is commanded or not;
00 and 11 keep it FAULTY; and the event clears no pending flag. -/
def Obligations.FaultyLeavesOnlyAtAnEnd : Prop :=
  ∀ (s : State) (k : Nat) (d : ObjDesc), objDesc s k = some d → positionOf s k = .faulty →
    (objIn s k).qualified ≠ some (rawComb d (objIn s k)) →
    ∃ t, Sys2Proof.Machine.exec (.qualificationEvent k) s = .next t ∧ FlagsStay s t ∧
      (rawComb d (objIn s k) = .c10 → positionOf t k = .opened) ∧
      (rawComb d (objIn s k) = .c01 → positionOf t k = .closed) ∧
      (rawComb d (objIn s k) = .c00 → positionOf t k = .faulty) ∧
      (rawComb d (objIn s k) = .c11 → positionOf t k = .faulty)

/-- O11. A pending flag leaves the pending set at a fault-reset edge or a reset alone: at a qualification of the
fault-reset push, at the entry to LISTEN (where the push may qualify), or at a command that can reset the node. -/
def Obligations.FlagsClearOnlyByEdgeOrReset : Prop :=
  ∀ (c : Instr) (s t : State), Sys2Proof.Machine.exec c s = .next t →
    c ≠ .singleInputQualification .faultReset → c ≠ .selfTestEnd → ¬ mayReset c → FlagsStay s t

/-- O12. An object's position changes at its own qualification event, at its own intermediate limit, or at a reset. -/
def Obligations.PositionsChangeOnlyByTheirOwnEvents : Prop :=
  ∀ (c : Instr) (s t : State), Sys2Proof.Machine.exec c s = .next t → ∀ k, positionOf t k ≠ positionOf s k →
    c = .qualificationEvent k ∨ c = .intermediateLimitExpiry k ∨ mayReset c

/-- O13. Every step keeps positions in agreement with qualified combinations. -/
def Obligations.StepsKeepPositionsFollowingCombinations : Prop :=
  ∀ s t : State, PositionsFollowCombinations s → Sys2Proof.Machine.step s = .next t → PositionsFollowCombinations t

/-- O14. The intermediate limit of an uncommanded MOVING object: FAULTY, the qualified combination kept, the
condition OBJECT_FAULTY begun, its flag pending, and the change handed over. The clock at the deadline is the
model's choice (log 1). -/
def Obligations.IntermediateLimitMakesFaulty : Prop :=
  ∀ (s : State) (k e : Nat), (objIn s k).intermediate = some e → positionOf s k = .moving →
    (objIn s k).commanded = false → 1 ≤ k → k ≤ objectCount s → causeIn s.faults.holding .objectFaulty = false →
    ∃ t, Sys2Proof.Machine.exec (.intermediateLimitExpiry k) s = .next t ∧ t.now = max s.now e ∧
      objIn t k = { objIn s k with position := .faulty, intermediate := none } ∧
      (∀ j, j ≠ k → objIn t j = objIn s j) ∧
      causeIn t.faults.holding .objectFaulty = true ∧ causeIn t.faults.pending .objectFaulty = true ∧ FlagsStay s t ∧
      t.handover.positions = s.handover.positions ++ [k] ∧
      t.handover.views = s.handover.views ++ [{ station := ownAddress s, state := none }] ∧
      t.handover.selectors = s.handover.selectors ∧ t.handover.locals = s.handover.locals ∧
      Touches [.now, .objects, .view, .link, .handover, .faults] s t

/-- O15. The qualification of a mechanism-ready input and of a sensor: the ready state follows the raw one and is
handed to no block; the indication follows the pair by its table, and a changed one is one own-content event and one
view change naming the own station. The clock at a qualification is the model's choice (log 1). -/
def Obligations.ReadyAndSensorQualification : Prop :=
  (∀ (s : State) (k : Nat) (d : ObjDesc), objDesc s k = some d → (objIn s k).ready ≠ rawReady d (objIn s k) →
    ∃ t, Sys2Proof.Machine.exec (.readyQualification k) s = .next t ∧
      t.now = max s.now ((objIn s k).readySince + qualificationTime s) ∧
      objIn t k = { objIn s k with
        ready := if Bool.xor d.readyInverted (objIn s k).readyContact then .ready else .notReady } ∧
      (∀ j, j ≠ k → objIn t j = objIn s j) ∧ Touches [.now, .objects] s t) ∧
  (∀ (s : State) (k : Nat) (d : SensorDesc), sensorDesc s k = some d →
    (sensorIn s k).qualified ≠ some (rawPair d (sensorIn s k)) →
    ∃ t, Sys2Proof.Machine.exec (.sensorQualification k) s = .next t ∧
      t.now = max s.now ((sensorIn s k).since + qualificationTime s) ∧
      sensorIn t k = { sensorIn s k with
        qualified := some (rawPair d (sensorIn s k))
        indication :=
          if (sensorIn s k).healthyContact = false then .unknown
          else if Bool.xor d.inverted (sensorIn s k).presenceContact then .present else .absent } ∧
      (∀ j, j ≠ k → sensorIn t j = sensorIn s j) ∧
      ((sensorIn t k).indication = (sensorIn s k).indication → Touches [.now, .sensors] s t) ∧
      ((sensorIn t k).indication ≠ (sensorIn s k).indication →
        t.view.counter = s.view.counter + 1 ∧
        t.handover.views = s.handover.views ++ [{ station := ownAddress s, state := none }] ∧
        t.handover.positions = s.handover.positions ∧ t.handover.selectors = s.handover.selectors ∧
        t.handover.locals = s.handover.locals) ∧
      Touches [.now, .sensors, .view, .link, .handover] s t)

/-- O16. The qualification of a single input, in its five kinds: the input alone takes its contact's state; a
changed selector is handed to the Request Controller, and it and a changed bypass key are each one own-content
event; a rising edge of the fault-reset push leaves exactly the flags whose condition holds, TRAVEL_FAIL cleared
with its bit of holding clear; a rising edge of a local push is a local request in READY with the selector LOCAL,
and else nothing; the synchro-check permit and the bypass key are handed to neither. The clock at a qualification is
the model's choice (log 1). -/
def Obligations.SingleInputQualification : Prop :=
  ∀ (s : State) (i : SingleInput), singleInputOk i = true → (singleOf s i).qualified ≠ some (singleOf s i).contact →
    ∃ t, Sys2Proof.Machine.exec (.singleInputQualification i) s = .next t ∧
      t.now = max s.now ((singleOf s i).since + qualificationTime s) ∧
      singleOf t i = { singleOf s i with qualified := some (singleOf s i).contact } ∧
      (∀ j, j ≠ i → singleOf t j = singleOf s j) ∧
      (i = .selector → t.handover = { s.handover with selectors := s.handover.selectors ++ [selectorOf t] } ∧
        selectorOf t = (if (singleOf s i).contact then .remoteMode else .localMode) ∧ t.faults = s.faults ∧
        OwnEvents s t 1) ∧
      (i = .bypassKey → bypassKeyOf t = (if (singleOf s i).contact then .on else .off) ∧ t.handover = s.handover ∧
        t.faults = s.faults ∧ OwnEvents s t 1) ∧
      (i = .synchroPermit → Touches [.now, .singles] s t) ∧
      (i = .faultReset → t.handover = s.handover ∧ t.faults.holding = s.faults.holding ∧
        t.faults.pending =
          (if (singleOf s i).qualified = some false ∧ (singleOf s i).contact = true
            then s.faults.pending &&& s.faults.holding else s.faults.pending) ∧
        ((singleOf s i).qualified = some false → (singleOf s i).contact = true → NoTravelCondition s →
          causeIn t.faults.pending .travelFail = false) ∧
        OwnEvents s t (if t.faults.pending = s.faults.pending then 0 else 1)) ∧
      (∀ k dir, i = .localPush k dir → Touches [.now, .singles, .handover] s t ∧
        t.handover = (if (singleOf s i).qualified = some false ∧ (singleOf s i).contact = true ∧ inService s = true ∧
            selectorOf s = .localMode
          then { s.handover with locals := s.handover.locals ++ [(k, dir)] } else s.handover)) ∧
      t.link.urgent = s.link.urgent ∧ claimsQueued t.link = claimsQueued s.link ∧
      Touches [.now, .singles, .view, .link, .handover, .faults] s t

/-- O17. A reading of a measurement, and the change of its state: an in-range reading gives the value, the exact
multiple of the unit or one of its two neighbours (which one is free, log 5); any other reading leaves it; the
persistence restarts when the readings go out of range or come back; and the state follows readings that have stood.
The clock at a qualification is the model's choice (log 1). -/
def Obligations.MeasurementsFollowTheirReadings : Prop :=
  (∀ (s : State) (w : Measure) (m : Int), (rangeMilli w).1 ≤ m → m ≤ (rangeMilli w).2 →
    ∃ t, Sys2Proof.Machine.exec (.measurementReading w (.value m)) s = .next t ∧
      ((measureOf t w).value * unitMilli w - unitMilli w < m ∧ m < (measureOf t w).value * unitMilli w + unitMilli w) ∧
      (measureOf t w).inRange = true ∧ (measureOf t w).valid = (measureOf s w).valid ∧
      (measureOf t w).since = (if (measureOf s w).inRange then (measureOf s w).since else s.now) ∧
      Touches [measurePart w] s t) ∧
  (∀ (s : State) (w : Measure) (r : Reading),
    (r = .inputOpen ∨ ∃ m, r = .value m ∧ (m < (rangeMilli w).1 ∨ (rangeMilli w).2 < m)) →
    ∃ t, Sys2Proof.Machine.exec (.measurementReading w r) s = .next t ∧
      (measureOf t w).value = (measureOf s w).value ∧ (measureOf t w).inRange = false ∧
      (measureOf t w).valid = (measureOf s w).valid ∧
      (measureOf t w).since = (if (measureOf s w).inRange then s.now else (measureOf s w).since) ∧
      Touches [measurePart w] s t) ∧
  (∀ (s : State) (w : Measure), (measureOf s w).inRange ≠ (measureOf s w).valid →
    ∃ t, Sys2Proof.Machine.exec (.measurementStateChange w) s = .next t ∧
      measureOf t w = { measureOf s w with valid := (measureOf s w).inRange } ∧
      t.now = max s.now ((measureOf s w).since + qualificationTime s) ∧ Touches [.now, measurePart w] s t)

/-! ### Drives (08) -/

/-- O18. A qualification event of the commanded object while its drive is TRAVELLING: at 00 departure seen is set
and the departure timer stops, the output and the other timers standing; at the target combination the output goes
off, the timers stop, the settle timer starts, and the operation becomes SETTLING. Claim, queue and counters stand.
The clock at a qualification is the model's choice (log 1). -/
def Obligations.TravellingDriveDepartsAndArrives : Prop :=
  ∀ (s : State) (k : Nat) (d : ObjDesc), objDesc s k = some d → (objIn s k).commanded = true →
    (objIn s k).qualified ≠ some (rawComb d (objIn s k)) → ∀ r, s.drive.record = some r → r.object = k →
    r.settling = false → r.target = targetComb r.dir → r.start = startComb r.dir →
    (rawComb d (objIn s k) = .c00 →
      ∃ t, Sys2Proof.Machine.exec (.qualificationEvent k) s = .next t ∧
        t.drive = { s.drive with record := some { r with departed := true, departure := none } } ∧
        PositionTable .c00 (positionOf s k) (positionOf t k) ∧ (objIn t k).intermediate = none ∧
        (objIn t k).commanded = true ∧ t.req = s.req ∧ t.claims = s.claims ∧ t.counters = s.counters ∧ FlagsStay s t) ∧
    (rawComb d (objIn s k) = r.target → ∀ op, headOp s = some op →
      ∃ t, Sys2Proof.Machine.exec (.qualificationEvent k) s = .next t ∧
        t.drive.record = some { r with
          departed := true, energized := false, travel := none, departure := none, coilPulse := none, settling := true
          settle := some (t.now + fieldOf s (·.settle)) } ∧
        t.drive.openOutputs = (if r.dir = .toOpen then s.drive.openOutputs &&& ~~~ outputBit k else s.drive.openOutputs) ∧
        t.drive.closeOutputs =
          (if r.dir = .toClose then s.drive.closeOutputs &&& ~~~ outputBit k else s.drive.closeOutputs) ∧
        positionOf t k = targetPosition r.dir ∧ (objIn t k).commanded = true ∧
        headOp t = some { op with state := .settling } ∧ t.req.queue.tail = s.req.queue.tail ∧
        t.claims = s.claims ∧ t.counters = s.counters ∧ FlagsStay s t)

/-- O19. A qualification event that ends a drive FAILED: the start combination in travel REVERSED, 11 in travel
CONTACT_FAULT, and any but the target in the settle REVERSED; the next head, if any, starts after it. The premise on
the yard link is the invariant that every step keeps (O57). The clock at a qualification is the model's choice (log
1). -/
def Obligations.QualificationEndsTheDriveFailed : Prop :=
  ∀ s : State, LinkCoherent s → ∀ (k : Nat) (d : ObjDesc), objDesc s k = some d → (objIn s k).commanded = true →
    (objIn s k).qualified ≠ some (rawComb d (objIn s k)) → ∀ r, s.drive.record = some r → r.object = k →
    r.target = targetComb r.dir → r.start = startComb r.dir → ∀ op, headOp s = some op → isDriven op = true →
    ∀ c, s.claims.own = some c → ∀ reason : Reason,
    ((r.settling = false ∧ rawComb d (objIn s k) = r.start ∧ reason = .reversed) ∨
      (r.settling = false ∧ rawComb d (objIn s k) = .c11 ∧ reason = .contactFault) ∨
      (r.settling = true ∧ rawComb d (objIn s k) ≠ r.target ∧ reason = .reversed)) →
    ∃ u, Sys2Proof.Machine.exec (.qualificationEvent k) s = .next (nextHead u) ∧
      DriveEnded .failed reason r op c s u ∧ u.now = max s.now ((objIn s k).since + qualificationTime s) ∧
      PositionTable (rawComb d (objIn s k)) (positionOf s k) (positionOf u k) ∧
      u.handover =
        (if positionOf u k = positionOf s k then s.handover
          else { s.handover with
            positions := s.handover.positions ++ [k]
            views := s.handover.views ++ [{ station := ownAddress s, state := none }] }) ∧
      Touches [.now, .objects, .drive, .claims, .req, .counters, .view, .link, .faults, .handover] s u

/-- O20. The expiries of a drive's timers: departure and travel end it FAILED, the settle ends it DONE with the
bypass reason or NONE and raises no flag, the object staying at its combination and position and the next head, if
any, starting after each; and the coil pulse only de-energizes the output. The travel expiry finds departure seen
and 00 qualified; while the departure timer runs, that shorter timer ends the drive first, so that the travel expiry
does what the departure expiry does. The premises on the yard link and on the record are invariants that every step
keeps (O57, O59). The clock at a deadline, and a travel expiry given before its time, are the model's choice (log
1). -/
def Obligations.DriveTimersEndTheDrive : Prop :=
  ∀ s : State, LinkCoherent s → ∀ r, s.drive.record = some r → ∀ op, headOp s = some op → isDriven op = true →
    ∀ c, s.claims.own = some c →
    (r.settling = false → ∀ e, r.departure = some e →
      ∃ u, Sys2Proof.Machine.exec .departureExpiry s = .next (nextHead u) ∧ u.now = max s.now e ∧
        DriveEnded .failed .noDeparture r op c s u ∧ ContactsStay r.object s u ∧
        Touches [.now, .objects, .drive, .claims, .req, .counters, .view, .link, .faults] s u) ∧
    (r.settling = false → r.departure = none → ∀ e, r.travel = some e →
      (DriveFollowsContacts s → r.departed = true ∧ (objIn s r.object).qualified = some .c00) ∧
      ∃ u, Sys2Proof.Machine.exec .travelExpiry s = .next (nextHead u) ∧ u.now = max s.now e ∧
        DriveEnded .failed .travelTimeout r op c s u ∧ ContactsStay r.object s u ∧
        Touches [.now, .objects, .drive, .claims, .req, .counters, .view, .link, .faults] s u) ∧
    (r.settling = false → r.departure ≠ none → r.travel ≠ none →
      Sys2Proof.Machine.exec .travelExpiry s = Sys2Proof.Machine.exec .departureExpiry s) ∧
    (r.settling = true → ∀ e, r.settle = some e →
      ∃ u, Sys2Proof.Machine.exec .settleExpiry s = .next (nextHead u) ∧ u.now = max s.now e ∧
        DriveEnded .done (op.bypassReason.getD .none) r op c s u ∧ ContactsStay r.object s u ∧
        Touches [.now, .objects, .drive, .claims, .req, .counters, .view, .link] s u) ∧
    (r.settling = false → ∀ e, r.coilPulse = some e →
      ∃ t, Sys2Proof.Machine.exec .coilPulseExpiry s = .next t ∧ t.now = max s.now e ∧
        t.drive.record = some { r with energized := false, coilPulse := none } ∧
        t.drive.openOutputs =
          (if r.dir = .toOpen then s.drive.openOutputs &&& ~~~ outputBit r.object else s.drive.openOutputs) ∧
        t.drive.closeOutputs =
          (if r.dir = .toClose then s.drive.closeOutputs &&& ~~~ outputBit r.object else s.drive.closeOutputs) ∧
        Touches [.now, .drive] s t)

/-! ### Requests (07) -/

/-- O21. The screening of R123: a REQUEST under delivery is discarded without answer, and nothing but the delivery
changes, in each of its five cases, and while a departure is pending (R167). -/
def Obligations.ScreenedRequestsChangeNothing : Prop :=
  ∀ s : State, ∀ f, inboundHead s = some f → f.type = .request →
    (s.start.phase ≠ .ready ∨ s.start.departure ≠ none ∨ f.dst = 0 ∨ natAt f.body 1 < 1 ∨ 8 < natAt f.body 1 ∨
      (natAt f.body 2 ≠ 1 ∧ natAt f.body 2 ≠ 2) ∨ (natAt f.body 3 ≠ 0 ∧ natAt f.body 3 ≠ 1)) →
    Sys2Proof.Machine.exec .request s = .next (delivered s)

/-- O22. The checks of R124 on a REQUEST that passes the screening: the first that fails gives the disposition, the
ACCEPT that carries it is handed over, or dropped and counted when eight frames wait, and nothing else changes; a
REQUEST that passes them all is answered QUEUED first, and its operation joins the queue at its tail, its head start
following at once in an empty queue. -/
def Obligations.RequestsAreCheckedInOrder : Prop :=
  ∀ s : State, ∀ f, inboundHead s = some f → f.type = .request → s.start.phase = .ready → s.start.departure = none →
    f.dst ≠ 0 → 1 ≤ natAt f.body 1 → natAt f.body 1 ≤ 8 → natAt f.body 3 ≤ 1 →
    ∀ dir, directionOfCode (natAt f.body 2) = some dir →
    (∀ disp : Disposition, RequestRefused s f.src (byteAt f.body 0) (natAt f.body 1) dir disp →
      ∃ t, Sys2Proof.Machine.exec .request s = .next t ∧
        HandedOver (delivered s) t [ownFrame s .accept f.src [byteAt f.body 0, dispositionCode disp]]) ∧
    ((∀ disp : Disposition, ¬ RequestRefused s f.src (byteAt f.body 0) (natAt f.body 1) dir disp) →
      ∃ u : State, HandedOver (delivered s) u [ownFrame s .accept f.src [byteAt f.body 0, 0x01]] ∧
        ∃ v : State, v = u.withReq { s.req with
            queue := s.req.queue ++
              [{ requester := f.src, tag := byteAt f.body 0, object := natAt f.body 1, dir := dir,
                 cls := natAt f.body 3, source := .remote, state := .queued, deferCount := 0, lastDeferral := none,
                 travelLimit := none, bypassReason := none }] } ∧
          Sys2Proof.Machine.exec .request s = .next (if s.req.queue = [] then nextHead v else v))

/-- O23. The sixteen pushes have the tags 0 to 15, 2(k - 1) for OPEN and 2(k - 1) + 1 for CLOSE. A local request
that the Request Controller takes: refused by checks 2 to 7 it sets the last local result with the disposition as
its reason, makes no operation and sends no frame but the STATUS of that change; passed it joins the queue with
requester 0, the push's tag, class 0 and source LOCAL. -/
def Obligations.LocalRequestsAreTaken : Prop :=
  (∀ (k : Nat) (dir : Direction), slotOk k = true →
    (localTag k dir).toNat = 2 * (k - 1) + (if dir = .toOpen then 0 else 1)) ∧
  ∀ s : State, inService s = true → ∀ p, s.handover.locals.head? = some p →
    (∀ disp : Disposition, LocalRefused s 0 (localTag p.1 p.2) p.1 p.2 disp →
      ∃ t, Sys2Proof.Machine.exec .localRequest s = .next t ∧
        t.req = { s.req with lastLocal := some { outcome := .refused, reason := reasonOfDisposition disp } } ∧
        t.handover = { s.handover with locals := s.handover.locals.tail } ∧ t.link.urgent = s.link.urgent ∧
        OwnEvents s t (if t.req.lastLocal = s.req.lastLocal then 0 else 1) ∧
        claimsQueued t.link = claimsQueued s.link ∧ Touches [.handover, .req, .view, .link] s t) ∧
    ((∀ disp : Disposition, ¬ LocalRefused s 0 (localTag p.1 p.2) p.1 p.2 disp) →
      ∃ u : State, u = (s.withHandover { s.handover with locals := s.handover.locals.tail }).withReq { s.req with
            queue := s.req.queue ++
              [{ requester := 0, tag := localTag p.1 p.2, object := p.1, dir := p.2, cls := 0, source := .localPanel,
                 state := .queued, deferCount := 0, lastDeferral := none, travelLimit := none, bypassReason := none }] } ∧
        Sys2Proof.Machine.exec .localRequest s = .next (if s.req.queue = [] then nextHead u else u))

/-- O24. A CHECK: answered in service, addressed and in range with a RESULT that changes nothing else, REFUSED
NO_OBJECT with no position above the object count and the evaluation's verdict, basis, reason and position else;
discarded otherwise, and while a departure is pending (R167). -/
def Obligations.ChecksAreAnswered : Prop :=
  ∀ s : State, ∀ f, inboundHead s = some f → f.type = .check →
    ((s.start.phase ≠ .ready ∨ s.start.departure ≠ none ∨ f.dst = 0 ∨ natAt f.body 1 < 1 ∨ 8 < natAt f.body 1 ∨
        (natAt f.body 2 ≠ 1 ∧ natAt f.body 2 ≠ 2)) →
      Sys2Proof.Machine.exec .check s = .next (delivered s)) ∧
    (s.start.phase = .ready → s.start.departure = none → f.dst ≠ 0 → 1 ≤ natAt f.body 1 → natAt f.body 1 ≤ 8 →
      ∀ dir, directionOfCode (natAt f.body 2) = some dir →
      ∃ t, Sys2Proof.Machine.exec .check s = .next t ∧
        (objectCount s < natAt f.body 1 → HandedOver (delivered s) t [ownFrame s .result f.src
          [0x02, byteAt f.body 0, byteAt f.body 1, directionCode dir, 0x13, 0x00, reasonCode .noObject, 0x00]]) ∧
        (natAt f.body 1 ≤ objectCount s → HandedOver (delivered s) t [ownFrame s .result f.src
          [0x02, byteAt f.body 0, byteAt f.body 1, directionCode dir,
           verdictCode (evaluate s (natAt f.body 1) dir .remote).verdict,
           basisCode (evaluate s (natAt f.body 1) dir .remote).basis,
           reasonCode (evaluate s (natAt f.body 1) dir .remote).reason, positionCode (positionOf s (natAt f.body 1))]]))

/-- O25. A CANCEL: discarded outside READY, when it is addressed to all stations, and while a departure is pending
(R167). In service, by the operation its source and tag name: none is NOT_FOUND, a driven one is TOO_LATE, each
changing nothing else; a QUEUED, DEFERRED or CLAIMING one leaves the queue CANCELLED with REQUESTED, a CLAIMING one
withdrawn first, so that the answers are RELEASE, ACCEPT CANCEL_TAKEN, RESULT; and where it was the head the next
head starts after them. -/
def Obligations.CancelsAreAnswered : Prop :=
  ∀ s : State, ∀ f, inboundHead s = some f → f.type = .cancel →
    ((s.start.phase ≠ .ready ∨ s.start.departure ≠ none ∨ f.dst = 0) →
      Sys2Proof.Machine.exec .cancel s = .next (delivered s)) ∧
    (s.start.phase = .ready → s.start.departure = none → f.dst ≠ 0 →
      (s.req.queue.find? (isNamed f.src (byteAt f.body 0)) = none →
        ∃ t, Sys2Proof.Machine.exec .cancel s = .next t ∧
          HandedOver (delivered s) t [ownFrame s .accept f.src [byteAt f.body 0, 0x0B]]) ∧
      ∀ op, s.req.queue.find? (isNamed f.src (byteAt f.body 0)) = some op →
        (isDriven op = true →
          ∃ t, Sys2Proof.Machine.exec .cancel s = .next t ∧
            HandedOver (delivered s) t [ownFrame s .accept f.src [byteAt f.body 0, 0x0A]]) ∧
        (isDriven op = false →
          ∃ u v w, WithdrawnFor op (delivered s) u ∧
            HandedOver u v [ownFrame s .accept f.src [byteAt f.body 0, 0x09]] ∧
            OperationEnded op .cancelled .requested v w ∧
            Sys2Proof.Machine.exec .cancel s = .next (if headOp s = some op then nextHead w else w)))

/-- O26. A selector change: every waiting operation whose source does not match the new selector ends CANCELLED with
SELECTOR in queue order, a CLAIMING head withdrawn first with its RELEASE, a REMOTE operation answered with its
RESULT and a LOCAL one setting the last local result; every other operation stands, and when the head has gone the
next head starts after all of them. The two premises on the state are invariants that every step keeps (O57, O59). -/
def Obligations.SelectorChangesCancelMismatches : Prop :=
  ∀ s : State, DriveCoherent s → LinkCoherent s → ∀ sel, s.handover.selectors.head? = some sel →
    ∃ u, Sys2Proof.Machine.exec .selectorChange s =
        .next (if (headOp s).any (isCancelledBy sel) then nextHead u else u) ∧
      u.handover = { s.handover with selectors := s.handover.selectors.tail } ∧
      u.req =
        { queue := s.req.queue.filter fun op => !isCancelledBy sel op
          deferTimer :=
            if (headOp s).any (fun op => isCancelledBy sel op && op.state == .deferred) then none else s.req.deferTimer
          lastLocal :=
            if s.req.queue.any (fun op => isCancelledBy sel op && op.source == .localPanel)
            then some { outcome := .cancelled, reason := .selector } else s.req.lastLocal } ∧
      HandsOver s u
        ((withdrawnBy sel s).map (bareRelease s) ++
          (s.req.queue.filter (isCancelledBy sel)).flatMap fun op => resultsFor op .cancelled .selector s) ∧
      u.claims =
        ((withdrawnBy sel s).foldl
          (fun (x : Claims) (c : OwnClaim) => { x with
            own := none, answers := [], window := none
            lastEnding := some { id := c.id, cause := .operationEnded, objection := none } }) s.claims) ∧
      u.counters = { s.counters with
        claimsWithdrawn := if withdrawnBy sel s = [] then s.counters.claimsWithdrawn else bump s.counters.claimsWithdrawn
        txDropped := u.counters.txDropped } ∧
      OwnEvents s u ((withdrawnBy sel s).length + (if u.req.lastLocal = s.req.lastLocal then 0 else 1)) ∧
      claimsQueued u.link =
        (if withdrawnBy sel s = [] then claimsQueued s.link
          else if claimOnLine s.link then (claimsQueued s.link).map markRemoved else []) ∧
      Touches [.handover, .link, .counters, .view, .claims, .req] s u

/-- O27. A change of an own object's position that the Request Controller takes: it ends a CLAIMING or DEFERRED head
of that object FAILED with reason POSITION_CHANGED, a CLAIMING one withdrawn first with its RELEASE, the next head
starting after it, and is nothing to any other head. -/
def Obligations.PositionChangesEndTheWaitingHead : Prop :=
  ∀ s : State, ∀ k, s.handover.positions.head? = some k →
    ((headOp s = none ∨ ∃ op, headOp s = some op ∧ (op.object ≠ k ∨ op.state = .queued ∨ isDriven op = true)) →
      Sys2Proof.Machine.exec .positionChangeTaken s =
        .next (s.withHandover { s.handover with positions := s.handover.positions.tail })) ∧
    (∀ op, headOp s = some op → op.object = k → (op.state = .claiming ∨ op.state = .deferred) →
      ∃ u v, WithdrawnFor op (s.withHandover { s.handover with positions := s.handover.positions.tail }) u ∧
        OperationEnded op .failed .positionChanged u v ∧
        Sys2Proof.Machine.exec .positionChangeTaken s = .next (nextHead v))

/-- O28. The defer expiry stops the defer timer and takes the head start of the DEFERRED head again. A head start,
of a QUEUED or DEFERRED head, takes its steps in order: a position that refuses it, with its reason; a travel limit
that is UNRATED; an evaluation that is REFUSED; and the claim: HELD at once over an empty set, its grant handled,
FOREIGN over a foreign record, LINK_BUSY while a CLAIM waits, else CLAIMING in round 1. A deferral beyond the stall
limit ends the operation FAILED with the deferral's reason. The clock at the deadline, the round 0 of a HELD claim,
and the position changes that a QUEUED operation's head start has seen are the model's choices (log 1, log 20, log
32). -/
def Obligations.DeferExpiryTakesTheHeadStart : Prop :=
  (∀ s : State, ∀ e, s.req.deferTimer = some e → ∀ op, headOp s = some op → op.state = .deferred →
    Sys2Proof.Machine.exec .deferExpiry s =
      .next (nextHead ((s.withNow (max s.now e)).withReq { s.req with deferTimer := none }))) ∧
  (∀ s : State, QueueOk s.req.queue → ∀ op, headOp s = some op → (op.state = .queued ∨ op.state = .deferred) →
    HeadStarted op s (nextHead s))

/-! ### The yard link (03) -/

/-- O29. An attempt begins once the line has been idle for the current frame's wait: 16 bit times for an urgent
frame not yet tried, 16 + 8k for one that has collided, 32 + 8k for a normal frame. A STATUS is assembled from the
own content as it stands. Before the wait is over nothing changes, and none begins while an attempt is on the line,
with no current frame, in a phase that does not transmit, or after the FINAL STATUS has ended. That 152 bit times
suffice whatever k is, is the model's reading of the largest wait (log 24). -/
def Obligations.AttemptsBeginAfterTheWait : Prop :=
  (∀ (s : State) (idle : Nat),
    (s.link.attempt ≠ none ∨ s.link.current = none ∨ s.link.halted = true ∨
        (s.start.phase ≠ .announce ∧ s.start.phase ≠ .ready)) →
      Sys2Proof.Machine.exec (.attemptStart idle) s = .next s) ∧
  ∀ (s : State) (idle : Nat), s.link.attempt = none → s.link.halted = false → transmits s.start.phase = true →
    ∀ cur, s.link.current = some cur →
    (cur.cls = .urgent → ∀ i, s.link.urgent.head? = some i →
      ((if i.attempts = 0 then 16 else 16 + cur.k * 8) ≤ idle →
        ∃ t, Sys2Proof.Machine.exec (.attemptStart idle) s = .next t ∧ Touches [.link] s t ∧
          t.link = { s.link with
            attempt := some (Attempt.mk .urgent i.frame (frameSymbols i.frame) (s.start.phase == .ready)) }) ∧
      (idle < (if i.attempts = 0 then 16 else 16 + cur.k * 8) → idle < 152 →
        Sys2Proof.Machine.exec (.attemptStart idle) s = .next s)) ∧
    (cur.cls = .normal → idle < 32 + cur.k * 8 → idle < 152 →
      Sys2Proof.Machine.exec (.attemptStart idle) s = .next s) ∧
    (cur.cls = .normal → 32 + cur.k * 8 ≤ idle → ∀ i, s.link.normal.head? = some i →
      (isMarker i = true → ∀ c, ownContent s = some c →
        ∃ t, Sys2Proof.Machine.exec (.attemptStart idle) s = .next t ∧ Touches [.link] s t ∧
          ∃ a, t.link.attempt = some a ∧ a.cls = .normal ∧ a.frame.type = .status ∧ a.frame.src = ownAddress s ∧
            a.frame.dst = 0 ∧ a.frame.final = (i == markFinal i) ∧
            a.frame.body = statusBody c s.view.joining (ownClaimPart s) ∧ a.symbols = frameSymbols a.frame ∧
            a.inReady = (s.start.phase == .ready) ∧
            t.link = { s.link with attempt := some a }) ∧
      (∀ f, claimFrameOf i = some f →
        ∃ t, Sys2Proof.Machine.exec (.attemptStart idle) s = .next t ∧ Touches [.link] s t ∧
          t.link = { s.link with
            attempt := some (Attempt.mk .normal f (frameSymbols f) (s.start.phase == .ready)) }))

/-- O30. A half-bit read back as driven is no collision. One that differs ends the attempt and counts it: the frame
stays at its place with one attempt more, and at the eighth it is abandoned, TX_ABANDONED rises and it leaves its
queue. The abandoned STATUS marker restarts the heartbeat timer and is followed by another one where it was marked
RENEW or the node announces, and a FINAL one ends the departure; an abandoned CLAIM of the CLAIMING own claim is
judged as its window expiry, and any other changes nothing more. A CLAIM whose removal was asked for leaves without
a retry and without a count, and in SILENT, where no frame waits, the attempt ends and is not retried. That a
removed CLAIM counts no abandonment, that a RENEW of the abandoned attempt counts, and that a collision is judged by
the half-bit read back, are the model's readings (log 9, log 10, log 24), as are what an erase leaves and that the
departure stays pending after its FINAL STATUS has ended (log 8, log 11, log 28). -/
def Obligations.CollisionsCountAttempts : Prop :=
  ∀ (s : State) (h : Nat) (read : Level), ∀ a, s.link.attempt = some a → ∀ driven, levelAt a.symbols h = some driven →
    (driven = read → Sys2Proof.Machine.exec (.collision h read) s = .next s) ∧
    (driven ≠ read →
      (a.cls = .urgent → ∀ i, s.link.urgent.head? = some i →
        ∃ t, Sys2Proof.Machine.exec (.collision h read) s = .next t ∧ t.link.attempt = none ∧
          t.link.normal = s.link.normal ∧ t.link.inbound = s.link.inbound ∧ Touches [.link, .counters] s t ∧
          (i.attempts + 1 < 8 → t.counters = s.counters ∧
            t.link.urgent = { i with attempts := i.attempts + 1 } :: s.link.urgent.tail) ∧
          (8 ≤ i.attempts + 1 → t.link.urgent = s.link.urgent.tail ∧
            t.counters = { s.counters with txAbandoned := bump s.counters.txAbandoned })) ∧
      (a.cls = .normal → ∀ renew final n, s.link.normal.head? = some (.marker renew final n) →
        (n + 1 < 8 → ∃ t, Sys2Proof.Machine.exec (.collision h read) s = .next t ∧ Touches [.link] s t ∧
          t.link.attempt = none ∧ t.link.urgent = s.link.urgent ∧ t.link.inbound = s.link.inbound ∧
          t.link.normal = .marker false final (n + 1) :: s.link.normal.tail) ∧
        (8 ≤ n + 1 → ∃ u t, Sys2Proof.Machine.exec (.collision h read) s = .next t ∧
          u.counters = { s.counters with txAbandoned := bump s.counters.txAbandoned } ∧
          u.view = { s.view with heartbeat := some (s.now + fieldOf s (·.heartbeat)) } ∧
          u.link.attempt = none ∧ u.link.urgent = s.link.urgent ∧ u.link.inbound = s.link.inbound ∧
          u.link.normal = s.link.normal.tail ++
            (if (renew = true ∧ final = false) ∨ (s.start.phase = .announce ∧ s.link.normal.tail.any isMarker = false)
              then [.marker false false 0] else []) ∧
          u.link.halted = (final || s.link.halted) ∧ Touches [.link, .view, .counters] s u ∧
          ((final = false ∨ s.start.departure = none) → t = u) ∧
          (∀ d, final = true → s.start.departure = some d → DepartureEnded d u t))) ∧
      (a.cls = .normal → ∀ id f n removed, s.link.normal.head? = some (.claim id f n removed) →
        ∃ u, Touches [.link, .counters] s u ∧ u.link.attempt = none ∧ u.link.urgent = s.link.urgent ∧
          u.link.inbound = s.link.inbound ∧
          (removed = true → Sys2Proof.Machine.exec (.collision h read) s = .next u ∧
            u.link.normal = s.link.normal.tail ∧ u.counters = s.counters) ∧
          (removed = false → n + 1 < 8 → Sys2Proof.Machine.exec (.collision h read) s = .next u ∧
            u.link.normal = .claim id f (n + 1) false :: s.link.normal.tail ∧ u.counters = s.counters) ∧
          (removed = false → 8 ≤ n + 1 → u.link.normal = s.link.normal.tail ∧
            u.counters = { s.counters with txAbandoned := bump s.counters.txAbandoned } ∧
            ((∀ c, s.claims.own = some c → c.held = true ∨ c.id ≠ id) →
              Sys2Proof.Machine.exec (.collision h read) s = .next u) ∧
            (∀ c, s.claims.own = some c → c.held = false → c.id = id →
              ∃ w t, Sys2Proof.Machine.exec .windowExpiry (u.withClaims { u.claims with window := some u.now }) = .next w ∧
                Sys2Proof.Machine.exec (.collision h read) s = .next t ∧ Touches [.link] w t ∧
                t.link = { w.link with current := t.link.current, draws := t.link.draws }))) ∧
      (s.link.urgent = [] → s.link.normal = [] →
        Sys2Proof.Machine.exec (.collision h read) s =
          .next (s.withLink { s.link with attempt := none, current := none })))

/-- O31. A frame that is sent leaves its queue, after any number of attempts. A STATUS restarts the heartbeat timer
and clears JOINING when its attempt began in READY; another follows it where it was marked RENEW, or marked FINAL
while its attempt went out NORMAL; the announcing STATUS takes the node to READY, one own-content event, with a
further STATUS asked for and the silence timer running; a FINAL STATUS ends the departure, and the controller begins
no attempt from then on. A CLAIM starts the claim window of the CLAIMING own claim. In SILENT, where no frame waits,
the end is reported to nobody. What an erase leaves, and that the departure stays pending after its FINAL STATUS has
ended, are the model's readings (log 8, log 11, log 28). -/
def Obligations.SentFramesLeaveTheirQueue : Prop :=
  ∀ s : State, ∀ a, s.link.attempt = some a →
    (a.cls = .urgent → ∀ i, s.link.urgent.head? = some i →
      ∃ t, Sys2Proof.Machine.exec .frameSent s = .next t ∧ t.link.attempt = none ∧
        t.link.urgent = s.link.urgent.tail ∧ t.link.normal = s.link.normal ∧ Touches [.link] s t) ∧
    (a.cls = .normal → ∀ renew final n, s.link.normal.head? = some (.marker renew final n) →
      ∃ follow : List NormalItem, follow =
          (if final = true then (if a.frame.final = true then [] else [.marker false true 0])
            else if renew = true then [.marker false false 0] else []) ∧
      ((final = false ∨ a.frame.final = false) →
        (s.start.phase = .announce → ∀ r, s.copy = some r →
          ∃ t, Sys2Proof.Machine.exec .frameSent s = .next t ∧ t.link.attempt = none ∧
            t.start = { s.start with phase := .ready } ∧
            t.view = { s.view with
              counter := s.view.counter + 1, joining := if a.inReady then false else s.view.joining
              heartbeat := some (s.now + r.heartbeat), silence := some (s.now + 3 * r.heartbeat) } ∧
            t.link.normal = s.link.normal.tail ++ follow ++
              (if (s.link.normal.tail ++ follow).any isMarker then [] else [.marker false false 0]) ∧
            t.link.urgent = s.link.urgent ∧ t.link.inbound = s.link.inbound ∧ Touches [.link, .view, .start] s t) ∧
        (s.start.phase = .ready →
          ∃ t, Sys2Proof.Machine.exec .frameSent s = .next t ∧ t.link.attempt = none ∧
            t.view = { s.view with
              joining := if a.inReady then false else s.view.joining
              heartbeat := some (s.now + fieldOf s (·.heartbeat)) } ∧
            t.link.normal = s.link.normal.tail ++ follow ∧ t.link.urgent = s.link.urgent ∧
            t.link.inbound = s.link.inbound ∧ Touches [.link, .view] s t)) ∧
      (final = true → a.frame.final = true → s.start.phase = .ready → ∀ d, s.start.departure = some d →
        ∃ u t, Sys2Proof.Machine.exec .frameSent s = .next t ∧ u.link.attempt = none ∧ u.link.halted = true ∧
          u.link.normal = s.link.normal.tail ∧ u.link.urgent = s.link.urgent ∧ Touches [.link, .view] s u ∧
          DepartureEnded d u t ∧ ∀ idle, Sys2Proof.Machine.exec (.attemptStart idle) t = .next t)) ∧
    (a.cls = .normal → ∀ id f n removed, s.link.normal.head? = some (.claim id f n removed) →
      ∃ t, Sys2Proof.Machine.exec .frameSent s = .next t ∧ t.link.attempt = none ∧
        t.link.normal = s.link.normal.tail ∧ t.link.urgent = s.link.urgent ∧ Touches [.link, .claims] s t ∧
        (∀ c, s.claims.own = some c → c.held = false → c.id = id →
          t.claims = { s.claims with window := some (s.now + fieldOf s (·.claimWindow)) }) ∧
        ((∀ c, s.claims.own = some c → c.held = true ∨ c.id ≠ id) → t.claims = s.claims)) ∧
    (s.link.urgent = [] → s.link.normal = [] →
      Sys2Proof.Machine.exec .frameSent s = .next (s.withLink { s.link with attempt := none, current := none }))

/-- O32. A header that the receiver takes up: one after the line has been idle, whether an attempt of the node is on
the line by then or not, or one in the same stretch of busy line while no frame is under reception and the rest of
the stretch is not ignored. A failing one counts HEADER_ERRORS and charges no source, and while the line is still
busy the rest of the stretch is ignored; a passing one of another station is followed by its body; one with the own
address makes the node SILENT, the condition ADDRESS_CONFLICT begun and its flag pending, the queues emptied while
an attempt runs on, a CLAIMING claim dropped without RELEASE, the waiting operations removed, the drive and a driven
head left as they stand, and a departure that is pending carried to its end. Any other header changes nothing. That
such a header is discarded uncounted in SILENT, and that a header takes the place of one under reception, are the
model's readings (log 13), as are what an erase leaves and the departure's end (log 8, log 11, log 28). -/
def Obligations.HeadersAreJudged : Prop :=
  ∀ (s : State) (origin : HeaderOrigin) (syms : List LineSym),
    ((receives s.start.phase = false ∨ origin = .ownTransmission ∨
        (origin = .sameStretch ∧ (s.link.header ≠ none ∨ s.link.ignoring = true))) →
      Sys2Proof.Machine.exec (.headerReceived ⟨origin, syms⟩) s = .next s) ∧
    (receives s.start.phase = true →
      (origin = .afterIdle ∨ (origin = .sameStretch ∧ s.link.header = none ∧ s.link.ignoring = false)) →
      (judgeHeader syms = none →
        ∃ t, Sys2Proof.Machine.exec (.headerReceived ⟨origin, syms⟩) s = .next t ∧ Touches [.link, .counters] s t ∧
          t.counters = { s.counters with headerErrors := bump s.counters.headerErrors } ∧
          t.link = { s.link with header := none, ignoring := decide (6 ≤ syms.length) }) ∧
      (∀ h, judgeHeader syms = some h →
        (h.src ≠ ownAddress s →
          ∃ t, Sys2Proof.Machine.exec (.headerReceived ⟨origin, syms⟩) s = .next t ∧ Touches [.link] s t ∧
            t.link = { s.link with header := some h, ignoring := false }) ∧
        (h.src = ownAddress s → s.start.phase = .silent →
          ∃ t, Sys2Proof.Machine.exec (.headerReceived ⟨origin, syms⟩) s = .next t ∧ Touches [.link] s t ∧
            t.link = { s.link with header := none, ignoring := true }) ∧
        (h.src = ownAddress s → s.start.phase ≠ .silent →
          ∃ u t, Sys2Proof.Machine.exec (.headerReceived ⟨origin, syms⟩) s = .next t ∧
            u.start = { s.start with phase := .silent, listen := none, announce := none, departure := none } ∧
            causeIn u.faults.holding .addressConflict = true ∧ causeIn u.faults.holding .linkSilent = false ∧
            (causeIn s.faults.holding .addressConflict = false → causeIn u.faults.pending .addressConflict = true) ∧
            FlagsStay s u ∧ u.view.silence = none ∧ u.view.entries = s.view.entries ∧
            u.link = { s.link with
              urgent := [], normal := [], inbound := [], viewTaken := false, current := none, header := none
              ignoring := true } ∧
            u.req = { s.req with queue := s.req.queue.filter isDriven, deferTimer := none } ∧
            (s.claims.own = none → u.claims = s.claims ∧ u.counters = s.counters) ∧
            (∀ c, s.claims.own = some c →
              (c.held = true → u.claims = s.claims ∧ u.counters = s.counters) ∧
              (c.held = false → u.claims = { s.claims with
                  own := none, answers := [], window := none
                  lastEnding := some { id := c.id, cause := .silenced, objection := none } } ∧
                u.counters = { s.counters with claimsWithdrawn := bump s.counters.claimsWithdrawn })) ∧
            Touches [.start, .link, .view, .faults, .claims, .req, .counters] s u ∧
            ((s.start.departure = none ∨ s.link.halted = true) → t = u) ∧
            (∀ d, s.start.departure = some d → s.link.halted = false → DepartureEnded d u t))))

/-- O33. The end of a frame whose header passed: a body that fails counts BODY_ERRORS and is a suspect report of its
source, a view change when its entry was FRESH; a good frame restarts the silence timer in READY and ends
LINK_SILENT, and joins the inbound queue when it is for this node and is no answer for gateways, or counts OVERRUNS
when six wait and is then a suspect report too. In SILENT nothing is reported. -/
def Obligations.FrameEndsAreJudged : Prop :=
  ∀ (s : State) (syms : List LineSym), receives s.start.phase = true → ∀ h, s.link.header = some h →
    (judgeBody h syms = none →
      ∃ t, Sys2Proof.Machine.exec (.frameEnd syms) s = .next t ∧ t.link = { s.link with header := none } ∧
        t.counters = { s.counters with bodyErrors := bump s.counters.bodyErrors } ∧
        (s.start.phase = .silent → Touches [.link, .counters] s t) ∧
        (s.start.phase ≠ .silent → entryState t h.src = suspected (entryState s h.src) ∧
          t.handover = { s.handover with views := s.handover.views ++ suspectChange s h.src }) ∧
        (∀ j, j ≠ h.src → entryOf t j = entryOf s j) ∧ Touches [.link, .counters, .view, .handover] s t) ∧
    (∀ f, judgeBody h syms = some f →
      (s.start.phase = .silent →
        ∃ t, Sys2Proof.Machine.exec (.frameEnd syms) s = .next t ∧ Touches [.link] s t ∧
          t.link = { s.link with header := none }) ∧
      (s.start.phase ≠ .silent →
        ∃ t, Sys2Proof.Machine.exec (.frameEnd syms) s = .next t ∧
          (s.start.phase = .ready → t.view.silence = some (s.now + 3 * fieldOf s (·.heartbeat)) ∧
            causeIn t.faults.holding .linkSilent = false) ∧ t.faults.pending = s.faults.pending ∧
          (((f.dst ≠ 0 ∧ f.dst ≠ ownAddress s) ∨ f.type = .accept ∨ f.type = .result) →
            t.link = { s.link with header := none } ∧ t.counters = s.counters ∧ t.view.entries = s.view.entries ∧
              t.handover = s.handover) ∧
          ((f.dst = 0 ∨ f.dst = ownAddress s) → f.type ≠ .accept → f.type ≠ .result →
            (s.link.inbound.length < 6 → t.counters = s.counters ∧ t.view.entries = s.view.entries ∧
              t.handover = s.handover ∧ t.link = { s.link with header := none, inbound := s.link.inbound ++ [f] }) ∧
            (6 ≤ s.link.inbound.length → t.link = { s.link with header := none } ∧
              t.counters = { s.counters with overruns := bump s.counters.overruns } ∧
              entryState t f.src = suspected (entryState s f.src) ∧ (∀ j, j ≠ f.src → entryOf t j = entryOf s j) ∧
              t.handover = { s.handover with views := s.handover.views ++ suspectChange s f.src })) ∧
          Touches [.link, .view, .faults, .counters, .handover] s t))

/-- O34. A frame that the node puts on the line is read back whole: its header by the tests of R51 and its body by
the tests of R54, with every field at every value the layout admits. And no other symbols pass: a header passes
exactly when it is the six bytes of its type, source, destination and length with their check, the source from 1 to
63 and the destination to 63; a body passes exactly when two bytes of gap, a NORMAL or FINAL mark, a body of the
header's length, at most 96 and one that its type permits, and the check over mark and body follow and nothing more,
the FINAL mark with a STATUS alone. The permitted lengths are those of R177, and for a STATUS that of its own counts
(R178). -/
def Obligations.FramesReadBack : Prop :=
  (∀ f : Frame, 1 ≤ f.src → f.src ≤ 63 → f.dst ≤ 63 → f.body.length ≤ 96 → lengthPermitted f.type f.body = true →
    (f.final = true → f.type = .status) →
    judgeHeader (((frameSymbols f).drop 5).take 6) =
        some { type := f.type, src := f.src, dst := f.dst, length := f.body.length } ∧
      judgeBody { type := f.type, src := f.src, dst := f.dst, length := f.body.length }
        ((frameSymbols f).drop 11) = some f) ∧
  (∀ (syms : List LineSym) (h : Header), judgeHeader syms = some h ↔
    1 ≤ h.src ∧ h.src ≤ 63 ∧ h.dst ≤ 63 ∧ h.length ≤ 255 ∧
      ∃ fields : List Byte, fields = [frameTypeCode h.type, byteOf h.src, byteOf h.dst, byteOf h.length] ∧
        syms = (fields ++ checkBytes fields).map .data) ∧
  (∀ (syms : List LineSym) (h : Header) (f : Frame), judgeBody h syms = some f ↔
    f.type = h.type ∧ f.src = h.src ∧ f.dst = h.dst ∧ f.body.length = h.length ∧ h.length ≤ 96 ∧
      lengthPermitted f.type f.body = true ∧ (f.final = true → f.type = .status) ∧
      ∃ (gap₁ gap₂ : LineSym) (mark : LineMark), mark = (if f.final then .final else .normal) ∧
        syms = [gap₁, gap₂, .mark mark] ++ (f.body ++ checkBytes (markValue mark :: f.body)).map .data) ∧
  ∀ (t : FrameType) (body : List Byte),
    (∀ n, fixedLength t = some n → (lengthPermitted t body = true ↔ body.length = n)) ∧
    (fixedLength t = none → (lengthPermitted t body = true ↔ ∃ n m, n = natAt body 8 ∧ m = natAt body (9 + 4 * n) ∧
      body.length = 11 + 4 * n + 2 * m + (if natAt body (10 + 4 * n + 2 * m) = 0 then 0 else 21)))

/-- O35. On the line every bit of a data byte has a transition at its middle, and every mark holds exactly one bit,
so that no mark can be read as data; a 0 is sent dominant first and a 1 recessive first, most significant bit first. -/
def Obligations.MarksAreNoData : Prop :=
  (∀ (b : Byte) (i : Nat), i < 8 →
    (symLevels (.data b))[2 * i]? = some (if b.getLsbD (7 - i) then .recessive else .dominant) ∧
      (symLevels (.data b))[2 * i + 1]? = some (if b.getLsbD (7 - i) then .dominant else .recessive)) ∧
  (∀ (m : LineMark) (i : Nat), i < 8 →
    ((symLevels (.mark m))[2 * i]? = (symLevels (.mark m))[2 * i + 1]? ↔ i = (markHeld m).1)) ∧
  ∀ (b : Byte) (m : LineMark), symLevels (.data b) ≠ symLevels (.mark m)

/-! ### The view (04) -/

/-- O36. A STATUS that the View Manager takes: one that is not well formed is a suspect report and changes no
content; a well-formed one makes the entry FRESH, or STALE with the FINAL mark, at the age 0, creates an ABSENT
entry in full, and replaces the content of another in full when JOINING is set or the counter differs; each event
raises its view changes, a suspect report one when the entry was FRESH. The number and order of the reports are the
model's reading (log 17). -/
def Obligations.StatusesEnterTheView : Prop :=
  ∀ s : State, ∀ f, inboundHead s = some f → f.type = .status → s.link.viewTaken = false →
    (parseStatus f.body = none →
      ∃ t, Sys2Proof.Machine.exec .statusTakenByView s = .next t ∧ t.link = { s.link with viewTaken := true } ∧
        entryState t f.src = suspected (entryState s f.src) ∧
        t.handover = { s.handover with views := s.handover.views ++ suspectChange s f.src } ∧
        (∀ e, entryOf s f.src = some e → ∃ e', entryOf t f.src = some e' ∧ e'.content = e.content ∧ e'.lastGood = e.lastGood) ∧
        (∀ j, j ≠ f.src → entryOf t j = entryOf s j) ∧ Touches [.link, .view, .handover] s t) ∧
    (∀ c, parseStatus f.body = some c →
      ∃ t, Sys2Proof.Machine.exec .statusTakenByView s = .next t ∧ t.link = { s.link with viewTaken := true } ∧
        (entryOf s f.src = none →
          entryOf t f.src = some { state := if f.final then .stale else .fresh, content := c, lastGood := s.now } ∧
          t.handover.views = s.handover.views ++
            List.replicate (if isExpected s f.src then 2 else 1)
              { station := f.src, state := some (if f.final then .stale else .fresh) }) ∧
        (∀ e, entryOf s f.src = some e →
          entryOf t f.src = some
            { state := if f.final then .stale else .fresh, lastGood := s.now
              content := if statusJoining f.body = true ∨ c.counter ≠ e.content.counter then c else e.content } ∧
          t.handover.views = s.handover.views ++
            List.replicate
              ((if e.state = (if f.final then .stale else .fresh) then 0 else 1) +
                (if statusJoining f.body = true ∨ c.counter ≠ e.content.counter then 1 else 0))
              { station := f.src, state := some (if f.final then .stale else .fresh) }) ∧
        (∀ j, j ≠ f.src → entryOf t j = entryOf s j) ∧ isMissing t f.src = false ∧
        t.handover.positions = s.handover.positions ∧ t.handover.selectors = s.handover.selectors ∧
        t.handover.locals = s.handover.locals ∧ Touches [.link, .view, .handover] s t)

/-- O37. The table of R72: a RELEASE under delivery to the View Manager changes nothing for an ABSENT releaser, for
an index above the entry's object count or a position not one of the five, and for an equal counter; one more,
modulo 256, replaces the object's held position and the counter; any other difference replaces the position alone.
The entry's state, age and every other object stay, and the change is one view change unless the entry is STALE.
That index 0 names no object, and that an equal position replaced is a view change too, are the model's readings
(log 16, log 17). -/
def Obligations.ReleasesMoveOnePosition : Prop :=
  ∀ s : State, ∀ f, inboundHead s = some f → f.type = .release → s.link.viewTaken = false →
    (entryOf s f.src = none →
      ∃ t, Sys2Proof.Machine.exec .releaseTakenByView s = .next t ∧ t.link = { s.link with viewTaken := true } ∧
        Touches [.link] s t) ∧
    (∀ e, entryOf s f.src = some e →
      ((natAt f.body 2 < 1 ∨ e.content.objects.length < natAt f.body 2 ∨ positionOfCode (natAt f.body 3) = none ∨
          byteAt f.body 1 = e.content.counter) →
        ∃ t, Sys2Proof.Machine.exec .releaseTakenByView s = .next t ∧ t.link = { s.link with viewTaken := true } ∧
          Touches [.link] s t) ∧
      (1 ≤ natAt f.body 2 → natAt f.body 2 ≤ e.content.objects.length → byteAt f.body 1 ≠ e.content.counter →
        ∀ p, positionOfCode (natAt f.body 3) = some p →
        ∃ t, Sys2Proof.Machine.exec .releaseTakenByView s = .next t ∧ t.link = { s.link with viewTaken := true } ∧
          (∃ e', entryOf t f.src = some e' ∧ e'.state = e.state ∧ e'.lastGood = e.lastGood ∧
            e'.content.heartbeat = e.content.heartbeat ∧ e'.content.sensors = e.content.sensors ∧
            e'.content.counter =
              (if byteAt f.body 1 = e.content.counter + 1 then byteAt f.body 1 else e.content.counter) ∧
            e'.content.objects.length = e.content.objects.length ∧
            ∀ k, e'.content.objects[k]? =
              (if k + 1 = natAt f.body 2 then e.content.objects[k]?.map fun o => { o with position := p }
                else e.content.objects[k]?)) ∧
          t.handover = { s.handover with
            views := s.handover.views ++
              if e.state = .stale then [] else [{ station := f.src, state := some e.state }] } ∧
          (∀ j, j ≠ f.src → entryOf t j = entryOf s j) ∧ Touches [.link, .view, .handover] s t))

/-- O38. The View Manager's timers: the heartbeat timer stops at its expiry and asks for a STATUS in READY, whose
marker joins the normal queue, or, where a marker waits, is not doubled, but marked RENEW while its attempt is on
the line; outside READY nothing is asked for. An ageing deadline makes a FRESH or SUSPECT entry STALE, content and
age kept. The silence timer stops at its expiry and begins LINK_SILENT, which changes no flag where the condition
holds already. A timer that is stopped does not expire. The clock at a deadline is the model's choice (log 1). -/
def Obligations.ViewTimersExpire : Prop :=
  (∀ s : State, ∀ d, s.view.heartbeat = some d →
    ∃ t, Sys2Proof.Machine.exec .heartbeatExpiry s = .next t ∧ t.now = max s.now d ∧
      t.view = { s.view with heartbeat := none } ∧
      (s.start.phase = .ready →
        (s.link.normal.any isMarker = false → t.link.normal = s.link.normal ++ [.marker false false 0]) ∧
        (s.link.normal.any isMarker = true → markerOnLine s.link = true →
          t.link.normal = s.link.normal.map markRenew) ∧
        (s.link.normal.any isMarker = true → markerOnLine s.link = false → t.link = s.link)) ∧
      (s.start.phase ≠ .ready → t.link = s.link) ∧
      t.link = { s.link with normal := t.link.normal, current := t.link.current, draws := t.link.draws } ∧
      Touches [.now, .view, .link] s t) ∧
  (∀ s : State, (s.view.heartbeat = none → Sys2Proof.Machine.exec .heartbeatExpiry s = .next s) ∧
    (s.view.silence = none → Sys2Proof.Machine.exec .silenceTimerExpiry s = .next s)) ∧
  (∀ (s : State) (st : Nat), ∀ e, entryOf s st = some e → e.state ≠ .stale →
    ∃ t, Sys2Proof.Machine.exec (.ageingDeadline st) s = .next t ∧
      t.now = max s.now (e.lastGood + 3 * e.content.heartbeat) ∧ entryOf t st = some { e with state := .stale } ∧
      (∀ j, j ≠ st → entryOf t j = entryOf s j) ∧
      t.handover = { s.handover with views := s.handover.views ++ [{ station := st, state := some .stale }] } ∧
      Touches [.now, .view, .handover] s t) ∧
  (∀ s : State, s.start.phase = .ready → causeIn s.faults.holding .linkSilent = false → ∀ d, s.view.silence = some d →
    ∃ t, Sys2Proof.Machine.exec .silenceTimerExpiry s = .next t ∧ t.now = max s.now d ∧ t.view.silence = none ∧
      causeIn t.faults.holding .linkSilent = true ∧ causeIn t.faults.pending .linkSilent = true ∧ FlagsStay s t ∧
      t.view.entries = s.view.entries ∧ t.link.urgent = s.link.urgent ∧ t.link.inbound = s.link.inbound ∧
      Touches [.now, .view, .faults, .link] s t) ∧
  (∀ s : State, s.start.phase = .ready → causeIn s.faults.holding .linkSilent = true → ∀ d, s.view.silence = some d →
    ∃ t, Sys2Proof.Machine.exec .silenceTimerExpiry s = .next t ∧ t.now = max s.now d ∧
      t.view = { s.view with silence := none } ∧ Touches [.now, .view] s t)

/-! ### Claims (06) -/

/-- O39. Two claims of different stations are always told apart by rank, in one direction alone, and the rank orders
by class, then defer count, then the lower address; it is transitive. -/
def Obligations.RanksAreOrdered : Prop :=
  (∀ x y : Rank, rankBetter x y = true ↔
    (y.cls < x.cls ∨ (y.cls = x.cls ∧ y.deferCount < x.deferCount) ∨
      (y.cls = x.cls ∧ y.deferCount = x.deferCount ∧ x.address < y.address))) ∧
  (∀ x y : Rank, x.address ≠ y.address → (rankBetter x y = true ↔ rankBetter y x = false)) ∧
  (∀ x y z : Rank, rankBetter x y = true → rankBetter y z = true → rankBetter x z = true)

/-- O40. The claim part of a STATUS. With the FINAL mark the station's record goes and none is made. A JOINING
STATUS first removes the record, and makes the station's entry of the answer table anew, AWAITING, when the station
is concerned as the view stands, and removes it when it is not. From a station whose entry is FRESH or SUSPECT: no
claim removes the record, a claim without a record makes one, OBSERVED, the same id takes the published state and
keeps the rest, a different id makes a new record. That the claim part counts while the entry is FRESH or SUSPECT is
the model's reading (log 25). -/
def Obligations.StatusClaimPartsAreRecorded : Prop :=
  ∀ s : State, ∀ f, inboundHead s = some f → f.type = .status → s.link.viewTaken = true →
    ∃ t, Sys2Proof.Machine.exec .statusClaimPart s = .next t ∧ Touches [.link, .claims] s t ∧
      t.link = { s.link with inbound := s.link.inbound.tail, viewTaken := false } ∧
      t.claims = { s.claims with foreign := t.claims.foreign, answers := t.claims.answers } ∧
      (∀ j, j ≠ f.src → tableGet t.claims.foreign j = tableGet s.claims.foreign j) ∧
      (∀ j, j ≠ f.src → tableGet t.claims.answers j = tableGet s.claims.answers j) ∧
      ((statusJoining f.body = false ∨ s.claims.own = none ∨ tableGet s.claims.answers f.src = none) →
        t.claims.answers = s.claims.answers) ∧
      (statusJoining f.body = true → ∀ own, s.claims.own = some own → tableGet s.claims.answers f.src ≠ none →
        ((∀ e, entryOf s f.src = some e → peerConcerned own.nodes e = false) →
          tableGet t.claims.answers f.src = none) ∧
        (∀ e, entryOf s f.src = some e → peerConcerned own.nodes e = true →
          tableGet t.claims.answers f.src = some .awaiting)) ∧
      (f.final = true → tableGet t.claims.foreign f.src = none) ∧
      (f.final = false → entryCurrent (entryOf s f.src) = false →
        tableGet t.claims.foreign f.src =
          if statusJoining f.body then none else tableGet s.claims.foreign f.src) ∧
      (f.final = false → entryCurrent (entryOf s f.src) = true →
        (parseClaimPart f.body = none → tableGet t.claims.foreign f.src = none) ∧
        (∀ c, parseClaimPart f.body = some c →
          (statusJoining f.body = false → (tableGet s.claims.foreign f.src).map (·.id) = some c.id →
            tableGet t.claims.foreign f.src =
              (tableGet s.claims.foreign f.src).map fun r => { r with held := c.held }) ∧
          ((statusJoining f.body = true ∨ (tableGet s.claims.foreign f.src).map (·.id) ≠ some c.id) →
            tableGet t.claims.foreign f.src = some
              { id := c.id, nodes := c.nodes, cls := c.cls, deferCount := c.deferCount, holdLimit := c.holdLimit,
                recorded := s.now, held := c.held, assented := false })))

/-- O41. A RELEASE removes the record of its claim id and no other, and a record whose hold limit runs out is
removed. The clock at a deadline is the model's choice (log 1). -/
def Obligations.RecordsEnd : Prop :=
  (∀ s : State, ∀ f, inboundHead s = some f → f.type = .release → s.link.viewTaken = true →
    ∃ t, Sys2Proof.Machine.exec .releaseTakenByClaims s = .next t ∧ Touches [.link, .claims] s t ∧
      t.link = { s.link with inbound := s.link.inbound.tail, viewTaken := false } ∧
      t.claims = { s.claims with foreign := t.claims.foreign } ∧
      (∀ j, j ≠ f.src → tableGet t.claims.foreign j = tableGet s.claims.foreign j) ∧
      ((tableGet s.claims.foreign f.src).map (·.id) = some (byteAt f.body 0) →
        tableGet t.claims.foreign f.src = none) ∧
      ((tableGet s.claims.foreign f.src).map (·.id) ≠ some (byteAt f.body 0) → t.claims.foreign = s.claims.foreign)) ∧
  (∀ (s : State) (st : Nat), ∀ r, tableGet s.claims.foreign st = some r →
    ∃ t, Sys2Proof.Machine.exec (.holdExpiry st) s = .next t ∧ Touches [.now, .claims] s t ∧
      t.now = max s.now (r.recorded + 10 * r.holdLimit) ∧ t.claims = { s.claims with foreign := t.claims.foreign } ∧
      tableGet t.claims.foreign st = none ∧
      (∀ j, j ≠ st → tableGet t.claims.foreign j = tableGet s.claims.foreign j))

/-- O42. A CLAIM: discarded when it is not to all stations or out of range, or when its source's entry is ABSENT;
answered OBJECT HELD alone from a STALE source over a HELD claim; recorded and unanswered outside READY and while a
departure is pending; and in service answered by the first row of R112 that applies, its record ASSENTED exactly
where the answer includes an ASSENT. In the row that gives way the own claim is withdrawn with CONFLICT, its
operation deferred, or FAILED beyond the stall limit, and the RELEASE goes ahead of the ASSENT. -/
def Obligations.ClaimsAreAnswered : Prop :=
  ∀ s : State, ∀ f, inboundHead s = some f → f.type = .claim →
    ((f.dst ≠ 0 ∨ parseClaim f.body = none ∨ entryOf s f.src = none) →
      Sys2Proof.Machine.exec .claim s = .next (delivered s)) ∧
    (f.dst = 0 → ∀ c, parseClaim f.body = some c →
      (entryState s f.src = some .stale →
        ∃ t, Sys2Proof.Machine.exec .claim s = .next t ∧
          HandedOver (delivered s) t (if ownOverlaps s c.nodes true then [ownFrame s .object f.src [c.id, 0x01]] else [])) ∧
      (entryCurrent (entryOf s f.src) = true → (s.start.phase ≠ .ready ∨ s.start.departure ≠ none) →
        ∃ t, Sys2Proof.Machine.exec .claim s = .next t ∧ Recorded (delivered s) t f.src c false ∧
          Touches [.claims] (delivered s) t) ∧
      (entryCurrent (entryOf s f.src) = true → s.start.phase = .ready → s.start.departure = none →
        (ownOverlaps s c.nodes true = true →
          ∃ u t, Sys2Proof.Machine.exec .claim s = .next t ∧ Recorded (delivered s) u f.src c false ∧
            Touches [.claims] (delivered s) u ∧ HandedOver u t [ownFrame s .object f.src [c.id, 0x01]]) ∧
        (ownOverlaps s c.nodes false = true → ownRankBetter s f.src c = true →
          ∃ u t, Sys2Proof.Machine.exec .claim s = .next t ∧ Recorded (delivered s) u f.src c false ∧
            Touches [.claims] (delivered s) u ∧ HandedOver u t [ownFrame s .object f.src [c.id, 0x02]]) ∧
        (ownOverlaps s c.nodes false = true → ownRankBetter s f.src c = false →
          ∀ own, s.claims.own = some own → ∀ op, headOp s = some op →
          ∃ u v w t, Sys2Proof.Machine.exec .claim s = .next t ∧
            Recorded (delivered s) u f.src c (selfConcerned s c.nodes) ∧ Touches [.claims] (delivered s) u ∧
            Withdrawn own (.reason .conflict) none u v ∧ Deferral op .conflict v w ∧
            HandedOver w t (if selfConcerned s c.nodes then [ownFrame s .assent f.src [c.id]] else [])) ∧
        (ownOverlaps s c.nodes true = false → ownOverlaps s c.nodes false = false →
          ∃ u t, Sys2Proof.Machine.exec .claim s = .next t ∧
            Recorded (delivered s) u f.src c (selfConcerned s c.nodes) ∧ Touches [.claims] (delivered s) u ∧
            HandedOver u t (if selfConcerned s c.nodes then [ownFrame s .assent f.src [c.id]] else []))))

/-- O43. An answer counts while the own claim is CLAIMING with its id and it is addressed to this node: an ASSENT
marks its station's entry; an OBJECT is kept as the last objection and withdraws the claim with CONFLICT, its
RELEASE handed over and its operation deferred, or FAILED beyond the stall limit. An answer that does not count
changes nothing. -/
def Obligations.AnswersCount : Prop :=
  (∀ s : State, ∀ f, inboundHead s = some f → f.type = .assent →
    ∃ t, Sys2Proof.Machine.exec .assent s = .next t ∧ Touches [.link, .claims] s t ∧
      t.link = { s.link with inbound := s.link.inbound.tail, viewTaken := false } ∧
      (∀ own, s.claims.own = some own →
        (own.held = false → own.id = byteAt f.body 0 → f.dst ≠ 0 →
          (tableGet s.claims.answers f.src).isSome = true →
          tableGet t.claims.answers f.src = some .assented ∧ t.claims = { s.claims with answers := t.claims.answers } ∧
          (∀ j, j ≠ f.src → tableGet t.claims.answers j = tableGet s.claims.answers j)) ∧
        ((own.held = true ∨ own.id ≠ byteAt f.body 0 ∨ f.dst = 0 ∨ tableGet s.claims.answers f.src = none) →
          t.claims = s.claims)) ∧
      (s.claims.own = none → t.claims = s.claims)) ∧
  (∀ s : State, ∀ f, inboundHead s = some f → f.type = .object →
    ((s.claims.own = none ∨
        ∃ own, s.claims.own = some own ∧ (own.held = true ∨ own.id ≠ byteAt f.body 0 ∨ f.dst = 0)) →
      Sys2Proof.Machine.exec .object s = .next (delivered s)) ∧
    (∀ own, s.claims.own = some own → own.held = false → own.id = byteAt f.body 0 → f.dst ≠ 0 →
      ∀ op, headOp s = some op →
      ∃ u v t, Sys2Proof.Machine.exec .object s = .next t ∧
        u = (delivered s).withClaims { s.claims with
          lastObjection := some { station := f.src, reason := byteAt f.body 1 } } ∧
        Withdrawn own (.reason .conflict) (some { station := f.src, reason := byteAt f.body 1 }) u v ∧
        Deferral op .conflict v t))

/-- O44. A view change as the Claim Manager takes it: the record of a station gone STALE is removed; while the own
claim is CLAIMING it is re-evaluated, by the rows of R105 in their order: withdrawn with POSITION_CHANGED, its
operation FAILED, when its object has left the start position; withdrawn with the verdict's reason, its operation
REFUSED, when the verdict refuses; withdrawn with SCOPE, its operation deferred, or FAILED beyond the stall limit,
when the claim set differs; else it stands with its answer table adjusted to the concerned set. An own claim that is
HELD or IDLE is not re-evaluated. The re-evaluation sets or clears the bypass reason of its operation, the head. The
order of removal and re-evaluation is the model's reading (log 15). -/
def Obligations.ViewChangesReevaluateTheClaim : Prop :=
  ∀ s : State, ∀ v, s.handover.views.head? = some v →
    ∃ u : State, Touches [.handover, .claims] s u ∧
      u.handover = { s.handover with views := s.handover.views.tail } ∧
      u.claims = { s.claims with foreign := u.claims.foreign } ∧
      (v.state = some .stale → tableGet u.claims.foreign v.station = none) ∧
      (∀ j, j ≠ v.station → tableGet u.claims.foreign j = tableGet s.claims.foreign j) ∧
      (v.state ≠ some .stale → u.claims.foreign = s.claims.foreign) ∧
      ((s.claims.own = none ∨ ∃ own, s.claims.own = some own ∧ own.held = true) →
        Sys2Proof.Machine.exec .viewChange s = .next u) ∧
      (∀ own, s.claims.own = some own → own.held = false →
        (positionOf s own.object ≠ own.startPos → ∀ op, headOp s = some op →
          ∃ w x, Withdrawn own (.reason .positionChanged) none u w ∧
            OperationEnded op .failed .positionChanged w x ∧
            Sys2Proof.Machine.exec .viewChange s = .next (nextHead x)) ∧
        (positionOf s own.object = own.startPos → ∀ r, r = evaluate s own.object own.dir own.source →
          (r.nodes = none → ∀ op, headOp s = some op →
            ∃ w x, Withdrawn own (.reason r.reason) none (headEvaluated r u) w ∧
              OperationEnded (evaluated r op) .refused r.reason w x ∧
              Sys2Proof.Machine.exec .viewChange s = .next (nextHead x)) ∧
          (∀ nodes, r.nodes = some nodes → nodes ≠ own.nodes → ∀ op, headOp s = some op →
            ∃ w t, Withdrawn own (.reason .scope) none (headEvaluated r u) w ∧ Deferral (evaluated r op) .scope w t ∧
              Sys2Proof.Machine.exec .viewChange s = .next t) ∧
          (r.nodes = some own.nodes →
            ∃ t, Sys2Proof.Machine.exec .viewChange s = .next t ∧ Touches [.claims] (headEvaluated r u) t ∧
              t.claims = { u.claims with answers := t.claims.answers } ∧
              t.claims.answers.map (·.1) = concernedStations s own.nodes ∧
              ∀ j, j ∈ concernedStations s own.nodes →
                tableGet t.claims.answers j = some ((tableGet s.claims.answers j).getD .awaiting))))

/-- O45. The judgement at a window expiry, row by row: a grant when every answer is ASSENTED and no station of the
table SUSPECT; else a new round in rounds 1 and 2 with a CLAIM of the same id, its ASSENTED entries kept; else a
grant for a LOCAL operation under bypass; else a withdrawal with NO_ANSWER, the operation deferred, or FAILED beyond
the stall limit. A grant is handled by R130: REFUSED at the final evaluation, deferred NOT_READY with an unready
mechanism, each with the claim released without travel, and else the drive started under the HELD claim. The clock
at the deadline and the round 0 of a HELD claim are the model's choices (log 1, log 20). -/
def Obligations.WindowExpiriesAreJudged : Prop :=
  ∀ s : State, ∀ d, s.claims.window = some d → ∀ own, s.claims.own = some own → own.held = false →
    ∃ u : State, u = (s.withNow (max s.now d)).withClaims { s.claims with window := none } ∧
    ((AllAssented s ∨ (3 ≤ own.round ∧ own.source = .localPanel ∧ bypassHolds s = true)) →
      ∀ op, headOp s = some op →
      ∃ v t, Sys2Proof.Machine.exec .windowExpiry s = .next t ∧ Granted own u v ∧
        GrantHandled op { own with held := true, round := 0 } v t) ∧
    (¬ AllAssented s → own.round < 3 → claimsQueued s.link = [] → transmits s.start.phase = true →
      ∃ t, Sys2Proof.Machine.exec .windowExpiry s = .next t ∧
        t.claims = { u.claims with
          own := some { own with round := own.round + 1 }, answers := t.claims.answers } ∧
        t.claims.answers.map (·.1) = concernedStations s own.nodes ∧
        (∀ j, j ∈ concernedStations s own.nodes →
          tableGet t.claims.answers j = some ((tableGet s.claims.answers j).getD .awaiting)) ∧
        t.link.normal = s.link.normal ++ [.claim own.id (ownFrame s .claim 0
          (claimBody own.id (own.round + 1) own.cls own.deferCount own.holdLimit own.nodes)) 0 false] ∧
        t.link.urgent = s.link.urgent ∧ Touches [.claims, .link] u t) ∧
    (¬ AllAssented s → 3 ≤ own.round → (own.source = .remote ∨ bypassHolds s = false) → ∀ op, headOp s = some op →
      ∃ v t, Sys2Proof.Machine.exec .windowExpiry s = .next t ∧ Withdrawn own (.reason .noAnswer) none u v ∧
        Deferral op .noAnswer v t)

/-! ### The maintenance port (10) -/

/-- O46. The reads, while the exchange is IDLE: the bytes that complete a command frame are answered with OK, its
code and its data as they stand, the exchange becomes OUTSTANDING, and the node is otherwise as it was. The identity
is the vendor code 2,317, the part code 418 and the revision 3 in every phase; READ_OBJECT of an object that is not
configured is NO_OBJECT with the pending set and the relay; every data layout is that of R180. That NO_OBJECT
answers from an erase on is log 8. The body shown of a peer, the order of a list, the zeros of READ_CLAIMS and the
reading of bytes as they arrive are the model's (log 20, log 21); the value sent with FAULT and the rounding of a
time to hold expiry are free (log 5, log 6). -/
def Obligations.ReadsAnswerAtOnce : Prop :=
  ∀ (s : State) (bytes : List Byte), PortIdle s →
    (Arrives s 0x01 [] bytes → ∃ t, Sys2Proof.Machine.exec (.readIdentity bytes) s = .next t ∧
      Answered s t 0x01 0x00 [0x09, 0x0D, 0x01, 0xA2, 0x03]) ∧
    (Arrives s 0x02 [] bytes → ∃ t, Sys2Proof.Machine.exec (.readConfig bytes) s = .next t ∧
      (s.store.status = .none → Answered s t 0x02 0x00 [0, 0, 0]) ∧
      (∀ record, s.store.stored = some record →
        (s.store.status = .stored → Answered s t 0x02 0x00 ([1, 0, 0] ++ record)) ∧
        (s.store.status = .inForce → Answered s t 0x02 0x00 ([2, 0, 0] ++ record)) ∧
        (∀ p, s.store.failing = some p → s.store.status = .rejected →
          Answered s t 0x02 0x00 ([3, byteOf p.field, byteOf p.index] ++ record)))) ∧
    (∀ b : Byte, 1 ≤ b.toNat → b.toNat ≤ 63 → Arrives s 0x05 [b] bytes →
      ∃ t, Sys2Proof.Machine.exec (.readView bytes) s = .next t ∧
        (∀ c, ownContent s = some c → ownAddress s = b.toNat →
          Answered s t 0x05 0x00 ([4, 0, 0, 0] ++ statusBody c s.view.joining (ownClaimPart s))) ∧
        (s.copy = none → s.view.entries = [] → Answered s t 0x05 0x00 [0, 0, 0, 0]) ∧
        (ownAddress s ≠ b.toNat → entryOf s b.toNat = none →
          Answered s t 0x05 0x00 [0, 0, 0, standingByte s b.toNat]) ∧
        (ownAddress s ≠ b.toNat → ∀ e, entryOf s b.toNat = some e →
          Answered s t 0x05 0x00 ([entryStateCode e.state] ++ halfBytes (min (s.now - e.lastGood) 65535) ++
            [standingByte s b.toNat] ++ statusBody (contentAsRead e.state e.content) false none))) ∧
    (∀ b : Byte, 1 ≤ b.toNat → b.toNat ≤ 8 → Arrives s 0x06 [b] bytes →
      ∃ t, Sys2Proof.Machine.exec (.readObject bytes) s = .next t ∧
        ((objDesc s b.toNat = none ∨ s.store.status ≠ .inForce) →
          Answered s t 0x06 0x08 [s.faults.pending.setWidth 8, if s.faults.relay then 1 else 0]) ∧
        (∀ d, objDesc s b.toNat = some d → s.store.status = .inForce → ∃ (supply : List Byte) (temperature : Byte),
          supply.length = 2 ∧ (s.supply.valid = true → supply = halfBytes s.supply.value.toNat) ∧
          (s.temperature.valid = true → temperature = BitVec.ofInt 8 s.temperature.value) ∧
          Answered s t 0x06 0x00
            ([(if (objIn s b.toNat).openContact = d.openInverted then 0 else 2) +
                (if (objIn s b.toNat).closedContact = d.closedInverted then 0 else 1),
              ((objIn s b.toNat).qualified.map combCode).getD 0xFF, positionCode (objIn s b.toNat).position,
              if (objIn s b.toNat).readyContact = d.readyInverted then 2 else 1, readyCode (objIn s b.toNat).ready,
              if (objIn s b.toNat).commanded then 1 else 0] ++
              halfBytes ((objIn s b.toNat).intermediate.getD s.now - s.now) ++
              [s.faults.pending.setWidth 8, s.faults.holding.setWidth 8, if s.faults.relay then 1 else 0] ++
              (match s.drive.record with
                | none => [0, 0, 0, 0, 0, 0, 0, 0, 0, 0, 0, 0, 0, 0, 0]
                | some r =>
                  [1, byteOf r.object, directionCode r.dir, if r.kind = .motor then 1 else 2,
                    if r.settling then 2 else 1, if r.energized then 1 else 0, if r.departed then 1 else 0] ++
                    halfBytes (r.travel.getD s.now - s.now) ++ halfBytes (r.departure.getD s.now - s.now) ++
                    halfBytes (r.coilPulse.getD s.now - s.now) ++ halfBytes (r.settle.getD s.now - s.now)) ++
              [if s.drive.openOutputs.getLsbD (b.toNat - 1) then 1 else 0,
                if s.drive.closeOutputs.getLsbD (b.toNat - 1) then 1 else 0] ++
              supply ++ [if s.supply.valid then 0 else 1, temperature, if s.temperature.valid then 0 else 1] ++
              byteOf (s.req.queue.filter fun op => op.object == b.toNat).length ::
                (s.req.queue.filter fun op => op.object == b.toNat).flatMap fun op =>
                  [byteOf op.requester, op.tag, directionCode op.dir, byteOf op.cls,
                    if op.source = .remote then 1 else 2, opStateCode op.state, byteOf op.deferCount,
                    (op.lastDeferral.map reasonCode).getD 0] ++
                    halfBytes (op.travelLimit.getD 0 / 10) ++ [(op.bypassReason.map reasonCode).getD 0]))) ∧
    (Arrives s 0x07 [] bytes →
      ∃ t, Sys2Proof.Machine.exec (.readClaims bytes) s = .next t ∧ ∃ units : Nat → Nat,
        (∀ ms, 10 * units ms < ms + 10 ∧ ms < 10 * units ms + 10) ∧
        Answered s t 0x07 0x00
          ((match s.claims.own with
              | none => List.replicate 25 0
              | some c =>
                [if c.held then 2 else 1, c.id, byteOf c.cls, byteOf c.deferCount] ++ halfBytes c.holdLimit ++
                  nodeBytes c.nodes ++ [byteOf c.object, byteOf c.round, if s.claims.window.isSome then 1 else 0]) ++
            (byteOf s.claims.answers.length :: s.claims.answers.flatMap fun e =>
              [byteOf e.1, if e.2 = .awaiting then 1 else 2, ((entryState s e.1).map entryStateCode).getD 0]) ++
            (byteOf s.claims.foreign.length :: s.claims.foreign.flatMap fun e =>
              [byteOf e.1, e.2.id, byteOf e.2.cls, byteOf e.2.deferCount] ++ halfBytes e.2.holdLimit ++
                halfBytes (units (e.2.recorded + 10 * e.2.holdLimit - s.now)) ++
                [(if e.2.held then 1 else 0) + (if e.2.assented then 2 else 0)] ++ nodeBytes e.2.nodes) ++
            (match s.claims.lastEnding with
              | none => [0, 0, 0, 0]
              | some e =>
                [e.id, endCauseCode e.cause] ++
                  (e.objection.map fun o => [byteOf o.station, o.reason]).getD [0, 0]))) ∧
    (Arrives s 0x08 [] bytes → ∃ t, Sys2Proof.Machine.exec (.readCounters bytes) s = .next t ∧
      Answered s t 0x08 0x00 (halfBytes s.counters.headerErrors ++ halfBytes s.counters.bodyErrors ++
        halfBytes s.counters.overruns ++ halfBytes s.counters.txAbandoned ++ halfBytes s.counters.txDropped ++
        halfBytes s.counters.claimsGranted ++ halfBytes s.counters.claimsWithdrawn ++ halfBytes s.counters.opsDone ++
        halfBytes s.counters.opsFailed))

/-- O47. CLEAR_COUNTERS sets all nine counters to 0 in every phase, answers CLEARED and changes nothing else.
WRITE_CONFIG, ERASE_CONFIG and RESTART by the table of R175: CONFIGURED outside UNCONFIGURED; INVALID_FIELD with the
place, the store kept; ACCEPTED with the record STORED; BUSY for an erase in SELF_TEST and for both while the head
is driven; the departure in READY, with its FINAL STATUS asked for, the queue emptied, a CLAIMING claim dropped and
its CLAIM taken out of the normal queue, and no response yet; and at once ERASED with the store NONE, or RESTARTING,
in any other phase. That no record is in force from the erase on, while the blocks keep their copy, is the model's
reading of R6 and R14 (log 8), that a write and an erase end CONFIG_INVALID at once is log 28, and the reading of
bytes as they arrive is log 21. -/
def Obligations.CommandsThatChangeTheNode : Prop :=
  ∀ (s : State) (bytes : List Byte), PortIdle s →
    (Arrives s 0x09 [] bytes → ∃ t, Sys2Proof.Machine.exec (.clearCounters bytes) s = .next t ∧
      t.counters.headerErrors = 0 ∧ t.counters.bodyErrors = 0 ∧ t.counters.overruns = 0 ∧
      t.counters.txAbandoned = 0 ∧ t.counters.txDropped = 0 ∧ t.counters.claimsGranted = 0 ∧
      t.counters.claimsWithdrawn = 0 ∧ t.counters.opsDone = 0 ∧ t.counters.opsFailed = 0 ∧
      PortAnswers s t 0x09 0x04 [] ∧ Touches [.port, .counters] s t) ∧
    (∀ record : List Byte, record.length = 125 → Arrives s 0x03 record bytes →
      (s.start.phase ≠ .unconfigured →
        ∃ t, Sys2Proof.Machine.exec (.writeConfig bytes) s = .next t ∧ Answered s t 0x03 0x05 []) ∧
      (s.start.phase = .unconfigured → ∀ p, checkRecord record = some p →
        ∃ t, Sys2Proof.Machine.exec (.writeConfig bytes) s = .next t ∧
          Answered s t 0x03 0x06 [byteOf p.field, byteOf p.index]) ∧
      (s.start.phase = .unconfigured → checkRecord record = none →
        ∃ t, Sys2Proof.Machine.exec (.writeConfig bytes) s = .next t ∧
          t.store = { status := .stored, stored := some record, failing := none } ∧ PortAnswers s t 0x03 0x01 [] ∧
          t.faults = { s.faults with holding := s.faults.holding &&& ~~~ causeBit .configInvalid } ∧
          Touches [.port, .store, .faults] s t)) ∧
    (Arrives s 0x04 [] bytes →
      ((s.start.phase = .selfTest ∨ headDriven s = true) →
        ∃ t, Sys2Proof.Machine.exec (.eraseConfig bytes) s = .next t ∧ Answered s t 0x04 0x07 []) ∧
      (s.start.phase ≠ .selfTest → headDriven s = false →
        (s.start.phase = .ready →
          ∃ t, Sys2Proof.Machine.exec (.eraseConfig bytes) s = .next t ∧ DepartureBegun .erase 0x04 s t) ∧
        (s.start.phase ≠ .ready →
          ∃ t, Sys2Proof.Machine.exec (.eraseConfig bytes) s = .next t ∧
            t.store = { status := .none, stored := none, failing := none } ∧
            t.faults =
              { pending := s.faults.pending, holding := s.faults.holding &&& ~~~ causeBit .configInvalid
                relay := s.faults.pending != 0 } ∧
            PortAnswers s t 0x04 0x02 [] ∧ Touches [.port, .store, .faults] s t))) ∧
    (Arrives s 0x0A [] bytes →
      (headDriven s = true → ∃ t, Sys2Proof.Machine.exec (.restart bytes) s = .next t ∧ Answered s t 0x0A 0x07 []) ∧
      (headDriven s = false →
        (s.start.phase = .ready →
          ∃ t, Sys2Proof.Machine.exec (.restart bytes) s = .next t ∧ DepartureBegun .restart 0x0A s t) ∧
        (s.start.phase ≠ .ready →
          ∃ t, Sys2Proof.Machine.exec (.restart bytes) s = .next t ∧ Answered s t 0x0A 0x03 [])))

/-- O48. What the port turns away. A command received while the exchange is OUTSTANDING is discarded and owes a BUSY
with its code unless one is owed already; wrong arguments are answered BAD_ARGUMENT and an unknown code
UNKNOWN_COMMAND, each before it acts; bytes that do not complete a frame are gathered, with the moment of the last
of them; and a frame that is not completed, that fails its check or that is too long is discarded with no response.
The byte timeout comes when more than 20 ms have passed since the last byte gathered, and bytes gathered so long
before no longer count for those that follow. None of them changes anything else. How bytes reach a command is the
model's choice (log 21), and so is the clock at the timeout (log 1, log 30). -/
def Obligations.PortTurnsAway : Prop :=
  (∀ (s : State) (code : Byte) (args bytes : List Byte), Arrives s code args bytes → s.port.outstanding ≠ none →
    ∃ t, Sys2Proof.Machine.exec (portInstr code bytes) s = .next t ∧ Touches [.port] s t ∧
      t.port.outstanding = s.port.outstanding ∧ t.port.response = s.port.response ∧ t.port.gathered = [] ∧
      t.port.lastByte = none ∧
      (s.port.owedBusy = none → t.port.owedBusy = some code ∧
        (s.port.sending = none → ∃ x, t.port.sending = some x ∧ x.busy = true ∧
          x.bytes = responseBytes { code := code, status := 0x07, data := [] }) ∧
        (s.port.sending ≠ none → t.port.sending = s.port.sending)) ∧
      (s.port.owedBusy ≠ none → t.port = { s.port with gathered := [], lastByte := none })) ∧
  (∀ (s : State) (code : Byte) (args bytes : List Byte), PortIdle s → Arrives s code args bytes →
    (1 ≤ code.toNat → code.toNat ≤ 10 → argumentsWrong code args →
      ∃ t, Sys2Proof.Machine.exec (portInstr code bytes) s = .next t ∧ Answered s t code 0x0A []) ∧
    ((code = 0 ∨ 10 < code.toNat) →
      ∃ t, Sys2Proof.Machine.exec (portInstr code bytes) s = .next t ∧ Answered s t code 0x09 [])) ∧
  (∀ (s : State) (code : Byte) (args bytes rest : List Byte), args.length ≤ 125 → rest ≠ [] →
    standingBytes s ++ bytes ++ rest = uncheckedFrame code args ++ frameCheck code args →
    ∃ t, Sys2Proof.Machine.exec (portInstr code bytes) s = .next t ∧
      t.port = { s.port with
        gathered := standingBytes s ++ bytes
        lastByte := if bytes ≠ [] then some s.now else if standingBytes s = [] then none else s.port.lastByte } ∧
      Touches [.port] s t) ∧
  (∀ (s : State) (code : Byte) (args check bytes : List Byte), args.length ≤ 125 → check.length = 2 →
    check ≠ frameCheck code args → standingBytes s ++ bytes = uncheckedFrame code args ++ check →
    ∃ t, Sys2Proof.Machine.exec (.portFrameCheckFailed bytes) s = .next t ∧
      t.port = { s.port with gathered := [], lastByte := none } ∧ Touches [.port] s t) ∧
  (∀ (s : State) (code length : Byte) (bytes : List Byte), 125 < length.toNat →
    standingBytes s ++ bytes = [0x7E, code, length] →
    ∃ t, Sys2Proof.Machine.exec (.portArgumentLengthExceeded bytes) s = .next t ∧
      t.port = { s.port with gathered := [], lastByte := none } ∧ Touches [.port] s t) ∧
  (∀ s : State, ∃ t, Sys2Proof.Machine.exec .portCharacterError s = .next t ∧
    t.port = { s.port with gathered := [], lastByte := none } ∧ Touches [.port] s t) ∧
  (∀ s : State, (s.port.lastByte = none → Sys2Proof.Machine.exec .portByteTimeout s = .next s) ∧
    ∀ b, s.port.lastByte = some b →
      ∃ t, Sys2Proof.Machine.exec .portByteTimeout s = .next t ∧ t.now = max s.now (b + 21) ∧
        t.port = { s.port with gathered := [], lastByte := none } ∧ Touches [.now, .port] s t)

/-- O49. The end of a response: an owed BUSY that has been sent is no longer owed and the outstanding command's
response follows; the outstanding response makes the exchange IDLE, an owed BUSY following, or restarts the node
with cause PORT_RESTART after ACCEPTED, ERASED and RESTARTING, the counters and the store kept. -/
def Obligations.ResponsesEnd : Prop :=
  ∀ s : State, ∀ x, s.port.sending = some x →
    (x.busy = true →
      ∃ t, Sys2Proof.Machine.exec .responseSent s = .next t ∧ Touches [.port] s t ∧ t.port.owedBusy = none ∧
        t.port.outstanding = s.port.outstanding ∧ t.port.response = s.port.response ∧
        t.port.gathered = s.port.gathered ∧ t.port.lastByte = s.port.lastByte ∧
        t.port.sending = s.port.response.map fun r => { busy := false, bytes := responseBytes r }) ∧
    (x.busy = false → ∀ r, s.port.response = some r →
      ((r.status ≠ 0x01 ∧ r.status ≠ 0x02 ∧ r.status ≠ 0x03) →
        ∃ t, Sys2Proof.Machine.exec .responseSent s = .next t ∧ Touches [.port] s t ∧ t.port.outstanding = none ∧
          t.port.response = none ∧ t.port.owedBusy = s.port.owedBusy ∧ t.port.gathered = s.port.gathered ∧
          t.port.lastByte = s.port.lastByte ∧
          t.port.sending = s.port.owedBusy.map fun code =>
            { busy := true, bytes := responseBytes { code := code, status := 0x07, data := [] } }) ∧
      ((r.status = 0x01 ∨ r.status = 0x02 ∨ r.status = 0x03) →
        ∃ t, Sys2Proof.Machine.exec .responseSent s = .next t ∧
          t.start = { phase := .selfTest, cause := .portRestart, listen := none, announce := none, departure := none } ∧
          t.store = s.store ∧ t.counters = s.counters ∧ t.copy = none ∧ t.drive.record = none ∧
          t.drive.openOutputs = 0 ∧ t.drive.closeOutputs = 0 ∧ t.faults.relay = false ∧ t.faults.pending = 0 ∧
          t.claims.own = none ∧ t.claims.foreign = [] ∧ t.req.queue = [] ∧ t.view.entries = [] ∧
          t.port.outstanding = none ∧ t.port.sending = none ∧ t.port.owedBusy = none ∧ t.port.gathered = [] ∧
          t.port.lastByte = none))

/-! ### Evaluation (05) -/

/-- O50. The partitions of R84: two points are in one component exactly when a chain of edges joins them (FIRM edges
alone for the firm partition), every point is in exactly one component, a firm component lies within one loose one,
and a point that no edge touches is alone. -/
def Obligations.ComponentsAreChains : Prop :=
  ∀ (edges : List Edge) (p q : Point),
    (q ∈ looseComponent edges p ↔ Chained edges p q) ∧
    (q ∈ firmComponent edges p ↔ Chained (edges.filter (·.firm)) p q) ∧
    p ∈ looseComponent edges p ∧ p ∈ firmComponent edges p ∧
    (q ∈ looseComponent edges p → ∀ r, r ∈ looseComponent edges q ↔ r ∈ looseComponent edges p) ∧
    (q ∈ firmComponent edges p → ∀ r, r ∈ firmComponent edges q ↔ r ∈ firmComponent edges p) ∧
    (q ∈ firmComponent edges p → q ∈ looseComponent edges p) ∧
    (untouched edges p → (q ∈ looseComponent edges p ↔ q = p) ∧ (q ∈ firmComponent edges p ↔ q = p))

/-- O51. What an evaluation reads and what it answers. The edges are those of the counted DS and CB, by the position
each is read at, UNKNOWN in a STALE entry; LIVE, EARTHED, the firm joint and the yard nodes reached are taken along
chains of them from the object's terminals; a station is MISSING when it is expected and its entry ABSENT. Then the
verdicts, test by test: the missing-station test first, the tests of the object's kind and direction in their order,
a refusal becoming PERMITTED_BYPASS where the bypass admits it; the claim set is the yard nodes reached, and REFUSED
carries none. -/
def Obligations.VerdictsFollowTheTables : Prop :=
  ∀ (s : State) (k : Nat) (dir : Direction) (source : Source), ∀ d, objDesc s k = some d →
    ∀ a, pointOf (ownAddress s) d.term1 = some a →
    (∀ e, e ∈ edgesFor s k ↔ EdgeOf s k e) ∧
    ((factsFor s k d a).firmJoined = true ↔
      ∃ b, secondPoint s d = some b ∧ Chained ((edgesFor s k).filter (·.firm)) a b) ∧
    ((factsFor s k d a).liveA = true ↔ LiveAt s k a) ∧
    ((factsFor s k d a).liveB = true ↔ ∃ b, secondPoint s d = some b ∧ LiveAt s k b) ∧
    ((factsFor s k d a).earthedA = true ↔ EarthedAt s k a) ∧
    ((factsFor s k d a).earthedB = true ↔ ∃ b, secondPoint s d = some b ∧ EarthedAt s k b) ∧
    (∀ n, nodesHave (reachedNodes s k d a) n = true ↔
      1 ≤ n ∧ n ≤ 127 ∧ (Chained (edgesFor s k) a (.yard n) ∨
        ∃ b, secondPoint s d = some b ∧ Chained (edgesFor s k) b (.yard n))) ∧
    (missingRefuses s k d a = true ↔
      (∃ r j, s.copy = some r ∧ 1 ≤ j ∧ j ≤ 63 ∧ r.expected.getLsbD j = true ∧ entryOf s j = none) ∧
        ∃ n, nodesHave (reachedNodes s k d a) n = true) ∧
    (syncAsserted s = true ↔ s.singles.synchro.qualified = some true) ∧
    (bypassAdmits s source = true ↔ source = .localPanel ∧ bypassKeyOf s = .on ∧ selectorOf s = .localMode) ∧
    (missingRefuses s k d a = true → RefusedFor s k d a dir source .missingStation) ∧
    (missingRefuses s k d a = false →
      (d.kind = .ds →
        ((factsFor s k d a).firmJoined = true → PermittedOn s k d a dir source .parallel) ∧
        ((factsFor s k d a).firmJoined = false →
          ((factsFor s k d a).liveA = true → (factsFor s k d a).liveB = true →
            RefusedFor s k d a dir source .bothLive) ∧
          (((factsFor s k d a).liveA = false ∨ (factsFor s k d a).liveB = false) →
            (liveFacesEarth (factsFor s k d a) = true → RefusedFor s k d a dir source .liveToEarth) ∧
            (liveFacesEarth (factsFor s k d a) = false → PermittedOn s k d a dir source .oneSideDead)))) ∧
      (d.kind = .cb → dir = .toClose →
        ((factsFor s k d a).firmJoined = true → PermittedOn s k d a dir source .loop) ∧
        ((factsFor s k d a).firmJoined = false →
          (liveFacesEarth (factsFor s k d a) = true → RefusedFor s k d a dir source .liveToEarth) ∧
          (liveFacesEarth (factsFor s k d a) = false →
            ((factsFor s k d a).liveA = true → (factsFor s k d a).liveB = true →
              (syncAsserted s = true → PermittedOn s k d a dir source .sync) ∧
              (syncAsserted s = false → RefusedFor s k d a dir source .noSync)) ∧
            (((factsFor s k d a).liveA = false ∨ (factsFor s k d a).liveB = false) →
              PermittedOn s k d a dir source .oneSideDead)))) ∧
      (d.kind = .es → dir = .toClose →
        ((factsFor s k d a).liveA = true → RefusedFor s k d a dir source .liveNode) ∧
        ((factsFor s k d a).liveA = false → PermittedOn s k d a dir source .dead)) ∧
      (d.kind ≠ .ds → dir = .toOpen → PermittedOn s k d a dir source .noCondition))

/-! ### The travel limit (08) -/

/-- O52. Steps 1 to 4 of the travel limit. A supply in FAULT is 80 %, a valid one is floor(Vm × 10 / Vn), UNRATED
below 80 and 110 above it; a temperature in FAULT is −40 °C, a valid one is UNRATED below −40 and +20 above it (the
model counts it from −40). The derating between rows and columns is the weighted sum of the four cells over 150,
rounded up, at most 250, the cell itself on a row and a column, and UNRATED when any of the four is. -/
def Obligations.DeratingInterpolates : Prop :=
  (∀ (m : MeasureIn) (nominal : Nat), 24 ≤ nominal → nominal ≤ 250 →
    (m.valid = false → supplyPercent m nominal = some 80) ∧
    (∀ v : Nat, m.value = (v : Int) → m.valid = true →
      (v * 10 / nominal < 80 → supplyPercent m nominal = none) ∧
      (110 < v * 10 / nominal → supplyPercent m nominal = some 110) ∧
      (80 ≤ v * 10 / nominal → v * 10 / nominal ≤ 110 → supplyPercent m nominal = some (v * 10 / nominal)))) ∧
  (∀ m : MeasureIn,
    (m.valid = false → temperatureAbove m = some 0) ∧
    (m.valid = true →
      (m.value < -40 → temperatureAbove m = none) ∧ (20 < m.value → temperatureAbove m = some 60) ∧
      (∀ t : Nat, m.value = (t : Int) - 40 → t ≤ 60 → temperatureAbove m = some t))) ∧
  ∀ (profile : Profile) (row col a b : Nat), row ≤ 2 → col ≤ 3 → (a < 10 ∨ (a = 10 ∧ row = 2)) →
    (b < 15 ∨ (b = 15 ∧ col = 3)) →
    (∀ d00, cellAt profile row col = some d00 → ∀ d10, cellAt profile (row + 1) col = some d10 →
      ∀ d01, cellAt profile row (col + 1) = some d01 → ∀ d11, cellAt profile (row + 1) (col + 1) = some d11 →
      ∃ d, derating profile (80 + 10 * row + a) (15 * col + b) = some d ∧
        d00 * (10 - a) * (15 - b) + d10 * a * (15 - b) + d01 * (10 - a) * b + d11 * a * b ≤ 150 * d ∧
        150 * d < d00 * (10 - a) * (15 - b) + d10 * a * (15 - b) + d01 * (10 - a) * b + d11 * a * b + 150 ∧
        (d00 ≤ 250 → d10 ≤ 250 → d01 ≤ 250 → d11 ≤ 250 → d ≤ 250) ∧ (a = 0 → b = 0 → d = d00)) ∧
    ((cellAt profile row col = none ∨ cellAt profile (row + 1) col = none ∨ cellAt profile row (col + 1) = none ∨
        cellAt profile (row + 1) (col + 1) = none) →
      derating profile (80 + 10 * row + a) (15 * col + b) = none)

/-- O53. Steps 5 and 6: the travel limit is the base time lengthened by the derating, rounded up to 10 ms and at
most 65,000 ms, and never below the base time; the departure limit is its half rounded up to 10 ms, and is shorter
than it; the limits lie in the ranges that the manual tabulates, the hold limit among them. -/
def Obligations.TravelLimitsAreBounded : Prop :=
  ∀ base d settle : Nat, base % 10 = 0 → 20 ≤ base → base ≤ 30000 → d ≤ 250 → 50 ≤ settle → settle ≤ 1000 →
    (∃ c, base * (100 + d) ≤ 1000 * c ∧ 1000 * c < base * (100 + d) + 1000 ∧ travelFrom base d = min (c * 10) 65000) ∧
      base ≤ travelFrom base d ∧ travelFrom base d ≤ 65000 ∧ travelFrom base d % 10 = 0 ∧
      (∃ c, travelFrom base d ≤ 20 * c ∧ 20 * c < travelFrom base d + 20 ∧
        departureLimit (travelFrom base d) = c * 10) ∧
      10 ≤ departureLimit (travelFrom base d) ∧ departureLimit (travelFrom base d) ≤ 32500 ∧
      departureLimit (travelFrom base d) < travelFrom base d ∧
      holdLimitOf (travelFrom base d) settle = (travelFrom base d + settle + 2000) / 10 ∧
      207 ≤ holdLimitOf (travelFrom base d) settle ∧ holdLimitOf (travelFrom base d) settle ≤ 6800 ∧
      travelFrom 20 0 = 20 ∧ travelFrom 30000 250 = 65000

/-! ### What a STATUS and a CLAIM carry (11) -/

/-- O54. The bodies that the node publishes are read back whole by its own checks of a received body: the content of
a STATUS, its JOINING bit, its claim part and its length; and a CLAIM in every round. And no other bodies pass: a
STATUS exactly when its bytes meet the nine checks of R66, its claim part exactly when its state is CLAIMING or HELD
and its fields are in the ranges of R97, a CLAIM exactly when its round is 1 to 3 and its fields are in those ranges
(R110). That a byte or bit which no check names is not looked at, and that a claim part out of range counts as no
claim, are the model's readings (log 19, log 25). -/
def Obligations.PublishedBodiesReadBack : Prop :=
  (∀ (c : Content) (joining : Bool), Publishable c →
    parseStatus (statusBody c joining none) = some c ∧ parseClaimPart (statusBody c joining none) = none ∧
      statusJoining (statusBody c joining none) = joining ∧
      lengthPermitted .status (statusBody c joining none) = true ∧ (statusBody c joining none).length ≤ 96) ∧
  (∀ (c : Content) (joining : Bool) (p : ClaimPart), Publishable c → ClaimInRange p →
    parseStatus (statusBody c joining (some p)) = some c ∧ parseClaimPart (statusBody c joining (some p)) = some p ∧
      statusJoining (statusBody c joining (some p)) = joining ∧
      lengthPermitted .status (statusBody c joining (some p)) = true ∧ (statusBody c joining (some p)).length ≤ 96) ∧
  (∀ (p : ClaimPart) (round : Nat), ClaimInRange p → p.held = false → 1 ≤ round → round ≤ 3 →
    parseClaim (claimBody p.id round p.cls p.deferCount p.holdLimit p.nodes) = some p ∧
      lengthPermitted .claim (claimBody p.id round p.cls p.deferCount p.holdLimit p.nodes) = true) ∧
  ∀ (body : List Byte) (n m : Nat), n = natAt body 8 → m = natAt body (9 + 4 * n) →
    (parseStatus body ≠ none ↔ StatusOk body n m) ∧
    (parseClaimPart body ≠ none ↔
      (natAt body (10 + 4 * n + 2 * m) = 1 ∨ natAt body (10 + 4 * n + 2 * m) = 2) ∧
        ClaimFieldsOk body (12 + 4 * n + 2 * m)) ∧
    (parseClaim body ≠ none ↔ 1 ≤ natAt body 1 ∧ natAt body 1 ≤ 3 ∧ ClaimFieldsOk body 2)

/-! ### Invariants -/

/-- O55. The state after reset satisfies every invariant below. -/
def Obligations.ResetStateIsSafe : Prop :=
  Safe State.reset ∧ PositionsFollowCombinations State.reset ∧ TimersFollowStates State.reset ∧
    DriveFollowsContacts State.reset

/-- O56. Every step keeps the blocks' copy of the record from entry to LISTEN until the next reset, the relay
energized exactly while a pending flag belongs to an enabled cause, and TRAVEL_FAIL, a cause of the event type,
without a condition that holds. That the copy outlives an erase, while the relay follows all five causes from then
on, is the model's reading (log 8). -/
def Obligations.StepsKeepTheRelay : Prop :=
  ∀ s t : State, Sys2Proof.Machine.step s = .next t →
    (CopyFollowsPhase s → CopyFollowsPhase t) ∧ (CopyFollowsPhase s → RelayFollowsFlags s → RelayFollowsFlags t) ∧
      (NoTravelCondition s → NoTravelCondition t)

/-- O57. Every step keeps one entry a key in every table, the queues of the yard link within their places, every
counter within its range, and the request queue within field 4, empty before READY and while a departure is pending,
and with driven operations alone in SILENT. It keeps the moment of a last byte exactly while bytes of a port frame
are gathered. It keeps the current frame the one that R47 chooses, with its k as long as it stays current, an
attempt's frame at the head of its queue, and no frame waiting in a phase that does not transmit. -/
def Obligations.StepsKeepTablesQueuesAndCounters : Prop :=
  ∀ s t : State, Sys2Proof.Machine.step s = .next t →
    (TablesOk s → TablesOk t) ∧ (QueuesBounded s.link → QueuesBounded t.link) ∧
      (LinkCoherent s → LinkCoherent t ∧ KeepsWait s.link t.link) ∧
      (CountersBounded s.counters → CountersBounded t.counters) ∧ (GapFollowsBytes s.port → GapFollowsBytes t.port) ∧
      (DriveCoherent s → QueueFits s → QueueFits t)

/-- O58. The law of R113: every step keeps the own claim clear of every ASSENTED foreign record. -/
def Obligations.StepsKeepPromises : Prop :=
  ∀ s t : State, PromisesKept s → Sys2Proof.Machine.step s = .next t → PromisesKept t

/-- O59. Every step keeps the head operation, the own claim, the drive record, the outputs and the commanded flags
in agreement, and the answer table, the claim window and the defer timer with them. The drive record follows its
object's contacts: departure seen with its timer, and the combinations of its stages. -/
def Obligations.StepsKeepDriveCoherent : Prop :=
  ∀ s t : State, DriveCoherent s → TimersFollowStates s → Sys2Proof.Machine.step s = .next t →
    DriveCoherent t ∧ TimersFollowStates t ∧ (DriveFollowsContacts s → DriveFollowsContacts t)

/-- O60. In a coherent state at most one drive output is energized, and only while the head operation is TRAVELLING
and the own claim is HELD. -/
def Obligations.CoherentStatesEnergizeOneOutput : Prop := ∀ s : State, DriveCoherent s → OneOutput s
end

