-- ==== Sys2Proof/Laws/State.lean ====
section
/-! SUPPORT. One lemma for each field under each block update, true by definition, so that no proof unfolds a record
update; and a state is its updates' last word. -/

namespace Sys2Proof.Machine

variable (s : State)

/-! The update of `now`. -/

@[simp] theorem State.withNow_now (x : Nat) : (s.withNow x).now = x := rfl
@[simp] theorem State.withNow_store (x : Nat) : (s.withNow x).store = s.store := rfl
@[simp] theorem State.withNow_copy (x : Nat) : (s.withNow x).copy = s.copy := rfl
@[simp] theorem State.withNow_objects (x : Nat) : (s.withNow x).objects = s.objects := rfl
@[simp] theorem State.withNow_sensors (x : Nat) : (s.withNow x).sensors = s.sensors := rfl
@[simp] theorem State.withNow_singles (x : Nat) : (s.withNow x).singles = s.singles := rfl
@[simp] theorem State.withNow_supply (x : Nat) : (s.withNow x).supply = s.supply := rfl
@[simp] theorem State.withNow_temperature (x : Nat) : (s.withNow x).temperature = s.temperature := rfl
@[simp] theorem State.withNow_faults (x : Nat) : (s.withNow x).faults = s.faults := rfl
@[simp] theorem State.withNow_link (x : Nat) : (s.withNow x).link = s.link := rfl
@[simp] theorem State.withNow_view (x : Nat) : (s.withNow x).view = s.view := rfl
@[simp] theorem State.withNow_claims (x : Nat) : (s.withNow x).claims = s.claims := rfl
@[simp] theorem State.withNow_req (x : Nat) : (s.withNow x).req = s.req := rfl
@[simp] theorem State.withNow_drive (x : Nat) : (s.withNow x).drive = s.drive := rfl
@[simp] theorem State.withNow_start (x : Nat) : (s.withNow x).start = s.start := rfl
@[simp] theorem State.withNow_port (x : Nat) : (s.withNow x).port = s.port := rfl
@[simp] theorem State.withNow_counters (x : Nat) : (s.withNow x).counters = s.counters := rfl
@[simp] theorem State.withNow_handover (x : Nat) : (s.withNow x).handover = s.handover := rfl
@[simp] theorem State.withNow_pending (x : Nat) : (s.withNow x).pending = s.pending := rfl
@[simp] theorem State.withNow_twice (x y : Nat) : (s.withNow x).withNow y = s.withNow y := rfl
@[simp] theorem State.withNow_self : s.withNow s.now = s := rfl

/-! The update of `store`. -/

@[simp] theorem State.withStore_now (x : Store) : (s.withStore x).now = s.now := rfl
@[simp] theorem State.withStore_store (x : Store) : (s.withStore x).store = x := rfl
@[simp] theorem State.withStore_copy (x : Store) : (s.withStore x).copy = s.copy := rfl
@[simp] theorem State.withStore_objects (x : Store) : (s.withStore x).objects = s.objects := rfl
@[simp] theorem State.withStore_sensors (x : Store) : (s.withStore x).sensors = s.sensors := rfl
@[simp] theorem State.withStore_singles (x : Store) : (s.withStore x).singles = s.singles := rfl
@[simp] theorem State.withStore_supply (x : Store) : (s.withStore x).supply = s.supply := rfl
@[simp] theorem State.withStore_temperature (x : Store) : (s.withStore x).temperature = s.temperature := rfl
@[simp] theorem State.withStore_faults (x : Store) : (s.withStore x).faults = s.faults := rfl
@[simp] theorem State.withStore_link (x : Store) : (s.withStore x).link = s.link := rfl
@[simp] theorem State.withStore_view (x : Store) : (s.withStore x).view = s.view := rfl
@[simp] theorem State.withStore_claims (x : Store) : (s.withStore x).claims = s.claims := rfl
@[simp] theorem State.withStore_req (x : Store) : (s.withStore x).req = s.req := rfl
@[simp] theorem State.withStore_drive (x : Store) : (s.withStore x).drive = s.drive := rfl
@[simp] theorem State.withStore_start (x : Store) : (s.withStore x).start = s.start := rfl
@[simp] theorem State.withStore_port (x : Store) : (s.withStore x).port = s.port := rfl
@[simp] theorem State.withStore_counters (x : Store) : (s.withStore x).counters = s.counters := rfl
@[simp] theorem State.withStore_handover (x : Store) : (s.withStore x).handover = s.handover := rfl
@[simp] theorem State.withStore_pending (x : Store) : (s.withStore x).pending = s.pending := rfl
@[simp] theorem State.withStore_twice (x y : Store) : (s.withStore x).withStore y = s.withStore y := rfl
@[simp] theorem State.withStore_self : s.withStore s.store = s := rfl

/-! The update of `copy`. -/

@[simp] theorem State.withCopy_now (x : Option BayRecord) : (s.withCopy x).now = s.now := rfl
@[simp] theorem State.withCopy_store (x : Option BayRecord) : (s.withCopy x).store = s.store := rfl
@[simp] theorem State.withCopy_copy (x : Option BayRecord) : (s.withCopy x).copy = x := rfl
@[simp] theorem State.withCopy_objects (x : Option BayRecord) : (s.withCopy x).objects = s.objects := rfl
@[simp] theorem State.withCopy_sensors (x : Option BayRecord) : (s.withCopy x).sensors = s.sensors := rfl
@[simp] theorem State.withCopy_singles (x : Option BayRecord) : (s.withCopy x).singles = s.singles := rfl
@[simp] theorem State.withCopy_supply (x : Option BayRecord) : (s.withCopy x).supply = s.supply := rfl
@[simp] theorem State.withCopy_temperature (x : Option BayRecord) : (s.withCopy x).temperature = s.temperature := rfl
@[simp] theorem State.withCopy_faults (x : Option BayRecord) : (s.withCopy x).faults = s.faults := rfl
@[simp] theorem State.withCopy_link (x : Option BayRecord) : (s.withCopy x).link = s.link := rfl
@[simp] theorem State.withCopy_view (x : Option BayRecord) : (s.withCopy x).view = s.view := rfl
@[simp] theorem State.withCopy_claims (x : Option BayRecord) : (s.withCopy x).claims = s.claims := rfl
@[simp] theorem State.withCopy_req (x : Option BayRecord) : (s.withCopy x).req = s.req := rfl
@[simp] theorem State.withCopy_drive (x : Option BayRecord) : (s.withCopy x).drive = s.drive := rfl
@[simp] theorem State.withCopy_start (x : Option BayRecord) : (s.withCopy x).start = s.start := rfl
@[simp] theorem State.withCopy_port (x : Option BayRecord) : (s.withCopy x).port = s.port := rfl
@[simp] theorem State.withCopy_counters (x : Option BayRecord) : (s.withCopy x).counters = s.counters := rfl
@[simp] theorem State.withCopy_handover (x : Option BayRecord) : (s.withCopy x).handover = s.handover := rfl
@[simp] theorem State.withCopy_pending (x : Option BayRecord) : (s.withCopy x).pending = s.pending := rfl
@[simp] theorem State.withCopy_twice (x y : Option BayRecord) : (s.withCopy x).withCopy y = s.withCopy y := rfl
@[simp] theorem State.withCopy_self : s.withCopy s.copy = s := rfl

/-! The update of `objects`. -/

@[simp] theorem State.withObjects_now (x : Table ObjIn) : (s.withObjects x).now = s.now := rfl
@[simp] theorem State.withObjects_store (x : Table ObjIn) : (s.withObjects x).store = s.store := rfl
@[simp] theorem State.withObjects_copy (x : Table ObjIn) : (s.withObjects x).copy = s.copy := rfl
@[simp] theorem State.withObjects_objects (x : Table ObjIn) : (s.withObjects x).objects = x := rfl
@[simp] theorem State.withObjects_sensors (x : Table ObjIn) : (s.withObjects x).sensors = s.sensors := rfl
@[simp] theorem State.withObjects_singles (x : Table ObjIn) : (s.withObjects x).singles = s.singles := rfl
@[simp] theorem State.withObjects_supply (x : Table ObjIn) : (s.withObjects x).supply = s.supply := rfl
@[simp] theorem State.withObjects_temperature (x : Table ObjIn) : (s.withObjects x).temperature = s.temperature := rfl
@[simp] theorem State.withObjects_faults (x : Table ObjIn) : (s.withObjects x).faults = s.faults := rfl
@[simp] theorem State.withObjects_link (x : Table ObjIn) : (s.withObjects x).link = s.link := rfl
@[simp] theorem State.withObjects_view (x : Table ObjIn) : (s.withObjects x).view = s.view := rfl
@[simp] theorem State.withObjects_claims (x : Table ObjIn) : (s.withObjects x).claims = s.claims := rfl
@[simp] theorem State.withObjects_req (x : Table ObjIn) : (s.withObjects x).req = s.req := rfl
@[simp] theorem State.withObjects_drive (x : Table ObjIn) : (s.withObjects x).drive = s.drive := rfl
@[simp] theorem State.withObjects_start (x : Table ObjIn) : (s.withObjects x).start = s.start := rfl
@[simp] theorem State.withObjects_port (x : Table ObjIn) : (s.withObjects x).port = s.port := rfl
@[simp] theorem State.withObjects_counters (x : Table ObjIn) : (s.withObjects x).counters = s.counters := rfl
@[simp] theorem State.withObjects_handover (x : Table ObjIn) : (s.withObjects x).handover = s.handover := rfl
@[simp] theorem State.withObjects_pending (x : Table ObjIn) : (s.withObjects x).pending = s.pending := rfl
@[simp] theorem State.withObjects_twice (x y : Table ObjIn) : (s.withObjects x).withObjects y = s.withObjects y := rfl
@[simp] theorem State.withObjects_self : s.withObjects s.objects = s := rfl

/-! The update of `sensors`. -/

@[simp] theorem State.withSensors_now (x : Table SensorIn) : (s.withSensors x).now = s.now := rfl
@[simp] theorem State.withSensors_store (x : Table SensorIn) : (s.withSensors x).store = s.store := rfl
@[simp] theorem State.withSensors_copy (x : Table SensorIn) : (s.withSensors x).copy = s.copy := rfl
@[simp] theorem State.withSensors_objects (x : Table SensorIn) : (s.withSensors x).objects = s.objects := rfl
@[simp] theorem State.withSensors_sensors (x : Table SensorIn) : (s.withSensors x).sensors = x := rfl
@[simp] theorem State.withSensors_singles (x : Table SensorIn) : (s.withSensors x).singles = s.singles := rfl
@[simp] theorem State.withSensors_supply (x : Table SensorIn) : (s.withSensors x).supply = s.supply := rfl
@[simp] theorem State.withSensors_temperature (x : Table SensorIn) : (s.withSensors x).temperature = s.temperature := rfl
@[simp] theorem State.withSensors_faults (x : Table SensorIn) : (s.withSensors x).faults = s.faults := rfl
@[simp] theorem State.withSensors_link (x : Table SensorIn) : (s.withSensors x).link = s.link := rfl
@[simp] theorem State.withSensors_view (x : Table SensorIn) : (s.withSensors x).view = s.view := rfl
@[simp] theorem State.withSensors_claims (x : Table SensorIn) : (s.withSensors x).claims = s.claims := rfl
@[simp] theorem State.withSensors_req (x : Table SensorIn) : (s.withSensors x).req = s.req := rfl
@[simp] theorem State.withSensors_drive (x : Table SensorIn) : (s.withSensors x).drive = s.drive := rfl
@[simp] theorem State.withSensors_start (x : Table SensorIn) : (s.withSensors x).start = s.start := rfl
@[simp] theorem State.withSensors_port (x : Table SensorIn) : (s.withSensors x).port = s.port := rfl
@[simp] theorem State.withSensors_counters (x : Table SensorIn) : (s.withSensors x).counters = s.counters := rfl
@[simp] theorem State.withSensors_handover (x : Table SensorIn) : (s.withSensors x).handover = s.handover := rfl
@[simp] theorem State.withSensors_pending (x : Table SensorIn) : (s.withSensors x).pending = s.pending := rfl
@[simp] theorem State.withSensors_twice (x y : Table SensorIn) : (s.withSensors x).withSensors y = s.withSensors y := rfl
@[simp] theorem State.withSensors_self : s.withSensors s.sensors = s := rfl

/-! The update of `singles`. -/

@[simp] theorem State.withSingles_now (x : Singles) : (s.withSingles x).now = s.now := rfl
@[simp] theorem State.withSingles_store (x : Singles) : (s.withSingles x).store = s.store := rfl
@[simp] theorem State.withSingles_copy (x : Singles) : (s.withSingles x).copy = s.copy := rfl
@[simp] theorem State.withSingles_objects (x : Singles) : (s.withSingles x).objects = s.objects := rfl
@[simp] theorem State.withSingles_sensors (x : Singles) : (s.withSingles x).sensors = s.sensors := rfl
@[simp] theorem State.withSingles_singles (x : Singles) : (s.withSingles x).singles = x := rfl
@[simp] theorem State.withSingles_supply (x : Singles) : (s.withSingles x).supply = s.supply := rfl
@[simp] theorem State.withSingles_temperature (x : Singles) : (s.withSingles x).temperature = s.temperature := rfl
@[simp] theorem State.withSingles_faults (x : Singles) : (s.withSingles x).faults = s.faults := rfl
@[simp] theorem State.withSingles_link (x : Singles) : (s.withSingles x).link = s.link := rfl
@[simp] theorem State.withSingles_view (x : Singles) : (s.withSingles x).view = s.view := rfl
@[simp] theorem State.withSingles_claims (x : Singles) : (s.withSingles x).claims = s.claims := rfl
@[simp] theorem State.withSingles_req (x : Singles) : (s.withSingles x).req = s.req := rfl
@[simp] theorem State.withSingles_drive (x : Singles) : (s.withSingles x).drive = s.drive := rfl
@[simp] theorem State.withSingles_start (x : Singles) : (s.withSingles x).start = s.start := rfl
@[simp] theorem State.withSingles_port (x : Singles) : (s.withSingles x).port = s.port := rfl
@[simp] theorem State.withSingles_counters (x : Singles) : (s.withSingles x).counters = s.counters := rfl
@[simp] theorem State.withSingles_handover (x : Singles) : (s.withSingles x).handover = s.handover := rfl
@[simp] theorem State.withSingles_pending (x : Singles) : (s.withSingles x).pending = s.pending := rfl
@[simp] theorem State.withSingles_twice (x y : Singles) : (s.withSingles x).withSingles y = s.withSingles y := rfl
@[simp] theorem State.withSingles_self : s.withSingles s.singles = s := rfl

/-! The update of `supply`. -/

@[simp] theorem State.withSupply_now (x : MeasureIn) : (s.withSupply x).now = s.now := rfl
@[simp] theorem State.withSupply_store (x : MeasureIn) : (s.withSupply x).store = s.store := rfl
@[simp] theorem State.withSupply_copy (x : MeasureIn) : (s.withSupply x).copy = s.copy := rfl
@[simp] theorem State.withSupply_objects (x : MeasureIn) : (s.withSupply x).objects = s.objects := rfl
@[simp] theorem State.withSupply_sensors (x : MeasureIn) : (s.withSupply x).sensors = s.sensors := rfl
@[simp] theorem State.withSupply_singles (x : MeasureIn) : (s.withSupply x).singles = s.singles := rfl
@[simp] theorem State.withSupply_supply (x : MeasureIn) : (s.withSupply x).supply = x := rfl
@[simp] theorem State.withSupply_temperature (x : MeasureIn) : (s.withSupply x).temperature = s.temperature := rfl
@[simp] theorem State.withSupply_faults (x : MeasureIn) : (s.withSupply x).faults = s.faults := rfl
@[simp] theorem State.withSupply_link (x : MeasureIn) : (s.withSupply x).link = s.link := rfl
@[simp] theorem State.withSupply_view (x : MeasureIn) : (s.withSupply x).view = s.view := rfl
@[simp] theorem State.withSupply_claims (x : MeasureIn) : (s.withSupply x).claims = s.claims := rfl
@[simp] theorem State.withSupply_req (x : MeasureIn) : (s.withSupply x).req = s.req := rfl
@[simp] theorem State.withSupply_drive (x : MeasureIn) : (s.withSupply x).drive = s.drive := rfl
@[simp] theorem State.withSupply_start (x : MeasureIn) : (s.withSupply x).start = s.start := rfl
@[simp] theorem State.withSupply_port (x : MeasureIn) : (s.withSupply x).port = s.port := rfl
@[simp] theorem State.withSupply_counters (x : MeasureIn) : (s.withSupply x).counters = s.counters := rfl
@[simp] theorem State.withSupply_handover (x : MeasureIn) : (s.withSupply x).handover = s.handover := rfl
@[simp] theorem State.withSupply_pending (x : MeasureIn) : (s.withSupply x).pending = s.pending := rfl
@[simp] theorem State.withSupply_twice (x y : MeasureIn) : (s.withSupply x).withSupply y = s.withSupply y := rfl
@[simp] theorem State.withSupply_self : s.withSupply s.supply = s := rfl

/-! The update of `temperature`. -/

@[simp] theorem State.withTemperature_now (x : MeasureIn) : (s.withTemperature x).now = s.now := rfl
@[simp] theorem State.withTemperature_store (x : MeasureIn) : (s.withTemperature x).store = s.store := rfl
@[simp] theorem State.withTemperature_copy (x : MeasureIn) : (s.withTemperature x).copy = s.copy := rfl
@[simp] theorem State.withTemperature_objects (x : MeasureIn) : (s.withTemperature x).objects = s.objects := rfl
@[simp] theorem State.withTemperature_sensors (x : MeasureIn) : (s.withTemperature x).sensors = s.sensors := rfl
@[simp] theorem State.withTemperature_singles (x : MeasureIn) : (s.withTemperature x).singles = s.singles := rfl
@[simp] theorem State.withTemperature_supply (x : MeasureIn) : (s.withTemperature x).supply = s.supply := rfl
@[simp] theorem State.withTemperature_temperature (x : MeasureIn) : (s.withTemperature x).temperature = x := rfl
@[simp] theorem State.withTemperature_faults (x : MeasureIn) : (s.withTemperature x).faults = s.faults := rfl
@[simp] theorem State.withTemperature_link (x : MeasureIn) : (s.withTemperature x).link = s.link := rfl
@[simp] theorem State.withTemperature_view (x : MeasureIn) : (s.withTemperature x).view = s.view := rfl
@[simp] theorem State.withTemperature_claims (x : MeasureIn) : (s.withTemperature x).claims = s.claims := rfl
@[simp] theorem State.withTemperature_req (x : MeasureIn) : (s.withTemperature x).req = s.req := rfl
@[simp] theorem State.withTemperature_drive (x : MeasureIn) : (s.withTemperature x).drive = s.drive := rfl
@[simp] theorem State.withTemperature_start (x : MeasureIn) : (s.withTemperature x).start = s.start := rfl
@[simp] theorem State.withTemperature_port (x : MeasureIn) : (s.withTemperature x).port = s.port := rfl
@[simp] theorem State.withTemperature_counters (x : MeasureIn) : (s.withTemperature x).counters = s.counters := rfl
@[simp] theorem State.withTemperature_handover (x : MeasureIn) : (s.withTemperature x).handover = s.handover := rfl
@[simp] theorem State.withTemperature_pending (x : MeasureIn) : (s.withTemperature x).pending = s.pending := rfl
@[simp] theorem State.withTemperature_twice (x y : MeasureIn) : (s.withTemperature x).withTemperature y = s.withTemperature y := rfl
@[simp] theorem State.withTemperature_self : s.withTemperature s.temperature = s := rfl

/-! The update of `faults`. -/

@[simp] theorem State.withFaults_now (x : Faults) : (s.withFaults x).now = s.now := rfl
@[simp] theorem State.withFaults_store (x : Faults) : (s.withFaults x).store = s.store := rfl
@[simp] theorem State.withFaults_copy (x : Faults) : (s.withFaults x).copy = s.copy := rfl
@[simp] theorem State.withFaults_objects (x : Faults) : (s.withFaults x).objects = s.objects := rfl
@[simp] theorem State.withFaults_sensors (x : Faults) : (s.withFaults x).sensors = s.sensors := rfl
@[simp] theorem State.withFaults_singles (x : Faults) : (s.withFaults x).singles = s.singles := rfl
@[simp] theorem State.withFaults_supply (x : Faults) : (s.withFaults x).supply = s.supply := rfl
@[simp] theorem State.withFaults_temperature (x : Faults) : (s.withFaults x).temperature = s.temperature := rfl
@[simp] theorem State.withFaults_faults (x : Faults) : (s.withFaults x).faults = x := rfl
@[simp] theorem State.withFaults_link (x : Faults) : (s.withFaults x).link = s.link := rfl
@[simp] theorem State.withFaults_view (x : Faults) : (s.withFaults x).view = s.view := rfl
@[simp] theorem State.withFaults_claims (x : Faults) : (s.withFaults x).claims = s.claims := rfl
@[simp] theorem State.withFaults_req (x : Faults) : (s.withFaults x).req = s.req := rfl
@[simp] theorem State.withFaults_drive (x : Faults) : (s.withFaults x).drive = s.drive := rfl
@[simp] theorem State.withFaults_start (x : Faults) : (s.withFaults x).start = s.start := rfl
@[simp] theorem State.withFaults_port (x : Faults) : (s.withFaults x).port = s.port := rfl
@[simp] theorem State.withFaults_counters (x : Faults) : (s.withFaults x).counters = s.counters := rfl
@[simp] theorem State.withFaults_handover (x : Faults) : (s.withFaults x).handover = s.handover := rfl
@[simp] theorem State.withFaults_pending (x : Faults) : (s.withFaults x).pending = s.pending := rfl
@[simp] theorem State.withFaults_twice (x y : Faults) : (s.withFaults x).withFaults y = s.withFaults y := rfl
@[simp] theorem State.withFaults_self : s.withFaults s.faults = s := rfl

/-! The update of `link`. -/

@[simp] theorem State.withLink_now (x : Link) : (s.withLink x).now = s.now := rfl
@[simp] theorem State.withLink_store (x : Link) : (s.withLink x).store = s.store := rfl
@[simp] theorem State.withLink_copy (x : Link) : (s.withLink x).copy = s.copy := rfl
@[simp] theorem State.withLink_objects (x : Link) : (s.withLink x).objects = s.objects := rfl
@[simp] theorem State.withLink_sensors (x : Link) : (s.withLink x).sensors = s.sensors := rfl
@[simp] theorem State.withLink_singles (x : Link) : (s.withLink x).singles = s.singles := rfl
@[simp] theorem State.withLink_supply (x : Link) : (s.withLink x).supply = s.supply := rfl
@[simp] theorem State.withLink_temperature (x : Link) : (s.withLink x).temperature = s.temperature := rfl
@[simp] theorem State.withLink_faults (x : Link) : (s.withLink x).faults = s.faults := rfl
@[simp] theorem State.withLink_link (x : Link) : (s.withLink x).link = x := rfl
@[simp] theorem State.withLink_view (x : Link) : (s.withLink x).view = s.view := rfl
@[simp] theorem State.withLink_claims (x : Link) : (s.withLink x).claims = s.claims := rfl
@[simp] theorem State.withLink_req (x : Link) : (s.withLink x).req = s.req := rfl
@[simp] theorem State.withLink_drive (x : Link) : (s.withLink x).drive = s.drive := rfl
@[simp] theorem State.withLink_start (x : Link) : (s.withLink x).start = s.start := rfl
@[simp] theorem State.withLink_port (x : Link) : (s.withLink x).port = s.port := rfl
@[simp] theorem State.withLink_counters (x : Link) : (s.withLink x).counters = s.counters := rfl
@[simp] theorem State.withLink_handover (x : Link) : (s.withLink x).handover = s.handover := rfl
@[simp] theorem State.withLink_pending (x : Link) : (s.withLink x).pending = s.pending := rfl
@[simp] theorem State.withLink_twice (x y : Link) : (s.withLink x).withLink y = s.withLink y := rfl
@[simp] theorem State.withLink_self : s.withLink s.link = s := rfl

/-! The update of `view`. -/

@[simp] theorem State.withView_now (x : View) : (s.withView x).now = s.now := rfl
@[simp] theorem State.withView_store (x : View) : (s.withView x).store = s.store := rfl
@[simp] theorem State.withView_copy (x : View) : (s.withView x).copy = s.copy := rfl
@[simp] theorem State.withView_objects (x : View) : (s.withView x).objects = s.objects := rfl
@[simp] theorem State.withView_sensors (x : View) : (s.withView x).sensors = s.sensors := rfl
@[simp] theorem State.withView_singles (x : View) : (s.withView x).singles = s.singles := rfl
@[simp] theorem State.withView_supply (x : View) : (s.withView x).supply = s.supply := rfl
@[simp] theorem State.withView_temperature (x : View) : (s.withView x).temperature = s.temperature := rfl
@[simp] theorem State.withView_faults (x : View) : (s.withView x).faults = s.faults := rfl
@[simp] theorem State.withView_link (x : View) : (s.withView x).link = s.link := rfl
@[simp] theorem State.withView_view (x : View) : (s.withView x).view = x := rfl
@[simp] theorem State.withView_claims (x : View) : (s.withView x).claims = s.claims := rfl
@[simp] theorem State.withView_req (x : View) : (s.withView x).req = s.req := rfl
@[simp] theorem State.withView_drive (x : View) : (s.withView x).drive = s.drive := rfl
@[simp] theorem State.withView_start (x : View) : (s.withView x).start = s.start := rfl
@[simp] theorem State.withView_port (x : View) : (s.withView x).port = s.port := rfl
@[simp] theorem State.withView_counters (x : View) : (s.withView x).counters = s.counters := rfl
@[simp] theorem State.withView_handover (x : View) : (s.withView x).handover = s.handover := rfl
@[simp] theorem State.withView_pending (x : View) : (s.withView x).pending = s.pending := rfl
@[simp] theorem State.withView_twice (x y : View) : (s.withView x).withView y = s.withView y := rfl
@[simp] theorem State.withView_self : s.withView s.view = s := rfl

/-! The update of `claims`. -/

@[simp] theorem State.withClaims_now (x : Claims) : (s.withClaims x).now = s.now := rfl
@[simp] theorem State.withClaims_store (x : Claims) : (s.withClaims x).store = s.store := rfl
@[simp] theorem State.withClaims_copy (x : Claims) : (s.withClaims x).copy = s.copy := rfl
@[simp] theorem State.withClaims_objects (x : Claims) : (s.withClaims x).objects = s.objects := rfl
@[simp] theorem State.withClaims_sensors (x : Claims) : (s.withClaims x).sensors = s.sensors := rfl
@[simp] theorem State.withClaims_singles (x : Claims) : (s.withClaims x).singles = s.singles := rfl
@[simp] theorem State.withClaims_supply (x : Claims) : (s.withClaims x).supply = s.supply := rfl
@[simp] theorem State.withClaims_temperature (x : Claims) : (s.withClaims x).temperature = s.temperature := rfl
@[simp] theorem State.withClaims_faults (x : Claims) : (s.withClaims x).faults = s.faults := rfl
@[simp] theorem State.withClaims_link (x : Claims) : (s.withClaims x).link = s.link := rfl
@[simp] theorem State.withClaims_view (x : Claims) : (s.withClaims x).view = s.view := rfl
@[simp] theorem State.withClaims_claims (x : Claims) : (s.withClaims x).claims = x := rfl
@[simp] theorem State.withClaims_req (x : Claims) : (s.withClaims x).req = s.req := rfl
@[simp] theorem State.withClaims_drive (x : Claims) : (s.withClaims x).drive = s.drive := rfl
@[simp] theorem State.withClaims_start (x : Claims) : (s.withClaims x).start = s.start := rfl
@[simp] theorem State.withClaims_port (x : Claims) : (s.withClaims x).port = s.port := rfl
@[simp] theorem State.withClaims_counters (x : Claims) : (s.withClaims x).counters = s.counters := rfl
@[simp] theorem State.withClaims_handover (x : Claims) : (s.withClaims x).handover = s.handover := rfl
@[simp] theorem State.withClaims_pending (x : Claims) : (s.withClaims x).pending = s.pending := rfl
@[simp] theorem State.withClaims_twice (x y : Claims) : (s.withClaims x).withClaims y = s.withClaims y := rfl
@[simp] theorem State.withClaims_self : s.withClaims s.claims = s := rfl

/-! The update of `req`. -/

@[simp] theorem State.withReq_now (x : Requests) : (s.withReq x).now = s.now := rfl
@[simp] theorem State.withReq_store (x : Requests) : (s.withReq x).store = s.store := rfl
@[simp] theorem State.withReq_copy (x : Requests) : (s.withReq x).copy = s.copy := rfl
@[simp] theorem State.withReq_objects (x : Requests) : (s.withReq x).objects = s.objects := rfl
@[simp] theorem State.withReq_sensors (x : Requests) : (s.withReq x).sensors = s.sensors := rfl
@[simp] theorem State.withReq_singles (x : Requests) : (s.withReq x).singles = s.singles := rfl
@[simp] theorem State.withReq_supply (x : Requests) : (s.withReq x).supply = s.supply := rfl
@[simp] theorem State.withReq_temperature (x : Requests) : (s.withReq x).temperature = s.temperature := rfl
@[simp] theorem State.withReq_faults (x : Requests) : (s.withReq x).faults = s.faults := rfl
@[simp] theorem State.withReq_link (x : Requests) : (s.withReq x).link = s.link := rfl
@[simp] theorem State.withReq_view (x : Requests) : (s.withReq x).view = s.view := rfl
@[simp] theorem State.withReq_claims (x : Requests) : (s.withReq x).claims = s.claims := rfl
@[simp] theorem State.withReq_req (x : Requests) : (s.withReq x).req = x := rfl
@[simp] theorem State.withReq_drive (x : Requests) : (s.withReq x).drive = s.drive := rfl
@[simp] theorem State.withReq_start (x : Requests) : (s.withReq x).start = s.start := rfl
@[simp] theorem State.withReq_port (x : Requests) : (s.withReq x).port = s.port := rfl
@[simp] theorem State.withReq_counters (x : Requests) : (s.withReq x).counters = s.counters := rfl
@[simp] theorem State.withReq_handover (x : Requests) : (s.withReq x).handover = s.handover := rfl
@[simp] theorem State.withReq_pending (x : Requests) : (s.withReq x).pending = s.pending := rfl
@[simp] theorem State.withReq_twice (x y : Requests) : (s.withReq x).withReq y = s.withReq y := rfl
@[simp] theorem State.withReq_self : s.withReq s.req = s := rfl

/-! The update of `drive`. -/

@[simp] theorem State.withDrive_now (x : Drive) : (s.withDrive x).now = s.now := rfl
@[simp] theorem State.withDrive_store (x : Drive) : (s.withDrive x).store = s.store := rfl
@[simp] theorem State.withDrive_copy (x : Drive) : (s.withDrive x).copy = s.copy := rfl
@[simp] theorem State.withDrive_objects (x : Drive) : (s.withDrive x).objects = s.objects := rfl
@[simp] theorem State.withDrive_sensors (x : Drive) : (s.withDrive x).sensors = s.sensors := rfl
@[simp] theorem State.withDrive_singles (x : Drive) : (s.withDrive x).singles = s.singles := rfl
@[simp] theorem State.withDrive_supply (x : Drive) : (s.withDrive x).supply = s.supply := rfl
@[simp] theorem State.withDrive_temperature (x : Drive) : (s.withDrive x).temperature = s.temperature := rfl
@[simp] theorem State.withDrive_faults (x : Drive) : (s.withDrive x).faults = s.faults := rfl
@[simp] theorem State.withDrive_link (x : Drive) : (s.withDrive x).link = s.link := rfl
@[simp] theorem State.withDrive_view (x : Drive) : (s.withDrive x).view = s.view := rfl
@[simp] theorem State.withDrive_claims (x : Drive) : (s.withDrive x).claims = s.claims := rfl
@[simp] theorem State.withDrive_req (x : Drive) : (s.withDrive x).req = s.req := rfl
@[simp] theorem State.withDrive_drive (x : Drive) : (s.withDrive x).drive = x := rfl
@[simp] theorem State.withDrive_start (x : Drive) : (s.withDrive x).start = s.start := rfl
@[simp] theorem State.withDrive_port (x : Drive) : (s.withDrive x).port = s.port := rfl
@[simp] theorem State.withDrive_counters (x : Drive) : (s.withDrive x).counters = s.counters := rfl
@[simp] theorem State.withDrive_handover (x : Drive) : (s.withDrive x).handover = s.handover := rfl
@[simp] theorem State.withDrive_pending (x : Drive) : (s.withDrive x).pending = s.pending := rfl
@[simp] theorem State.withDrive_twice (x y : Drive) : (s.withDrive x).withDrive y = s.withDrive y := rfl
@[simp] theorem State.withDrive_self : s.withDrive s.drive = s := rfl

/-! The update of `start`. -/

@[simp] theorem State.withStart_now (x : StartUp) : (s.withStart x).now = s.now := rfl
@[simp] theorem State.withStart_store (x : StartUp) : (s.withStart x).store = s.store := rfl
@[simp] theorem State.withStart_copy (x : StartUp) : (s.withStart x).copy = s.copy := rfl
@[simp] theorem State.withStart_objects (x : StartUp) : (s.withStart x).objects = s.objects := rfl
@[simp] theorem State.withStart_sensors (x : StartUp) : (s.withStart x).sensors = s.sensors := rfl
@[simp] theorem State.withStart_singles (x : StartUp) : (s.withStart x).singles = s.singles := rfl
@[simp] theorem State.withStart_supply (x : StartUp) : (s.withStart x).supply = s.supply := rfl
@[simp] theorem State.withStart_temperature (x : StartUp) : (s.withStart x).temperature = s.temperature := rfl
@[simp] theorem State.withStart_faults (x : StartUp) : (s.withStart x).faults = s.faults := rfl
@[simp] theorem State.withStart_link (x : StartUp) : (s.withStart x).link = s.link := rfl
@[simp] theorem State.withStart_view (x : StartUp) : (s.withStart x).view = s.view := rfl
@[simp] theorem State.withStart_claims (x : StartUp) : (s.withStart x).claims = s.claims := rfl
@[simp] theorem State.withStart_req (x : StartUp) : (s.withStart x).req = s.req := rfl
@[simp] theorem State.withStart_drive (x : StartUp) : (s.withStart x).drive = s.drive := rfl
@[simp] theorem State.withStart_start (x : StartUp) : (s.withStart x).start = x := rfl
@[simp] theorem State.withStart_port (x : StartUp) : (s.withStart x).port = s.port := rfl
@[simp] theorem State.withStart_counters (x : StartUp) : (s.withStart x).counters = s.counters := rfl
@[simp] theorem State.withStart_handover (x : StartUp) : (s.withStart x).handover = s.handover := rfl
@[simp] theorem State.withStart_pending (x : StartUp) : (s.withStart x).pending = s.pending := rfl
@[simp] theorem State.withStart_twice (x y : StartUp) : (s.withStart x).withStart y = s.withStart y := rfl
@[simp] theorem State.withStart_self : s.withStart s.start = s := rfl

/-! The update of `port`. -/

@[simp] theorem State.withPort_now (x : Port) : (s.withPort x).now = s.now := rfl
@[simp] theorem State.withPort_store (x : Port) : (s.withPort x).store = s.store := rfl
@[simp] theorem State.withPort_copy (x : Port) : (s.withPort x).copy = s.copy := rfl
@[simp] theorem State.withPort_objects (x : Port) : (s.withPort x).objects = s.objects := rfl
@[simp] theorem State.withPort_sensors (x : Port) : (s.withPort x).sensors = s.sensors := rfl
@[simp] theorem State.withPort_singles (x : Port) : (s.withPort x).singles = s.singles := rfl
@[simp] theorem State.withPort_supply (x : Port) : (s.withPort x).supply = s.supply := rfl
@[simp] theorem State.withPort_temperature (x : Port) : (s.withPort x).temperature = s.temperature := rfl
@[simp] theorem State.withPort_faults (x : Port) : (s.withPort x).faults = s.faults := rfl
@[simp] theorem State.withPort_link (x : Port) : (s.withPort x).link = s.link := rfl
@[simp] theorem State.withPort_view (x : Port) : (s.withPort x).view = s.view := rfl
@[simp] theorem State.withPort_claims (x : Port) : (s.withPort x).claims = s.claims := rfl
@[simp] theorem State.withPort_req (x : Port) : (s.withPort x).req = s.req := rfl
@[simp] theorem State.withPort_drive (x : Port) : (s.withPort x).drive = s.drive := rfl
@[simp] theorem State.withPort_start (x : Port) : (s.withPort x).start = s.start := rfl
@[simp] theorem State.withPort_port (x : Port) : (s.withPort x).port = x := rfl
@[simp] theorem State.withPort_counters (x : Port) : (s.withPort x).counters = s.counters := rfl
@[simp] theorem State.withPort_handover (x : Port) : (s.withPort x).handover = s.handover := rfl
@[simp] theorem State.withPort_pending (x : Port) : (s.withPort x).pending = s.pending := rfl
@[simp] theorem State.withPort_twice (x y : Port) : (s.withPort x).withPort y = s.withPort y := rfl
@[simp] theorem State.withPort_self : s.withPort s.port = s := rfl

/-! The update of `counters`. -/

@[simp] theorem State.withCounters_now (x : Counters) : (s.withCounters x).now = s.now := rfl
@[simp] theorem State.withCounters_store (x : Counters) : (s.withCounters x).store = s.store := rfl
@[simp] theorem State.withCounters_copy (x : Counters) : (s.withCounters x).copy = s.copy := rfl
@[simp] theorem State.withCounters_objects (x : Counters) : (s.withCounters x).objects = s.objects := rfl
@[simp] theorem State.withCounters_sensors (x : Counters) : (s.withCounters x).sensors = s.sensors := rfl
@[simp] theorem State.withCounters_singles (x : Counters) : (s.withCounters x).singles = s.singles := rfl
@[simp] theorem State.withCounters_supply (x : Counters) : (s.withCounters x).supply = s.supply := rfl
@[simp] theorem State.withCounters_temperature (x : Counters) : (s.withCounters x).temperature = s.temperature := rfl
@[simp] theorem State.withCounters_faults (x : Counters) : (s.withCounters x).faults = s.faults := rfl
@[simp] theorem State.withCounters_link (x : Counters) : (s.withCounters x).link = s.link := rfl
@[simp] theorem State.withCounters_view (x : Counters) : (s.withCounters x).view = s.view := rfl
@[simp] theorem State.withCounters_claims (x : Counters) : (s.withCounters x).claims = s.claims := rfl
@[simp] theorem State.withCounters_req (x : Counters) : (s.withCounters x).req = s.req := rfl
@[simp] theorem State.withCounters_drive (x : Counters) : (s.withCounters x).drive = s.drive := rfl
@[simp] theorem State.withCounters_start (x : Counters) : (s.withCounters x).start = s.start := rfl
@[simp] theorem State.withCounters_port (x : Counters) : (s.withCounters x).port = s.port := rfl
@[simp] theorem State.withCounters_counters (x : Counters) : (s.withCounters x).counters = x := rfl
@[simp] theorem State.withCounters_handover (x : Counters) : (s.withCounters x).handover = s.handover := rfl
@[simp] theorem State.withCounters_pending (x : Counters) : (s.withCounters x).pending = s.pending := rfl
@[simp] theorem State.withCounters_twice (x y : Counters) : (s.withCounters x).withCounters y = s.withCounters y := rfl
@[simp] theorem State.withCounters_self : s.withCounters s.counters = s := rfl

/-! The update of `handover`. -/

@[simp] theorem State.withHandover_now (x : Handover) : (s.withHandover x).now = s.now := rfl
@[simp] theorem State.withHandover_store (x : Handover) : (s.withHandover x).store = s.store := rfl
@[simp] theorem State.withHandover_copy (x : Handover) : (s.withHandover x).copy = s.copy := rfl
@[simp] theorem State.withHandover_objects (x : Handover) : (s.withHandover x).objects = s.objects := rfl
@[simp] theorem State.withHandover_sensors (x : Handover) : (s.withHandover x).sensors = s.sensors := rfl
@[simp] theorem State.withHandover_singles (x : Handover) : (s.withHandover x).singles = s.singles := rfl
@[simp] theorem State.withHandover_supply (x : Handover) : (s.withHandover x).supply = s.supply := rfl
@[simp] theorem State.withHandover_temperature (x : Handover) : (s.withHandover x).temperature = s.temperature := rfl
@[simp] theorem State.withHandover_faults (x : Handover) : (s.withHandover x).faults = s.faults := rfl
@[simp] theorem State.withHandover_link (x : Handover) : (s.withHandover x).link = s.link := rfl
@[simp] theorem State.withHandover_view (x : Handover) : (s.withHandover x).view = s.view := rfl
@[simp] theorem State.withHandover_claims (x : Handover) : (s.withHandover x).claims = s.claims := rfl
@[simp] theorem State.withHandover_req (x : Handover) : (s.withHandover x).req = s.req := rfl
@[simp] theorem State.withHandover_drive (x : Handover) : (s.withHandover x).drive = s.drive := rfl
@[simp] theorem State.withHandover_start (x : Handover) : (s.withHandover x).start = s.start := rfl
@[simp] theorem State.withHandover_port (x : Handover) : (s.withHandover x).port = s.port := rfl
@[simp] theorem State.withHandover_counters (x : Handover) : (s.withHandover x).counters = s.counters := rfl
@[simp] theorem State.withHandover_handover (x : Handover) : (s.withHandover x).handover = x := rfl
@[simp] theorem State.withHandover_pending (x : Handover) : (s.withHandover x).pending = s.pending := rfl
@[simp] theorem State.withHandover_twice (x y : Handover) : (s.withHandover x).withHandover y = s.withHandover y := rfl
@[simp] theorem State.withHandover_self : s.withHandover s.handover = s := rfl

/-! The update of `pending`. -/

@[simp] theorem State.withPending_now (x : List Instr) : (s.withPending x).now = s.now := rfl
@[simp] theorem State.withPending_store (x : List Instr) : (s.withPending x).store = s.store := rfl
@[simp] theorem State.withPending_copy (x : List Instr) : (s.withPending x).copy = s.copy := rfl
@[simp] theorem State.withPending_objects (x : List Instr) : (s.withPending x).objects = s.objects := rfl
@[simp] theorem State.withPending_sensors (x : List Instr) : (s.withPending x).sensors = s.sensors := rfl
@[simp] theorem State.withPending_singles (x : List Instr) : (s.withPending x).singles = s.singles := rfl
@[simp] theorem State.withPending_supply (x : List Instr) : (s.withPending x).supply = s.supply := rfl
@[simp] theorem State.withPending_temperature (x : List Instr) : (s.withPending x).temperature = s.temperature := rfl
@[simp] theorem State.withPending_faults (x : List Instr) : (s.withPending x).faults = s.faults := rfl
@[simp] theorem State.withPending_link (x : List Instr) : (s.withPending x).link = s.link := rfl
@[simp] theorem State.withPending_view (x : List Instr) : (s.withPending x).view = s.view := rfl
@[simp] theorem State.withPending_claims (x : List Instr) : (s.withPending x).claims = s.claims := rfl
@[simp] theorem State.withPending_req (x : List Instr) : (s.withPending x).req = s.req := rfl
@[simp] theorem State.withPending_drive (x : List Instr) : (s.withPending x).drive = s.drive := rfl
@[simp] theorem State.withPending_start (x : List Instr) : (s.withPending x).start = s.start := rfl
@[simp] theorem State.withPending_port (x : List Instr) : (s.withPending x).port = s.port := rfl
@[simp] theorem State.withPending_counters (x : List Instr) : (s.withPending x).counters = s.counters := rfl
@[simp] theorem State.withPending_handover (x : List Instr) : (s.withPending x).handover = s.handover := rfl
@[simp] theorem State.withPending_pending (x : List Instr) : (s.withPending x).pending = x := rfl
@[simp] theorem State.withPending_twice (x y : List Instr) : (s.withPending x).withPending y = s.withPending y := rfl
@[simp] theorem State.withPending_self : s.withPending s.pending = s := rfl

end Sys2Proof.Machine
end

