-- ==== Sys2Proof/Laws/Frames.lean ====
section
/-! SUPPORT. Frames: for each shared operation, the parts of the state it can change, said once. A later proof cites the
operation's lemma in place of unfolding it. -/

namespace Sys2Proof.Machine

/-! ### The frame relation -/

theorem Touches.refl (ps : List Part) (s : State) : Touches ps s s := by
  intro p _
  cases p <;> rfl

theorem samePart.trans {s t u : State} {p : Part} (h : samePart s t p) (g : samePart t u p) : samePart s u p := by
  cases p <;> exact Eq.trans g h

/-- A frame holds with more parts named. -/
theorem Touches.mono {ps qs : List Part} {s t : State} (h : Touches ps s t) (hs : ps ⊆ qs) : Touches qs s t :=
  fun p hp => h p fun hmem => hp (hs hmem)

/-- Two changes one after the other. -/
theorem Touches.trans {ps qs : List Part} {s t u : State} (h : Touches ps s t) (g : Touches qs t u) :
    Touches (ps ++ qs) s u := by
  intro p hp
  rw [List.mem_append, not_or] at hp
  exact (h p hp.1).trans (g p hp.2)

/-- Two changes within one set of parts. -/
theorem Touches.within {ps : List Part} {s t u : State} (h : Touches ps s t) (g : Touches ps t u) : Touches ps s u :=
  fun p hp => (h p hp).trans (g p hp)

/-- A further change made under a condition. -/
theorem Touches.ifThen {ps : List Part} {c : Prop} [Decidable c] {s t u : State} (h : Touches ps s t)
    (g : Touches ps t u) : Touches ps s (if c then u else t) := by
  split
  · exact h.within g
  · exact h

/-- A further change made unless a condition holds. -/
theorem Touches.ifElse {ps : List Part} {c : Prop} [Decidable c] {s t u : State} (h : Touches ps s t)
    (g : Touches ps t u) : Touches ps s (if c then t else u) := by
  split
  · exact h
  · exact h.within g

/-! ### Block updates -/

theorem touches_withNow (s : State) (x) : Touches [.now] s (s.withNow x) := by
  intro p hp
  cases p <;> first | rfl | simp at hp

theorem touches_withStore (s : State) (x) : Touches [.store] s (s.withStore x) := by
  intro p hp
  cases p <;> first | rfl | simp at hp

theorem touches_withCopy (s : State) (x) : Touches [.copy] s (s.withCopy x) := by
  intro p hp
  cases p <;> first | rfl | simp at hp

theorem touches_withObjects (s : State) (x) : Touches [.objects] s (s.withObjects x) := by
  intro p hp
  cases p <;> first | rfl | simp at hp

theorem touches_withSensors (s : State) (x) : Touches [.sensors] s (s.withSensors x) := by
  intro p hp
  cases p <;> first | rfl | simp at hp

theorem touches_withSingles (s : State) (x) : Touches [.singles] s (s.withSingles x) := by
  intro p hp
  cases p <;> first | rfl | simp at hp

theorem touches_withSupply (s : State) (x) : Touches [.supply] s (s.withSupply x) := by
  intro p hp
  cases p <;> first | rfl | simp at hp

theorem touches_withTemperature (s : State) (x) : Touches [.temperature] s (s.withTemperature x) := by
  intro p hp
  cases p <;> first | rfl | simp at hp

theorem touches_withFaults (s : State) (x) : Touches [.faults] s (s.withFaults x) := by
  intro p hp
  cases p <;> first | rfl | simp at hp

theorem touches_withLink (s : State) (x) : Touches [.link] s (s.withLink x) := by
  intro p hp
  cases p <;> first | rfl | simp at hp

theorem touches_withView (s : State) (x) : Touches [.view] s (s.withView x) := by
  intro p hp
  cases p <;> first | rfl | simp at hp

theorem touches_withClaims (s : State) (x) : Touches [.claims] s (s.withClaims x) := by
  intro p hp
  cases p <;> first | rfl | simp at hp

theorem touches_withReq (s : State) (x) : Touches [.req] s (s.withReq x) := by
  intro p hp
  cases p <;> first | rfl | simp at hp

theorem touches_withDrive (s : State) (x) : Touches [.drive] s (s.withDrive x) := by
  intro p hp
  cases p <;> first | rfl | simp at hp

theorem touches_withStart (s : State) (x) : Touches [.start] s (s.withStart x) := by
  intro p hp
  cases p <;> first | rfl | simp at hp

theorem touches_withPort (s : State) (x) : Touches [.port] s (s.withPort x) := by
  intro p hp
  cases p <;> first | rfl | simp at hp

theorem touches_withCounters (s : State) (x) : Touches [.counters] s (s.withCounters x) := by
  intro p hp
  cases p <;> first | rfl | simp at hp

theorem touches_withHandover (s : State) (x) : Touches [.handover] s (s.withHandover x) := by
  intro p hp
  cases p <;> first | rfl | simp at hp

theorem touches_withPending (s : State) (x) : Touches [.pending] s (s.withPending x) := by
  intro p hp
  cases p <;> first | rfl | simp at hp

/-! ### Ops -/

theorem reachTime_touches (s : State) (d : Nat) : Touches [.now] s (s.reachTime d) := touches_withNow s _

theorem putObj_touches (s : State) (k : Nat) (o : ObjIn) : Touches [.objects] s (s.putObj k o) := touches_withObjects s _

theorem pick_touches (s : State) : Touches [.link] s s.pick := touches_withLink s _

theorem handUrgent_touches (f : Frame) (s : State) : Touches [.link, .counters] s (handUrgent f s) := by
  unfold handUrgent
  split
  · split
    · exact ((touches_withLink _ _).trans (pick_touches _)).mono (by decide)
    · exact (touches_withCounters _ _).mono (by decide)
  · exact .refl _ _

theorem requestStatus_touches (s : State) : Touches [.link] s (requestStatus s) := by
  unfold requestStatus
  split
  · split
    · split
      · exact touches_withLink _ _
      · exact .refl _ _
    · exact (touches_withLink _ _).within (pick_touches _)
  · exact .refl _ _

theorem requestFinal_touches (s : State) : Touches [.link] s (requestFinal s) := by
  unfold requestFinal
  split
  · exact touches_withLink _ _
  · exact (touches_withLink _ _).within (pick_touches _)

theorem handClaim_touches (id : Byte) (f : Frame) (s : State) : Touches [.link] s (handClaim id f s) := by
  unfold handClaim
  split
  · exact (touches_withLink _ _).within (pick_touches _)
  · exact .refl _ _

theorem removeClaim_touches (s : State) : Touches [.link] s (removeClaim s) := by
  unfold removeClaim
  split
  · exact touches_withLink _ _
  · exact (touches_withLink _ _).within (pick_touches _)

theorem ownChanged_touches (s : State) : Touches [.view, .link] s (ownChanged s) := by
  unfold ownChanged
  split
  · dsimp only
    split
    · exact (touches_withView _ _).trans (requestStatus_touches _)
    · exact (touches_withView _ _).mono (by decide)
  · exact .refl _ _

theorem raiseView_touches (station : Nat) (st : Option EntryState) (s : State) :
    Touches [.handover] s (raiseView station st s) := touches_withHandover s _

theorem setLastLocal_touches (r : LocalResult) (s : State) : Touches [.req, .view, .link] s (setLastLocal r s) := by
  unfold setLastLocal
  split
  · exact .refl _ _
  · exact (touches_withReq _ _).trans (ownChanged_touches _)

/-! ### Flags -/

theorem refreshRelay_touches (s : State) : Touches [.faults] s (refreshRelay s) := touches_withFaults s _

theorem setPending_touches (p : CauseSet) (s : State) : Touches [.faults, .view, .link] s (setPending p s) := by
  unfold setPending
  split
  · exact .refl _ _
  · exact (((touches_withFaults _ _).within (refreshRelay_touches _)).trans (ownChanged_touches _)).mono (by decide)

theorem reportEvent_touches (c : Cause) (s : State) : Touches [.faults, .view, .link] s (reportEvent c s) :=
  setPending_touches _ s

theorem beginCondition_touches (c : Cause) (s : State) : Touches [.faults, .view, .link] s (beginCondition c s) := by
  unfold beginCondition
  split
  · exact .refl _ _
  · exact ((touches_withFaults _ _).trans (setPending_touches _ _)).mono (by decide)

theorem endCondition_touches (c : Cause) (s : State) : Touches [.faults] s (endCondition c s) := touches_withFaults s _

theorem watchFaulty_touches (s : State) : Touches [.faults, .view, .link] s (watchFaulty s) := by
  unfold watchFaulty
  split
  · exact beginCondition_touches _ _
  · exact (endCondition_touches _ _).mono (by decide)

theorem faultResetEdge_touches (s : State) : Touches [.faults, .view, .link] s (faultResetEdge s) :=
  setPending_touches _ s

/-! ### Claims -/

theorem handRelease_touches (id : Byte) (form : Option (Nat × Position)) (s : State) :
    Touches [.link, .counters] s (handRelease id form s) := handUrgent_touches _ s

theorem claimToIdle_touches (id : Byte) (cause : EndCause) (o : Option Objection) (s : State) :
    Touches [.claims, .view, .link] s (claimToIdle id cause o s) :=
  (touches_withClaims _ _).trans (ownChanged_touches _)

theorem countWithdrawn_touches (s : State) : Touches [.counters] s (countWithdrawn s) := touches_withCounters s _

theorem countGranted_touches (s : State) : Touches [.counters] s (countGranted s) := touches_withCounters s _

/-- What the end or the start of a claim can change. -/
abbrev claimParts : List Part := [.link, .counters, .claims, .view]

theorem withdrawClaim_touches (cause : EndCause) (o : Option Objection) (s : State) :
    Touches claimParts s (withdrawClaim cause o s) := by
  unfold withdrawClaim
  split
  · exact .refl _ _
  · exact ((((removeClaim_touches _).trans (handRelease_touches _ _ _)).trans (countWithdrawn_touches _)).trans
      (claimToIdle_touches _ _ _ _)).mono (by decide)

theorem dropClaiming_touches (cause : EndCause) (s : State) : Touches claimParts s (dropClaiming cause s) := by
  unfold dropClaiming
  split
  · exact .refl _ _
  · split
    · exact .refl _ _
    · exact (((removeClaim_touches _).trans (countWithdrawn_touches _)).trans (claimToIdle_touches _ _ _ _)).mono
        (by decide)

theorem endHeldClaim_touches (driven : Bool) (s : State) : Touches claimParts s (endHeldClaim driven s) := by
  unfold endHeldClaim
  split
  · exact .refl _ _
  · refine Touches.within ?_ ((claimToIdle_touches _ _ _ _).mono (by decide))
    split
    · exact .refl _ _
    · exact (handRelease_touches _ _ _).mono (by decide)

theorem startClaim_touches (op : Operation) (nodes : NodeSet) (s : State) :
    Touches claimParts s (startClaim op nodes s).1 := by
  unfold startClaim
  split
  · exact (((touches_withClaims _ _).trans (ownChanged_touches _)).trans (countGranted_touches _)).mono (by decide)
  · split
    · exact .refl _ _
    · split
      · exact .refl _ _
      · exact (((handClaim_touches _ _ _).trans (touches_withClaims _ _)).trans (ownChanged_touches _)).mono (by decide)

theorem grantClaim_touches (c : OwnClaim) (s : State) : Touches claimParts s (grantClaim c s) :=
  (((touches_withClaims _ _).trans (countGranted_touches _)).trans (ownChanged_touches _)).mono (by decide)

theorem newRound_touches (c : OwnClaim) (s : State) : Touches [.claims, .link] s (newRound c s) :=
  (touches_withClaims _ _).trans (handClaim_touches _ _ _)

theorem recordForeign_touches (station : Nat) (c : ClaimPart) (a : Bool) (s : State) :
    Touches [.claims] s (recordForeign station c a s) := touches_withClaims s _

theorem removeForeign_touches (station : Nat) (s : State) : Touches [.claims] s (removeForeign station s) :=
  touches_withClaims s _

theorem handAssent_touches (station : Nat) (id : Byte) (s : State) :
    Touches [.link, .counters] s (handAssent station id s) := handUrgent_touches _ s

theorem handObject_touches (station : Nat) (id : Byte) (r : ObjectReason) (s : State) :
    Touches [.link, .counters] s (handObject station id r s) := handUrgent_touches _ s

/-! ### Operations and the drive -/

theorem setHead_touches (op : Operation) (s : State) : Touches [.req] s (setHead op s) := touches_withReq s _

theorem setBypassReason_touches (r : EvalResult) (s : State) : Touches [.req] s (setBypassReason r s) :=
  touches_withReq s _

theorem leaveQueue_touches (op : Operation) (s : State) : Touches [.req] s (leaveQueue op s) := touches_withReq s _

theorem answerEnd_touches (op : Operation) (o : OpOutcome) (r : Reason) (s : State) :
    Touches [.link, .counters, .req, .view] s (answerEnd op o r s) := by
  unfold answerEnd
  split
  · exact (handUrgent_touches _ _).mono (by decide)
  · exact (setLastLocal_touches _ _).mono (by decide)

/-- What the end of an operation can change. -/
abbrev endParts : List Part := [.link, .counters, .claims, .view, .req]

theorem endOperation_touches (op : Operation) (o : OpOutcome) (r : Reason) (s : State) :
    Touches endParts s (endOperation op o r s) := by
  unfold endOperation
  refine Touches.within ?_ ((((answerEnd_touches op o r _).trans (touches_withCounters _ _)).trans
    (leaveQueue_touches op _)).mono (by decide))
  split
  · exact (endHeldClaim_touches _ _).mono (by decide)
  · exact .refl _ _

theorem deferHead_touches (r : Reason) (s : State) : Touches endParts s (deferHead r s).1 := by
  unfold deferHead
  split
  · exact .refl _ _
  · split
    · exact ((setHead_touches _ _).trans (touches_withReq _ _)).mono (by decide)
    · exact endOperation_touches _ _ _ _

theorem setCommanded_touches (k : Nat) (s : State) : Touches [.objects] s (setCommanded k s) := putObj_touches s _ _

theorem clearCommanded_touches (k : Nat) (s : State) : Touches [.objects] s (clearCommanded k s) := putObj_touches s _ _

theorem startDrive_touches (d : ObjDesc) (op : Operation) (s : State) :
    Touches [.objects, .drive] s (startDrive d op s) := (setCommanded_touches _ _).trans (touches_withDrive _ _)

/-- What head starts and grants can change. -/
abbrev headParts : List Part := [.link, .counters, .claims, .view, .req, .objects, .drive, .handover]

theorem grantHandling_touches (s : State) : Touches headParts s (grantHandling s).1 := by
  unfold grantHandling
  split
  · exact .refl _ _
  · dsimp only
    split
    · exact ((endHeldClaim_touches _ _).trans (endOperation_touches _ _ _ _)).mono (by decide)
    · split
      · exact (((setHead_touches _ _).trans (endHeldClaim_touches _ _)).trans (deferHead_touches _ _)).mono (by decide)
      · split
        · exact (((setHead_touches _ _).trans (setHead_touches _ _)).trans (startDrive_touches _ _ _)).mono (by decide)
        · exact (((setHead_touches _ _).trans (endHeldClaim_touches _ _)).trans (deferHead_touches _ _)).mono (by decide)

theorem claimStep_touches (op : Operation) (nodes : NodeSet) (s : State) :
    Touches headParts s (claimStep op nodes s).1 := by
  unfold claimStep
  have h := startClaim_touches op nodes s
  split <;> rename_i heq <;> rw [heq] at h
  · exact (h.trans (setHead_touches _ _)).mono (by decide)
  · exact (h.trans (grantHandling_touches _)).mono (by decide)
  · exact (h.trans (deferHead_touches _ _)).mono (by decide)
  · exact (h.trans (deferHead_touches _ _)).mono (by decide)

theorem startHead_touches (op : Operation) (s : State) : Touches headParts s (startHead op s).1 := by
  unfold startHead
  split
  · exact (endOperation_touches _ _ _ _).mono (by decide)
  · split
    · exact (endOperation_touches _ _ _ _).mono (by decide)
    · dsimp only
      split
      · exact ((setHead_touches _ _).trans (endOperation_touches _ _ _ _)).mono (by decide)
      · exact (((setHead_touches _ _).trans (setHead_touches _ _)).trans (claimStep_touches _ _ _)).mono (by decide)

theorem seePositions_touches (op : Operation) (s : State) : Touches [.handover] s (seePositions op s) :=
  (Touches.refl _ s).ifThen (touches_withHandover _ _)

theorem headStart_touches (s : State) : Touches headParts s (headStart s).1 := by
  unfold headStart
  split
  · exact .refl _ _
  · exact ((seePositions_touches _ _).trans (startHead_touches _ _)).mono (by decide)

theorem runHeads_touches (n : Nat) (s : State) : Touches headParts s (runHeads n s) := by
  induction n generalizing s with
  | zero => exact .refl _ _
  | succ n ih =>
    unfold runHeads
    split
    · exact .refl _ _
    · dsimp only
      split
      · exact (headStart_touches s).within (ih _)
      · exact headStart_touches s

theorem nextHead_touches (s : State) : Touches headParts s (nextHead s) := runHeads_touches _ s

theorem followUp_touches (r : State × Bool) : Touches headParts r.1 (followUp r) := by
  unfold followUp
  split
  · exact nextHead_touches _
  · exact .refl _ _

theorem takeReport_touches (rep : ClaimReport) (s : State) : Touches headParts s (takeReport rep s) := by
  unfold takeReport
  split
  · exact .refl _ _
  · split
    · exact ((deferHead_touches _ _).trans (followUp_touches _)).mono (by decide)
    · exact ((endOperation_touches _ _ _ _).trans (nextHead_touches _)).mono (by decide)
    · exact ((endOperation_touches _ _ _ _).trans (nextHead_touches _)).mono (by decide)

theorem withdrawAndReport_touches (rep : ClaimReport) (o : Option Objection) (s : State) :
    Touches headParts s (withdrawAndReport rep o s) :=
  ((withdrawClaim_touches _ _ _).trans (takeReport_touches _ _)).mono (by decide)

theorem judgeWindow_touches (s : State) : Touches headParts s (judgeWindow s) := by
  unfold judgeWindow
  split
  · exact .refl _ _
  · split
    · exact .refl _ _
    · split
      · exact (((grantClaim_touches _ _).trans (grantHandling_touches _)).trans (followUp_touches _)).mono (by decide)
      · split
        · exact (newRound_touches _ _).mono (by decide)
        · split
          · exact (((grantClaim_touches _ _).trans (grantHandling_touches _)).trans (followUp_touches _)).mono (by decide)
          · exact withdrawAndReport_touches _ _ _

theorem stopDrive_touches (d : DriveRecord) (s : State) : Touches [.drive] s (stopDrive d s) := touches_withDrive s _

theorem reportDriveEnd_touches (o : OpOutcome) (r : Reason) (s : State) :
    Touches headParts s (reportDriveEnd o r s) := by
  unfold reportDriveEnd
  split
  · exact .refl _ _
  · exact ((endOperation_touches _ _ _ _).trans (nextHead_touches _)).mono (by decide)

/-- What the end of a drive can change. -/
abbrev driveParts : List Part := headParts ++ [.faults]

theorem endDrive_touches (o : OpOutcome) (r : Reason) (s : State) : Touches driveParts s (endDrive o r s) := by
  unfold endDrive
  split
  · exact .refl _ _
  · dsimp only
    refine Touches.within ?_ ((reportDriveEnd_touches _ _ _).mono (by decide))
    split
    · exact (((stopDrive_touches _ _).trans (clearCommanded_touches _ _)).trans (reportEvent_touches _ _)).mono (by decide)
    · exact ((stopDrive_touches _ _).trans (clearCommanded_touches _ _)).mono (by decide)

theorem endUndeparted_touches (e : Nat) (s : State) : Touches (.now :: driveParts) s (endUndeparted e s) :=
  (reachTime_touches _ _).trans (endDrive_touches _ _ _)

theorem endOverdue_touches (d : DriveRecord) (e : Nat) (s : State) :
    Touches (.now :: driveParts) s (endOverdue d e s) := by
  unfold endOverdue
  split
  · exact endUndeparted_touches _ _
  · exact (reachTime_touches _ _).trans (endDrive_touches _ _ _)

/-- A drive that ends DONE raises no fault flag. -/
theorem endDrive_done_touches (r : Reason) (s : State) : Touches headParts s (endDrive .done r s) := by
  unfold endDrive
  split
  · exact .refl _ _
  · dsimp only
    rw [if_neg (by decide)]
    exact (((stopDrive_touches _ _).trans (clearCommanded_touches _ _)).trans (reportDriveEnd_touches _ _ _)).mono
      (by decide)

/-! ### The Field Interface -/

theorem handPosition_touches (k : Nat) (s : State) :
    Touches [.view, .link, .handover, .faults] s (handPosition k s) :=
  ((((ownChanged_touches _).trans (raiseView_touches _ _ _)).trans (touches_withHandover _ _)).trans
    (watchFaulty_touches _)).mono (by decide)

theorem arrive_touches (d : DriveRecord) (s : State) : Touches [.drive, .req] s (arrive d s) := by
  unfold arrive
  dsimp only
  split
  · exact (touches_withDrive _ _).mono (by decide)
  · exact (touches_withDrive _ _).trans (setHead_touches _ _)

theorem depart_touches (d : DriveRecord) (s : State) : Touches [.drive] s (depart d s) := touches_withDrive s _

theorem superviseEvent_touches (c : Comb) (s : State) : Touches driveParts s (superviseEvent c s) := by
  unfold superviseEvent
  split
  · exact .refl _ _
  · split
    · split
      · exact .refl _ _
      · exact endDrive_touches _ _ _
    · split
      · exact (arrive_touches _ _).mono (by decide)
      · split
        · exact endDrive_touches _ _ _
        · split
          · exact endDrive_touches _ _ _
          · exact (depart_touches _ _).mono (by decide)

theorem superviseIf_touches (b : Bool) (c : Comb) (s : State) : Touches driveParts s (superviseIf b c s) := by
  unfold superviseIf
  split
  · exact superviseEvent_touches _ _
  · exact .refl _ _

theorem qualifyObject_touches (k : Nat) (c : Comb) (s : State) :
    Touches driveParts s (qualifyObject k c s) := by
  unfold qualifyObject
  dsimp only
  refine Touches.within ?_ ((superviseIf_touches _ _ _).mono (by decide))
  split
  · exact (putObj_touches _ _ _).mono (by decide)
  · exact ((putObj_touches _ _ _).trans (handPosition_touches _ _)).mono (by decide)

theorem qualifySensor_touches (k : Nat) (p : RawPair) (s : State) :
    Touches [.sensors, .view, .link, .handover] s (qualifySensor k p s) := by
  unfold qualifySensor
  dsimp only
  split
  · exact (touches_withSensors _ _).mono (by decide)
  · exact (((touches_withSensors _ _).trans (ownChanged_touches _)).trans (raiseView_touches _ _ _)).mono (by decide)

theorem putSingle_touches (s : State) (which : SingleInput) (i : SingleIn) :
    Touches [.singles] s (s.putSingle which i) := touches_withSingles s _

theorem pushEdge_touches (k : Nat) (dir : Direction) (s : State) : Touches [.handover] s (pushEdge k dir s) := by
  unfold pushEdge
  split
  · exact touches_withHandover _ _
  · exact .refl _ _

theorem handSelector_touches (s : State) : Touches [.view, .link, .handover] s (handSelector s) :=
  (ownChanged_touches _).trans (touches_withHandover _ _)

theorem singleQualified_touches (which : SingleInput) (previous : Option Bool) (contact : Bool) (s : State) :
    Touches [.view, .link, .handover, .faults] s (singleQualified which previous contact s) := by
  unfold singleQualified
  split
  · exact (handSelector_touches _).mono (by decide)
  · exact (ownChanged_touches _).mono (by decide)
  · exact .refl _ _
  · split
    · exact (faultResetEdge_touches _).mono (by decide)
    · exact .refl _ _
  · split
    · exact (pushEdge_touches _ _ _).mono (by decide)
    · exact .refl _ _

/-- What the qualification of a single input can change. -/
abbrev singleParts : List Part := [.singles, .view, .link, .handover, .faults]

theorem qualifySingle_touches (which : SingleInput) (s : State) : Touches singleParts s (qualifySingle which s) := by
  unfold qualifySingle
  dsimp only
  split
  · exact .refl _ _
  · exact ((putSingle_touches _ _ _).trans (singleQualified_touches _ _ _ _)).mono (by decide)

/-- A fold of changes within one set of parts. -/
theorem Touches.foldl {α : Type} {ps : List Part} (f : State → α → State) (h : ∀ s a, Touches ps s (f s a))
    (l : List α) (s : State) : Touches ps s (l.foldl f s) := by
  induction l generalizing s with
  | nil => exact .refl _ _
  | cons a l ih => exact (h s a).within (ih _)

theorem qualifyRipeSingles_touches (s : State) : Touches singleParts s (qualifyRipeSingles s) := by
  refine Touches.foldl _ (fun s which => ?_) _ s
  split
  · exact qualifySingle_touches _ _
  · exact .refl _ _

theorem putMeasure_touches (s : State) (which : Measure) (m : MeasureIn) :
    Touches [.supply, .temperature] s (s.putMeasure which m) := by
  cases which
  · exact (touches_withSupply _ _).mono (by decide)
  · exact (touches_withTemperature _ _).mono (by decide)

theorem turnMeasure_touches (which : Measure) (s : State) :
    Touches [.supply, .temperature] s (turnMeasure which s) := putMeasure_touches s _ _

theorem qualifyRipeMeasures_touches (s : State) : Touches [.supply, .temperature] s (qualifyRipeMeasures s) := by
  refine Touches.foldl _ (fun s which => ?_) _ s
  dsimp only
  split
  · exact turnMeasure_touches _ _
  · exact .refl _ _

/-! ### Phases and the port -/

theorem respondWith_touches (code status : Byte) (data : List Byte) (s : State) :
    Touches [.port] s (respondWith code status data s) := touches_withPort s _

/-- A reset changes neither the clock, nor the Configuration Store, nor the queue of commands. -/
theorem resetNode_keeps (cause : ResetCause) (s : State) :
    (resetNode cause s).now = s.now ∧ (resetNode cause s).store = s.store ∧ (resetNode cause s).pending = s.pending :=
  ⟨rfl, rfl, rfl⟩

theorem enterPhase_touches (p : Phase) (s : State) : Touches [.start, .view, .link] s (enterPhase p s) :=
  (touches_withStart _ _).trans (ownChanged_touches _)

/-- What the end of the self-test can change. -/
abbrev listenParts : List Part :=
  [.store, .copy, .objects, .sensors, .start, .view, .req, .faults, .singles, .link, .handover, .supply, .temperature]

theorem enterListen_touches (r : BayRecord) (s : State) : Touches listenParts s (enterListen r s) := by
  unfold enterListen
  refine Touches.within (t := _) ?_
    (((refreshRelay_touches _).trans (qualifyRipeSingles_touches _)).trans (qualifyRipeMeasures_touches _) |>.mono
      (by decide))
  intro p hp
  cases p <;> first | rfl | exact absurd (by decide) hp

theorem endSelfTest_touches (s : State) : Touches listenParts s (endSelfTest s) := by
  unfold endSelfTest
  split
  · exact (touches_withStart _ _).mono (by decide)
  · exact (touches_withStart _ _).mono (by decide)
  · split
    · exact ((touches_withStore _ _).trans (enterListen_touches _ _)).mono (by decide)
    · exact (((touches_withStore _ _).trans (touches_withStart _ _)).trans (beginCondition_touches _ _)).mono (by decide)

theorem enterReady_touches (s : State) : Touches [.start, .view, .link] s (enterReady s) :=
  ((enterPhase_touches _ _).trans (touches_withView _ _)).mono (by decide)

/-- What an erase can change. -/
abbrev eraseParts : List Part := [.store, .faults]

theorem eraseStore_touches (s : State) : Touches eraseParts s (eraseStore s) :=
  (((touches_withStore _ _).trans (endCondition_touches _ _)).trans
    (refreshRelay_touches _)).mono (by decide)

theorem finishDeparture_touches (d : Departure) (s : State) :
    Touches (eraseParts ++ [.port]) s (finishDeparture d s) := by
  cases d
  · exact (respondWith_touches _ _ _ _).mono (by decide)
  · exact (eraseStore_touches _).trans (respondWith_touches _ _ _ _)

theorem endDeparture_touches (s : State) : Touches (.link :: eraseParts ++ [.port]) s (endDeparture s) := by
  unfold endDeparture
  dsimp only
  split
  · exact (touches_withLink _ _).mono (by decide)
  · exact (touches_withLink _ _).trans (finishDeparture_touches _ _)

/-- What the beginning of a departure, or an address conflict, can change. -/
abbrev leaveParts : List Part :=
  [.start, .req, .link, .counters, .claims, .view, .faults, .store, .port]

theorem beginDeparture_touches (d : Departure) (s : State) : Touches leaveParts s (beginDeparture d s) :=
  ((((touches_withStart _ _).trans (touches_withReq _ _)).trans (dropClaiming_touches _ _)).trans
    (requestFinal_touches _)).mono (by decide)

theorem silenceLink_touches (s : State) : Touches [.link] s (silenceLink s) := touches_withLink s _

theorem silenceRequests_touches (s : State) : Touches [.req] s (silenceRequests s) := touches_withReq s _

theorem silenceView_touches (s : State) : Touches [.view, .faults] s (silenceView s) :=
  (touches_withView _ _).trans (endCondition_touches _ _)

theorem conflictDeparture_touches (d : Option Departure) (ended : Bool) (s : State) :
    Touches (eraseParts ++ [.port]) s (conflictDeparture d ended s) := by
  unfold conflictDeparture
  split
  · exact .refl _ _
  · split
    · exact .refl _ _
    · exact finishDeparture_touches _ _

theorem goSilent_touches (s : State) : Touches leaveParts s (goSilent s) :=
  ((((((((touches_withStart _ _).trans (enterPhase_touches _ _)).trans (silenceLink_touches _)).trans
    (beginCondition_touches _ _)).trans (dropClaiming_touches _ _)).trans (silenceRequests_touches _)).trans
    (silenceView_touches _)).trans (conflictDeparture_touches _ _ _)).mono (by decide)

end Sys2Proof.Machine
end

