-- ==== Sys2Proof/Laws/EventFrames.lean ====
section
/-! SUPPORT. Frames of the operations that the commands of one block share: the parts of the state each can change. -/

namespace Sys2Proof.Machine

/-! ### The yard line -/

theorem clearAttempt_touches (s : State) : Touches [.link] s (clearAttempt s) := touches_withLink s _

theorem markerEnded_touches (b : Bool) (s : State) : Touches [.view] s (markerEnded b s) := touches_withView s _

theorem claimSent_touches (id : Byte) (s : State) : Touches [.claims] s (claimSent id s) := by
  unfold claimSent
  split
  · exact .refl _ _
  · split
    · exact touches_withClaims _ _
    · exact .refl _ _

theorem claimAbandoned_touches (id : Byte) (s : State) : Touches headParts s (claimAbandoned id s) := by
  unfold claimAbandoned
  split
  · exact .refl _ _
  · split
    · exact judgeWindow_touches _
    · exact .refl _ _

/-- What a sent STATUS marker can change. -/
abbrev sentParts : List Part := [.link, .view, .start, .store, .port, .faults]

/-- What the abandonment of a STATUS marker can change. -/
abbrev markerParts : List Part := [.link, .view, .start, .counters, .store, .port, .faults]

theorem markerSent_touches (renew final : Bool) (rest : List NormalItem) (a : Attempt) (s : State) :
    Touches sentParts s (markerSent renew final rest a s) := by
  have h : Touches sentParts s (markerEnded a.inReady
      (s.withLink { s.link with normal := rest ++ followingMarker renew final a.frame.final })) :=
    ((touches_withLink _ _).trans (markerEnded_touches _ _)).mono (by decide)
  exact (h.ifThen ((enterReady_touches _).mono (by decide))).ifThen ((endDeparture_touches _).mono (by decide))

theorem countAbandoned_touches (s : State) : Touches [.counters] s (countAbandoned s) := touches_withCounters s _

theorem markerAbandoned_touches (renew final : Bool) (rest : List NormalItem) (s : State) :
    Touches markerParts s (markerAbandoned renew final rest s) := by
  have h : Touches markerParts s (markerEnded false (countAbandoned
      (s.withLink { s.link with normal := rest ++ followingMarker renew final true }))) :=
    (((touches_withLink _ _).trans (countAbandoned_touches _)).trans (markerEnded_touches _ _)).mono (by decide)
  exact (h.ifThen ((requestStatus_touches _).mono (by decide))).ifThen ((endDeparture_touches _).mono (by decide))

theorem urgentCollided_touches (i : UrgentItem) (rest : List UrgentItem) (s : State) :
    Touches [.link, .counters] s (urgentCollided i rest s) := by
  unfold urgentCollided
  split
  · exact (touches_withLink _ _).mono (by decide)
  · exact (touches_withLink _ _).trans (countAbandoned_touches _)

theorem markerCollided_touches (renew final : Bool) (n : Nat) (rest : List NormalItem) (s : State) :
    Touches markerParts s (markerCollided renew final n rest s) := by
  unfold markerCollided
  split
  · exact (touches_withLink _ _).mono (by decide)
  · exact markerAbandoned_touches _ _ _ _

theorem claimCollided_touches (id : Byte) (f : Frame) (n : Nat) (removed : Bool) (rest : List NormalItem) (s : State) :
    Touches headParts s (claimCollided id f n removed rest s) := by
  unfold claimCollided
  split
  · exact (touches_withLink _ _).mono (by decide)
  · split
    · exact (touches_withLink _ _).mono (by decide)
    · exact (((touches_withLink _ _).trans (countAbandoned_touches _)).trans (claimAbandoned_touches _ _)).mono (by decide)

/-- What a collision can change. -/
abbrev collisionParts : List Part := headParts ++ markerParts

theorem collide_touches (a : Attempt) (s : State) : Touches collisionParts s (collide a s) := by
  unfold collide
  dsimp only
  refine Touches.within ((clearAttempt_touches s).mono (by decide)) ?_
  split
  · exact ((urgentCollided_touches _ _ _).trans (pick_touches _)).mono (by decide)
  · exact ((markerCollided_touches _ _ _ _ _).trans (pick_touches _)).mono (by decide)
  · exact ((claimCollided_touches _ _ _ _ _ _).trans (pick_touches _)).mono (by decide)
  · exact .refl _ _

theorem headerFailed_touches (busy : Bool) (s : State) : Touches [.counters, .link] s (headerFailed busy s) :=
  (touches_withCounters _ _).trans (touches_withLink _ _)

theorem headerPassed_touches (h : Header) (s : State) : Touches [.link] s (headerPassed h s) := touches_withLink s _

theorem ownSourceHeader_touches (s : State) : Touches leaveParts s (ownSourceHeader s) := by
  unfold ownSourceHeader
  dsimp only
  split
  · exact (touches_withLink _ _).mono (by decide)
  · exact ((touches_withLink _ _).trans (goSilent_touches _)).mono (by decide)

theorem suspectReport_touches (station : Nat) (s : State) : Touches [.view, .handover] s (suspectReport station s) := by
  unfold suspectReport
  split
  · exact .refl _ _
  · split
    · exact (touches_withView _ _).trans (raiseView_touches _ _ _)
    · exact .refl _ _

theorem goodFrameReport_touches (s : State) : Touches [.view, .faults] s (goodFrameReport s) := by
  unfold goodFrameReport
  split
  · exact (touches_withView _ _).trans (endCondition_touches _ _)
  · exact .refl _ _

theorem bodyFailed_touches (h : Header) (s : State) : Touches [.counters, .view, .handover] s (bodyFailed h s) := by
  unfold bodyFailed
  dsimp only
  split
  · exact (touches_withCounters _ _).mono (by decide)
  · exact (touches_withCounters _ _).trans (suspectReport_touches _ _)

/-- What a received body can change. -/
abbrev bodyParts : List Part := [.link, .view, .faults, .counters, .handover]

theorem goodFrame_touches (f : Frame) (s : State) : Touches bodyParts s (goodFrame f s) := by
  unfold goodFrame
  split
  · exact .refl _ _
  · dsimp only
    refine Touches.within ((goodFrameReport_touches s).mono (by decide)) ?_
    split
    · exact .refl _ _
    · split
      · exact (touches_withLink _ _).mono (by decide)
      · exact ((touches_withCounters _ _).trans (suspectReport_touches _ _)).mono (by decide)

/-! ### Delivery, STATUS and RELEASE -/

theorem markViewTaken_touches (s : State) : Touches [.link] s (markViewTaken s) := touches_withLink s _

theorem finishDelivery_touches (s : State) : Touches [.link] s (finishDelivery s) := touches_withLink s _

theorem putEntry_touches (station : Nat) (e : Entry) (s : State) : Touches [.view] s (putEntry station e s) :=
  touches_withView s _

theorem createEntry_touches (station : Nat) (final : Bool) (c : Content) (s : State) :
    Touches [.view, .handover] s (createEntry station final c s) :=
  Touches.ifThen (((putEntry_touches _ _ _).trans (raiseView_touches _ _ _)).mono (by decide))
    ((raiseView_touches _ _ _).mono (by decide))

theorem refreshEntry_touches (station : Nat) (e : Entry) (joining final : Bool) (c : Content) (s : State) :
    Touches [.view, .handover] s (refreshEntry station e joining final c s) :=
  (((putEntry_touches _ _ _).mono (by decide)).ifElse ((raiseView_touches _ _ _).mono (by decide))).ifThen
    ((raiseView_touches _ _ _).mono (by decide))

theorem takeStatus_touches (station : Nat) (joining final : Bool) (c : Content) (s : State) :
    Touches [.view, .handover] s (takeStatus station joining final c s) := by
  unfold takeStatus
  split
  · exact createEntry_touches _ _ _ _
  · exact refreshEntry_touches _ _ _ _ _ _

theorem applyRelease_touches (station : Nat) (e : Entry) (counter : Byte) (k : Nat) (p : Position) (s : State) :
    Touches [.view, .handover] s (applyRelease station e counter k p s) :=
  ((putEntry_touches _ _ _).mono (by decide)).ifElse ((raiseView_touches _ _ _).mono (by decide))

theorem takeRelease_touches (station : Nat) (body : List Byte) (s : State) :
    Touches [.view, .handover] s (takeRelease station body s) := by
  unfold takeRelease
  split
  · exact .refl _ _
  · split
    · exact .refl _ _
    · split
      · exact .refl _ _
      · exact applyRelease_touches _ _ _ _ _ _

theorem takeClaimPart_touches (station : Nat) (part : Option ClaimPart) (s : State) :
    Touches [.claims] s (takeClaimPart station part s) := by
  unfold takeClaimPart
  split
  · exact .refl _ _
  · exact recordForeign_touches _ _ _ _
  · exact removeForeign_touches _ _
  · split
    · exact touches_withClaims _ _
    · exact recordForeign_touches _ _ _ _

theorem rejoinAnswer_touches (station : Nat) (s : State) : Touches [.claims] s (rejoinAnswer station s) := by
  unfold rejoinAnswer
  split
  · exact touches_withClaims _ _
  · exact .refl _ _

theorem takeStatusClaim_touches (f : Frame) (s : State) : Touches [.claims] s (takeStatusClaim f s) := by
  have h : Touches [.claims] s (if statusJoining f.body then takeJoining f.src s else s) :=
    (Touches.refl _ s).ifThen ((removeForeign_touches _ _).within (rejoinAnswer_touches _ _))
  unfold takeStatusClaim
  dsimp only
  split
  · exact h.within (removeForeign_touches _ _)
  · exact h.ifThen (takeClaimPart_touches _ _ _)

theorem takeReleaseClaim_touches (f : Frame) (s : State) : Touches [.claims] s (takeReleaseClaim f s) := by
  unfold takeReleaseClaim
  split
  · exact .refl _ _
  · split
    · exact removeForeign_touches _ _
    · exact .refl _ _

/-! ### CLAIM, ASSENT, OBJECT and view changes -/

theorem assentIf_touches (b : Bool) (station : Nat) (id : Byte) (s : State) :
    Touches [.link, .counters] s (assentIf b station id s) := by
  unfold assentIf
  split
  · exact handAssent_touches _ _ _
  · exact .refl _ _

theorem respondClaim_touches (r : ClaimResponse) (b : Bool) (station : Nat) (c : ClaimPart) (s : State) :
    Touches headParts s (respondClaim r b station c s) := by
  cases r
  · exact (handObject_touches _ _ _ _).mono (by decide)
  · exact (handObject_touches _ _ _ _).mono (by decide)
  · exact ((withdrawAndReport_touches _ _ _).trans (assentIf_touches _ _ _ _)).mono (by decide)
  · exact (handAssent_touches _ _ _).mono (by decide)
  · exact .refl _ _

theorem judgeClaim_touches (station : Nat) (c : ClaimPart) (s : State) : Touches headParts s (judgeClaim station c s) := by
  unfold judgeClaim
  split
  · exact ((recordForeign_touches _ _ _ _).trans (respondClaim_touches _ _ _ _ _)).mono (by decide)
  · exact (recordForeign_touches _ _ _ _).mono (by decide)

theorem claimFromStale_touches (station : Nat) (c : ClaimPart) (s : State) :
    Touches [.link, .counters] s (claimFromStale station c s) := by
  unfold claimFromStale
  split
  · exact .refl _ _
  · split
    · exact handObject_touches _ _ _ _
    · exact .refl _ _

theorem takeClaim_touches (f : Frame) (s : State) : Touches headParts s (takeClaim f s) := by
  unfold takeClaim
  split
  · split
    · exact .refl _ _
    · split
      · exact (claimFromStale_touches _ _ _).mono (by decide)
      · exact judgeClaim_touches _ _ _
  · exact .refl _ _

theorem takeAssent_touches (f : Frame) (s : State) : Touches [.claims] s (takeAssent f s) := by
  unfold takeAssent
  split
  · exact touches_withClaims _ _
  · exact .refl _ _

theorem takeObject_touches (f : Frame) (s : State) : Touches headParts s (takeObject f s) := by
  unfold takeObject
  split
  · exact ((touches_withClaims _ _).trans (withdrawAndReport_touches _ _ _)).mono (by decide)
  · exact .refl _ _

theorem reevaluate_touches (c : OwnClaim) (s : State) : Touches headParts s (reevaluate c s) := by
  unfold reevaluate
  split
  · exact withdrawAndReport_touches _ _ _
  · have h (r : EvalResult) := setBypassReason_touches r s
    dsimp only
    split
    · exact ((h _).trans (withdrawAndReport_touches _ _ _)).mono (by decide)
    · split
      · exact ((h _).trans (withdrawAndReport_touches _ _ _)).mono (by decide)
      · exact ((h _).trans (touches_withClaims _ _)).mono (by decide)

theorem takeViewReport_touches (v : ViewReport) (s : State) : Touches headParts s (takeViewReport v s) := by
  have h : Touches headParts s (if v.state = some .stale then removeForeign v.station s else s) :=
    (Touches.refl _ s).ifThen ((removeForeign_touches _ _).mono (by decide))
  unfold takeViewReport
  dsimp only
  split
  · exact h
  · exact h.ifElse (reevaluate_touches _ _)

theorem stopWindow_touches (s : State) : Touches [.claims] s (stopWindow s) := touches_withClaims s _

/-! ### Requests -/

theorem joinQueue_touches (op : Operation) (s : State) : Touches headParts s (joinQueue op s) := by
  unfold joinQueue
  dsimp only
  split
  · exact ((touches_withReq _ _).trans (nextHead_touches _)).mono (by decide)
  · exact (touches_withReq _ _).mono (by decide)

theorem handAccept_touches (station : Nat) (tag : Byte) (d : Disposition) (s : State) :
    Touches [.link, .counters] s (handAccept station tag d s) := handUrgent_touches _ s

theorem takeRequest_touches (f : Frame) (s : State) : Touches headParts s (takeRequest f s) := by
  unfold takeRequest
  split
  · exact .refl _ _
  · split
    · exact (handAccept_touches _ _ _ _).mono (by decide)
    · exact ((handAccept_touches _ _ _ _).trans (joinQueue_touches _ _)).mono (by decide)

theorem takeCheck_touches (f : Frame) (s : State) : Touches [.link, .counters] s (takeCheck f s) := by
  unfold takeCheck
  split
  · exact .refl _ _
  · split
    · exact handUrgent_touches _ _
    · exact .refl _ _

theorem withdrawFor_touches (op : Operation) (s : State) : Touches claimParts s (withdrawFor op s) := by
  unfold withdrawFor
  split
  · exact withdrawClaim_touches _ _ _
  · exact .refl _ _

theorem cancelOperation_touches (op : Operation) (station : Nat) (tag : Byte) (s : State) :
    Touches headParts s (cancelOperation op station tag s) :=
  Touches.ifThen ((((withdrawFor_touches _ _).trans (handAccept_touches _ _ _ _)).trans
    (endOperation_touches _ _ _ _)).mono (by decide)) (nextHead_touches _)

theorem takeCancel_touches (f : Frame) (s : State) : Touches headParts s (takeCancel f s) := by
  unfold takeCancel
  dsimp only
  split
  · split
    · exact (handAccept_touches _ _ _ _).mono (by decide)
    · split
      · exact (handAccept_touches _ _ _ _).mono (by decide)
      · exact cancelOperation_touches _ _ _ _
  · exact .refl _ _

theorem takeLocal_touches (slot : Nat) (dir : Direction) (s : State) : Touches headParts s (takeLocal slot dir s) := by
  unfold takeLocal
  split
  · split
    · exact (setLastLocal_touches _ _).mono (by decide)
    · exact joinQueue_touches _ _
  · exact .refl _ _

theorem cancelBySelector_touches (s : State) (op : Operation) : Touches endParts s (cancelBySelector s op) :=
  ((withdrawFor_touches _ _).trans (endOperation_touches _ _ _ _)).mono (by decide)

theorem takeSelector_touches (sel : Selector) (s : State) : Touches headParts s (takeSelector sel s) := by
  unfold takeSelector
  dsimp only
  refine Touches.within ((Touches.foldl _ cancelBySelector_touches (mismatched sel s) s).mono (by decide)) ?_
  split
  · exact nextHead_touches _
  · exact .refl _ _

theorem takePosition_touches (k : Nat) (s : State) : Touches headParts s (takePosition k s) := by
  unfold takePosition
  split
  · exact .refl _ _
  · split
    · exact (((withdrawFor_touches _ _).trans (endOperation_touches _ _ _ _)).trans (nextHead_touches _)).mono (by decide)
    · exact .refl _ _

theorem stopDeferTimer_touches (s : State) : Touches [.req] s (stopDeferTimer s) := touches_withReq s _

theorem endPulse_touches (d : DriveRecord) (s : State) : Touches [.drive] s (endPulse d s) := touches_withDrive s _

/-! ### The maintenance port -/

theorem setGathered_touches (kept arrived : List Byte) (s : State) : Touches [.port] s (setGathered kept arrived s) :=
  touches_withPort s _

theorem clearGathered_touches (s : State) : Touches [.port] s (clearGathered s) := touches_withPort s _

theorem oweBusy_touches (code : Byte) (s : State) : Touches [.port] s (oweBusy code s) := by
  unfold oweBusy
  split
  · exact .refl _ _
  · exact touches_withPort _ _

theorem takeExchange_touches (code : Byte) (s : State) : Touches [.port] s (takeExchange code s) := touches_withPort s _

/-- A port command touches the port, and what its act touches. -/
theorem portCommand_touches {ps : List Part} (code : Byte) (ok : Bool) (act : State → State)
    (h : ∀ s, Touches ps s (act s)) (s : State) : Touches (.port :: ps) s (portCommand code ok act s) := by
  have hport : ∀ {a b : State}, Touches [.port] a b → Touches (.port :: ps) a b :=
    fun h => h.mono (List.cons_subset_cons _ (List.nil_subset _))
  unfold portCommand
  dsimp only
  split
  · exact hport (oweBusy_touches _ _)
  · split
    · exact (hport (takeExchange_touches _ _)).within ((h _).mono (List.subset_cons_self _ _))
    · exact hport ((takeExchange_touches _ _).within (respondWith_touches _ _ _ _))

/-- The bytes of a port command touch the port, and what its act touches. -/
theorem portFrame_touches {ps : List Part} (takes : Byte → Bool) (ok : List Byte → Bool)
    (act : Byte → List Byte → State → State) (h : ∀ code args s, Touches ps s (act code args s)) (bytes : List Byte)
    (s : State) : Touches (.port :: ps) s (portFrame takes ok act bytes s) := by
  have hport : ∀ x, Touches (.port :: ps) s (setGathered x bytes s) := fun x =>
    (setGathered_touches x bytes s).mono (List.cons_subset_cons _ (List.nil_subset _))
  unfold portFrame
  split
  · exact hport _
  · split
    · exact (hport _).within (portCommand_touches _ _ _ (h _ _) _)
    · exact .refl _ _
  · exact .refl _ _
  · exact .refl _ _

theorem answerReadObject_touches (k : Nat) (s : State) : Touches [.port] s (answerReadObject k s) := by
  unfold answerReadObject
  split
  · exact respondWith_touches _ _ _ _
  · exact respondWith_touches _ _ _ _

theorem storeRecord_touches (record : List Byte) (s : State) : Touches [.store, .faults] s (storeRecord record s) :=
  (touches_withStore _ _).trans (endCondition_touches _ _)

theorem writeConfig_touches (record : List Byte) (s : State) :
    Touches [.store, .faults, .port] s (writeConfig record s) := by
  unfold writeConfig
  split
  · exact (respondWith_touches _ _ _ _).mono (by decide)
  · split
    · exact (respondWith_touches _ _ _ _).mono (by decide)
    · exact (storeRecord_touches _ _).trans (respondWith_touches _ _ _ _)

theorem eraseConfig_touches (s : State) : Touches leaveParts s (eraseConfig s) := by
  unfold eraseConfig
  split
  · exact (respondWith_touches _ _ _ _).mono (by decide)
  · split
    · exact beginDeparture_touches _ _
    · exact (finishDeparture_touches _ _).mono (by decide)

theorem restartNode_touches (s : State) : Touches leaveParts s (restartNode s) := by
  unfold restartNode
  split
  · exact (respondWith_touches _ _ _ _).mono (by decide)
  · split
    · exact beginDeparture_touches _ _
    · exact (finishDeparture_touches _ _).mono (by decide)

end Sys2Proof.Machine
end

