-- ==== Sys2Proof/Laws/Tables.lean ====
section
/-! SUPPORT. Tables with strictly rising keys: what a read gives after each change, and that each change keeps the keys
rising. -/

namespace Sys2Proof.Machine

variable {α : Type}

@[simp] theorem tableGet_put_same (t : Table α) (k : Nat) (v : α) : tableGet (tablePut t k v) k = some v := by
  induction t with
  | nil => simp [tablePut, tableGet]
  | cons e rest ih =>
    obtain ⟨j, w⟩ := e
    simp only [tablePut]
    split
    · simp [tableGet]
    · split
      · simp [tableGet]
      · rename_i h
        simp [tableGet, Ne.symm h, ih]

theorem tableGet_put_other (t : Table α) {k j : Nat} (v : α) (h : j ≠ k) :
    tableGet (tablePut t k v) j = tableGet t j := by
  induction t with
  | nil => simp [tablePut, tableGet, Ne.symm h]
  | cons e rest ih =>
    obtain ⟨i, w⟩ := e
    simp only [tablePut]
    split
    · simp [tableGet, Ne.symm h]
    · split
      · rename_i hk
        simp [tableGet, Ne.symm h, ← hk]
      · simp only [tableGet, ih]

theorem tableGet_put (t : Table α) (k j : Nat) (v : α) :
    tableGet (tablePut t k v) j = if j = k then some v else tableGet t j := by
  split
  · rename_i h
    rw [h, tableGet_put_same]
  · rename_i h
    exact tableGet_put_other t v h

@[simp] theorem tableGet_del_same (t : Table α) (k : Nat) : tableGet (tableDel t k) k = none := by
  induction t with
  | nil => rfl
  | cons e rest ih =>
    obtain ⟨i, w⟩ := e
    simp only [tableDel, List.filter_cons]
    split
    · rename_i h
      have hi : i ≠ k := by simpa using h
      rw [tableGet, if_neg hi]
      exact ih
    · exact ih

theorem tableGet_del_other (t : Table α) {k j : Nat} (h : j ≠ k) : tableGet (tableDel t k) j = tableGet t j := by
  induction t with
  | nil => rfl
  | cons e rest ih =>
    obtain ⟨i, w⟩ := e
    simp only [tableDel, List.filter_cons]
    split
    · simpa [tableGet] using by rw [← ih]; rfl
    · rename_i hk
      have hi : i = k := by simpa using hk
      subst hi
      rw [tableGet, if_neg (Ne.symm h)]
      exact ih

theorem tableGet_map (f : α → α) (t : Table α) (k : Nat) : tableGet (tableMap f t) k = (tableGet t k).map f := by
  induction t with
  | nil => rfl
  | cons e rest ih =>
    obtain ⟨i, w⟩ := e
    simp only [tableMap, List.map_cons, tableGet]
    split
    · rfl
    · exact ih

/-- Every pair of a table after a put is the new one or an old one. -/
theorem mem_tablePut {t : Table α} {k : Nat} {v : α} {e : Nat × α} (h : e ∈ tablePut t k v) : e = (k, v) ∨ e ∈ t := by
  induction t with
  | nil => simpa [tablePut] using h
  | cons a rest ih =>
    obtain ⟨j, w⟩ := a
    simp only [tablePut] at h
    split at h
    · simpa using h
    · split at h
      · rcases List.mem_cons.mp h with h | h
        · exact .inl h
        · exact .inr (List.mem_cons_of_mem _ h)
      · rcases List.mem_cons.mp h with h | h
        · exact .inr (h ▸ List.mem_cons_self)
        · exact (ih h).imp_right (List.mem_cons_of_mem _)

theorem mem_of_tableGet {t : Table α} {k : Nat} {v : α} (h : tableGet t k = some v) : (k, v) ∈ t := by
  induction t with
  | nil => cases h
  | cons a rest ih =>
    obtain ⟨j, w⟩ := a
    simp only [tableGet] at h
    split at h
    · rename_i hj
      cases h
      exact hj ▸ List.mem_cons_self
    · exact List.mem_cons_of_mem _ (ih h)

/-! ### The keys stay rising -/

theorem TableOk.put {t : Table α} (h : TableOk t) (k : Nat) (v : α) : TableOk (tablePut t k v) := by
  induction t with
  | nil => simp [tablePut, TableOk]
  | cons a rest ih =>
    obtain ⟨j, w⟩ := a
    have hr : TableOk rest := (List.pairwise_cons.mp h).2
    have hj : ∀ x ∈ rest.map (·.1), j < x := (List.pairwise_cons.mp h).1
    simp only [tablePut]
    split
    · rename_i hk
      refine List.pairwise_cons.mpr ⟨fun x hx => ?_, h⟩
      rcases List.mem_cons.mp hx with hx | hx
      · exact hx ▸ hk
      · exact Nat.lt_trans hk (hj x hx)
    · split
      · rename_i hk
        exact List.pairwise_cons.mpr ⟨by simpa [hk] using hj, hr⟩
      · rename_i h1 h2
        refine List.pairwise_cons.mpr ⟨fun x hx => ?_, ih hr⟩
        obtain ⟨e, he, rfl⟩ := List.mem_map.mp hx
        rcases mem_tablePut he with he | he
        · subst he
          simp only
          omega
        · exact hj _ (List.mem_map_of_mem he)

theorem TableOk.filter {t : Table α} (h : TableOk t) (p : Nat × α → Bool) : TableOk (t.filter p) :=
  h.sublist (List.filter_sublist.map _)

theorem TableOk.del {t : Table α} (h : TableOk t) (k : Nat) : TableOk (tableDel t k) := h.filter _

theorem tableMap_keys (f : α → α) (t : Table α) : (tableMap f t).map (·.1) = t.map (·.1) := by
  simp [tableMap, Function.comp_def]

theorem TableOk.map {t : Table α} (h : TableOk t) (f : α → α) : TableOk (tableMap f t) := by
  unfold TableOk
  rw [tableMap_keys]
  exact h

/-! ### Slots -/

@[simp] theorem objIn_putObj_same (s : State) (k : Nat) (o : ObjIn) : objIn (s.putObj k o) k = o := by
  simp [objIn, State.putObj]

theorem objIn_putObj_other (s : State) {k j : Nat} (o : ObjIn) (h : j ≠ k) : objIn (s.putObj k o) j = objIn s j := by
  simp [objIn, State.putObj, tableGet_put_other _ _ h]

/-- What the Field Interface holds of a slot depends on the object table alone. -/
theorem objIn_congr {s t : State} (h : t.objects = s.objects) (k : Nat) : objIn t k = objIn s k := by
  simp [objIn, h]

end Sys2Proof.Machine
end

