-- ==== Sys2Proof/Laws/Ops.lean ====
section
/-! SUPPORT. What each shared operation does to the part of the state it is about, said once. -/

namespace Sys2Proof.Machine

/-! ### The choice of the current frame -/

/-- The choice of the current frame alters only that choice and the number of free values drawn (R47). -/
theorem pick_eq (l : Link) : ∃ c n, l.pick = { l with current := c, draws := n } := by
  unfold Link.pick
  split
  · exact ⟨l.current, l.draws, rfl⟩
  · split
    · exact ⟨none, l.draws, rfl⟩
    · split
      · exact ⟨l.current, l.draws, rfl⟩
      · exact ⟨_, _, rfl⟩

@[simp] theorem pick_urgent (l : Link) : l.pick.urgent = l.urgent := by obtain ⟨c, n, h⟩ := pick_eq l; rw [h]
@[simp] theorem pick_normal (l : Link) : l.pick.normal = l.normal := by obtain ⟨c, n, h⟩ := pick_eq l; rw [h]
@[simp] theorem pick_inbound (l : Link) : l.pick.inbound = l.inbound := by obtain ⟨c, n, h⟩ := pick_eq l; rw [h]
@[simp] theorem pick_viewTaken (l : Link) : l.pick.viewTaken = l.viewTaken := by obtain ⟨c, n, h⟩ := pick_eq l; rw [h]
@[simp] theorem pick_attempt (l : Link) : l.pick.attempt = l.attempt := by obtain ⟨c, n, h⟩ := pick_eq l; rw [h]
@[simp] theorem pick_header (l : Link) : l.pick.header = l.header := by obtain ⟨c, n, h⟩ := pick_eq l; rw [h]
@[simp] theorem pick_ignoring (l : Link) : l.pick.ignoring = l.ignoring := by obtain ⟨c, n, h⟩ := pick_eq l; rw [h]
@[simp] theorem pick_halted (l : Link) : l.pick.halted = l.halted := by obtain ⟨c, n, h⟩ := pick_eq l; rw [h]

@[simp] theorem State.pick_link (s : State) : s.pick.link = s.link.pick := rfl

/-! ### The urgent queue -/

/-- An urgent frame handed over while the node transmits and a place is free joins at the tail (R44). -/
theorem handUrgent_joins {f : Frame} {s : State} (ht : transmits s.start.phase = true)
    (hr : s.link.urgent.length < Config.urgentPlaces) :
    (handUrgent f s).link.urgent = s.link.urgent ++ [{ frame := f, attempts := 0 }] ∧
      (handUrgent f s).counters = s.counters := by
  simp only [handUrgent, ht, hr, if_true, State.pick_link, pick_urgent]
  exact ⟨rfl, rfl⟩

/-- What a hand-over of an urgent frame leaves of the link (R44): all but the urgent queue and the choice of the current
frame. -/
theorem handUrgent_keeps (f : Frame) (s : State) :
    (handUrgent f s).link.normal = s.link.normal ∧ (handUrgent f s).link.inbound = s.link.inbound ∧
      (handUrgent f s).link.viewTaken = s.link.viewTaken ∧ (handUrgent f s).link.attempt = s.link.attempt ∧
      (handUrgent f s).link.header = s.link.header ∧ (handUrgent f s).link.ignoring = s.link.ignoring ∧
      (handUrgent f s).link.halted = s.link.halted := by
  unfold handUrgent
  split
  · split
    · simp
    · simp
  · simp

/-! ### STATUS requests -/

/-- What a request of a STATUS leaves of the link (R45): all but the normal queue and the choice of the current frame. -/
theorem requestStatus_keeps (s : State) :
    (requestStatus s).link.urgent = s.link.urgent ∧ (requestStatus s).link.inbound = s.link.inbound ∧
      (requestStatus s).link.viewTaken = s.link.viewTaken ∧ (requestStatus s).link.attempt = s.link.attempt ∧
      (requestStatus s).link.header = s.link.header ∧ (requestStatus s).link.ignoring = s.link.ignoring ∧
      (requestStatus s).link.halted = s.link.halted := by
  unfold requestStatus
  split
  · split
    · split <;> simp
    · simp
  · simp

/-- A request of a STATUS while the node transmits and no marker waits: a marker joins at the tail (R45). -/
theorem requestStatus_joins {s : State} (ht : transmits s.start.phase = true) (hm : s.link.normal.any isMarker = false) :
    (requestStatus s).link.normal = s.link.normal ++ [.marker false false 0] := by
  simp [requestStatus, ht, hm]

/-! ### Own-content events -/

/-- The view after an own-content event (R61): the counter alone has changed. -/
theorem ownChanged_view (s : State) :
    (ownChanged s).view = { s.view with counter := if s.copy.isSome then s.view.counter + 1 else s.view.counter } := by
  have hr (x : State) : (requestStatus x).view = x.view := requestStatus_touches x .view (by decide)
  unfold ownChanged
  split
  · dsimp only
    split
    · rw [hr]; simp_all
    · simp_all
  · simp_all

/-- What an own-content event leaves of the link: all but the normal queue and the choice of the current frame. -/
theorem ownChanged_keeps (s : State) :
    (ownChanged s).link.urgent = s.link.urgent ∧ (ownChanged s).link.inbound = s.link.inbound ∧
      (ownChanged s).link.viewTaken = s.link.viewTaken ∧ (ownChanged s).link.attempt = s.link.attempt ∧
      (ownChanged s).link.header = s.link.header ∧ (ownChanged s).link.ignoring = s.link.ignoring ∧
      (ownChanged s).link.halted = s.link.halted := by
  unfold ownChanged
  split
  · dsimp only
    split
    · exact requestStatus_keeps _
    · simp
  · simp

/-! ### Fault flags -/

/-- The fault logic after the pending set has become `p` (R36, R38). -/
theorem setPending_faults {p : CauseSet} {s : State} (h : RelayFollowsFlags s) :
    (setPending p s).faults =
      { pending := p, holding := s.faults.holding, relay := relayFor p (enabledCauses s) } := by
  unfold setPending
  split
  · rename_i hp
    rw [hp, ← h]
  · have hf (x : State) : (ownChanged x).faults = x.faults := ownChanged_touches x .faults (by decide)
    rw [hf]
    rfl

@[simp] theorem setPending_pending (p : CauseSet) (s : State) : (setPending p s).faults.pending = p := by
  unfold setPending
  split
  · rename_i hp
    exact hp.symm
  · have hf (x : State) : (ownChanged x).faults = x.faults := ownChanged_touches x .faults (by decide)
    rw [hf]
    rfl

@[simp] theorem setPending_holding (p : CauseSet) (s : State) : (setPending p s).faults.holding = s.faults.holding := by
  unfold setPending
  split
  · rfl
  · have hf (x : State) : (ownChanged x).faults = x.faults := ownChanged_touches x .faults (by decide)
    rw [hf]
    rfl

/-! ### The end of an operation -/

/-- An operation that ends leaves the queue, and no other operation with another name does (R134 step 4). -/
theorem endOperation_queue (op : Operation) (o : OpOutcome) (r : Reason) (s : State) :
    (endOperation op o r s).req.queue = s.req.queue.filter fun q => !isNamed op.requester op.tag q := by
  have h1 (x : State) : (endHeldClaim true x).req = x.req := endHeldClaim_touches true x .req (by decide)
  have hq (res : LocalResult) (x : State) : (setLastLocal res x).req.queue = x.req.queue := by
    unfold setLastLocal
    split
    · rfl
    · rw [show (ownChanged _).req = _ from ownChanged_touches _ .req (by decide)]
      rfl
  have h2 (x : State) : (answerEnd op o r x).req.queue = x.req.queue := by
    unfold answerEnd
    split
    · rw [show (handUrgent _ x).req = x.req from handUrgent_touches _ x .req (by decide)]
    · exact hq _ x
  unfold endOperation
  dsimp only
  unfold leaveQueue
  simp only [State.withReq_req, State.withCounters_req, h2]
  split
  · rw [h1]
  · rfl

/-- An operation that ends counts DONE and FAILED outcomes (R134 step 3, R140), apart from dropped frames. -/
theorem countEnd_ops (o : OpOutcome) (c : Counters) :
    (countEnd o c).opsDone = (if o = .done then bump c.opsDone else c.opsDone) ∧
      (countEnd o c).opsFailed = (if o = .failed then bump c.opsFailed else c.opsFailed) := by
  cases o <;> simp [countEnd]

/-! ### The erase -/

/-- R14: an erase leaves the copy that the blocks read. -/
@[simp] theorem eraseStore_copy (s : State) : (eraseStore s).copy = s.copy := rfl

/-- R6, R15: after an erase the store holds nothing. -/
@[simp] theorem eraseStore_store (s : State) :
    (eraseStore s).store = { status := .none, stored := none, failing := none } := rfl

/-- R6: after an erase no record is in force. -/
@[simp] theorem recordInForce_eraseStore (s : State) : recordInForce (eraseStore s) = none := rfl

/-! ### Evaluations and the port's receiver -/

/-- An evaluation sets or clears the head's bypass reason, and leaves the rest of the queue (R121). -/
@[simp] theorem setBypassReason_headOp (r : EvalResult) (s : State) :
    headOp (setBypassReason r s) = (headOp s).map fun op => { op with bypassReason := bypassReasonOf r } := by
  simp only [headOp, setBypassReason, State.withReq_req, List.head?_modifyHead]

@[simp] theorem setBypassReason_tail (r : EvalResult) (s : State) :
    (setBypassReason r s).req.queue.tail = s.req.queue.tail := by
  simp only [setBypassReason, State.withReq_req, List.tail_modifyHead]

/-- The bytes gathered stand, or are gone with the gap (R170). -/
theorem gatheredNow_eq (s : State) : gatheredNow s = s.port.gathered ∨ gatheredNow s = [] := by
  unfold gatheredNow
  split
  · exact .inr rfl
  · exact .inl rfl

@[simp] theorem setGathered_port (kept arrived : List Byte) (s : State) :
    (setGathered kept arrived s).port = { s.port with gathered := kept, lastByte := lastByteOf kept arrived s } := rfl

@[simp] theorem clearGathered_port (s : State) :
    (clearGathered s).port = { s.port with gathered := [], lastByte := none } := rfl

end Sys2Proof.Machine
end

