-- ==== Sys2Proof/Tests/Slice0.lean ====
section
/-! SUPPORT. The model's own tests: the ill-formed operands that `wellFormed` refuses, the worked examples of the spec, and
for every statement with hypotheses a theorem that shows a state and operands which meet them. -/

set_option Elab.async false

namespace Sys2Proof.Tests

open Sys2Proof Sys2Proof.Machine

/-! ### WellFormed -/

theorem test_wellFormed_refuses_slots :
    wellFormed (.rawCombinationChange 0 true true) = false ∧ wellFormed (.rawCombinationChange 9 true true) = false ∧
      wellFormed (.qualificationEvent 0) = false ∧ wellFormed (.intermediateLimitExpiry 9) = false ∧
      wellFormed (.readyInputChange 9 true) = false ∧ wellFormed (.readyQualification 0) = false ∧
      wellFormed (.qualificationEvent 1) = true ∧ wellFormed (.qualificationEvent 8) = true := by decide

theorem test_wellFormed_refuses_sensors_and_inputs :
    wellFormed (.sensorInputChange 0 true true) = false ∧ wellFormed (.sensorQualification 4) = false ∧
      wellFormed (.singleInputChange (.localPush 9 .toOpen) true) = false ∧
      wellFormed (.singleInputQualification (.localPush 0 .toClose)) = false ∧
      wellFormed (.sensorQualification 3) = true ∧ wellFormed (.singleInputQualification .selector) = true := by decide

theorem test_wellFormed_refuses_stations_and_symbols :
    wellFormed (.ageingDeadline 0) = false ∧ wellFormed (.holdExpiry 64) = false ∧
      wellFormed (.collision 1792 .dominant) = false ∧
      wellFormed (.headerReceived ⟨.afterIdle, List.replicate 7 (.data 0)⟩) = false ∧
      wellFormed (.ageingDeadline 63) = true ∧ wellFormed (.unknownCommand 10 []) = false ∧
      wellFormed (.headerReceived ⟨.afterIdle, List.replicate 6 (.data 0)⟩) = true := by decide

theorem test_wellFormed_refuses_port_frames :
    ([Instr.readIdentity, .readConfig, .writeConfig, .eraseConfig, .readView, .readObject, .readClaims, .readCounters,
        .clearCounters, .restart, .unknownCommand 0, .portFrameCheckFailed, .portArgumentLengthExceeded].all fun c =>
      !wellFormed (c (List.replicate 131 0)) && wellFormed (c (List.replicate 130 0)) && wellFormed (c [])) = true := by
  decide +kernel

/-! ### Feeder bay 21 (01, Describing Feeder Bay 21) -/

/-- Station 21's MOTOR profile (08, The Travel Limit of 21/1). -/
def motorCells : Profile :=
  [none, some 60, some 35, some 25, some 20, some 70, some 40, some 20, some 12, some 10,
   some 50, some 25, some 10, some 5, some 0, some 40, some 20, some 5, some 0, some 0]

/-- A description of a bay 21 object with NORMAL polarities. -/
def obj (kind : Kind) (a b : Terminal) (base : Nat) : ObjDesc :=
  { kind := kind, term1 := a, term2 := b, base := base, openInverted := false, closedInverted := false,
    readyInverted := false }

/-- The record of feeder 21, with the coupler, station 10, alone expected. -/
def bay : BayRecord :=
  { address := 21, heartbeat := 1000, expected := 1024, depth := 2, claimWindow := 150, deferInterval := 1000,
    stallLimit := 4, qualification := 20, intermediate := 10000, settle := 200, coilPulse := 100, nominal := 110,
    faultMask := 31, localNodes := 3
    objects :=
      [obj .ds (.yard 1) (.localNode 1) 6000, obj .ds (.yard 2) (.localNode 1) 6000,
       obj .cb (.localNode 1) (.localNode 2) 60, obj .ds (.localNode 2) (.localNode 3) 6000,
       obj .es (.localNode 3) .earth 8000]
    sensors := [{ node := .localNode 3, inverted := false }]
    motorProfile := motorCells, coilProfile := List.replicate 20 (some 0) }

/-- The bytes of that record but for its check (R179), with a local node count. -/
def recordCore (locals : Byte) : List Byte :=
  [21, 0x03, 0xE8, 0, 4, 0, 0, 0, 0, 0, 0, 2, 0, 150, 0x03, 0xE8, 4, 20, 0x27, 0x10, 0, 200, 0, 100, 110, 31, locals, 5] ++
  [2, 0x01, 0x81, 0x17, 0x70, 0, 2, 0x02, 0x81, 0x17, 0x70, 0, 1, 0x81, 0x82, 0, 60, 0, 2, 0x82, 0x83, 0x17, 0x70, 0] ++
  [3, 0x83, 0xFF, 0x1F, 0x40, 0] ++ List.replicate 18 0 ++ [1, 0x83, 0, 0, 0, 0, 0] ++
  [0xFF, 60, 35, 25, 20, 70, 40, 20, 12, 10, 50, 25, 10, 5, 0, 40, 20, 5, 0, 0] ++ List.replicate 20 0

/-- The bytes of that record with their check. -/
def record : List Byte := recordCore 3 ++ [0xD5, 0xEE]

/-- An object at an end, ready. -/
def at_ (c : Comb) (p : Position) : ObjIn :=
  { openContact := c == .c10, closedContact := c == .c01, readyContact := true, qualified := some c, position := p,
    ready := .ready }

/-- A published object. -/
def pub (kind : Kind) (a b : Terminal) (p : Position) : PubObject := { kind := kind, term1 := a, term2 := b, position := p }

/-- Coupler 10's content, its breaker at a position (05, A Bus Transfer at Feeder 21). -/
def coupler (p : Position) : Content :=
  { phase := .ready, selector := .remoteMode, bypass := .off, heartbeat := 1000, counter := 40, cause := .powerOn,
    pending := 0, lastLocal := none
    objects :=
      [pub .cb (.localNode 1) (.localNode 2) p, pub .ds (.yard 1) (.localNode 1) .closed,
       pub .ds (.yard 2) (.localNode 2) .closed]
    sensors := [{ node := .yard 1, indication := .present }] }

/-- The node in READY in the starting state of the transfer: 21/1, 21/3, 21/4 CLOSED, 21/2, 21/5 OPEN, the line live, the
selector REMOTE, the supply at 94.6 V and the kiosk at -13 °C, the coupler's entry in a state. -/
def yardWith (e : EntryState) (p : Position) : State :=
  { State.reset with
    store := { status := .inForce, stored := some record, failing := none }
    copy := some bay
    start := { phase := .ready, cause := .powerOn, listen := none, announce := none, departure := none }
    objects := [(1, at_ .c01 .closed), (2, at_ .c10 .opened), (3, at_ .c01 .closed), (4, at_ .c01 .closed),
      (5, at_ .c10 .opened), (6, {}), (7, {}), (8, {})]
    sensors := [(1, { presenceContact := true, healthyContact := true
                      qualified := some { presence := true, healthy := true }, indication := .present }), (2, {}), (3, {})]
    singles := { State.reset.singles with selector := { contact := true, qualified := some true } }
    supply := { valid := true, value := 946, inRange := true, since := 0 }
    temperature := { valid := true, value := -13, inRange := true, since := 0 }
    view := { State.reset.view with entries := [(10, { state := e, content := coupler p, lastGood := 0 })] } }

/-- The starting state of the transfer. -/
def base : State := yardWith .fresh .closed

/-- The panel's bypass: selector LOCAL, key ON. -/
def atPanel (s : State) : State :=
  { s with singles := { s.singles with
      selector := { contact := false, qualified := some false }, bypassKey := { contact := true, qualified := some true } } }

/-- A state with object `k` as given. -/
def put (k : Nat) (o : ObjIn) (s : State) : State := s.putObj k o

/-- A state with a frame at the head of the inbound queue. -/
def deliver (f : Frame) (s : State) : State := { s with link := { s.link with inbound := [f] } }

/-- A state whose View Manager has taken the inbound head. -/
def viewed (s : State) : State := { s with link := { s.link with viewTaken := true } }

/-- A frame from a station. -/
def frame (t : FrameType) (src dst : Nat) (body : List Byte) : Frame :=
  { type := t, src := src, dst := dst, final := false, body := body }

/-- The closing of 21/2 for gateway 60. -/
def closing (st : OpState) : Operation :=
  { requester := 60, tag := 7, object := 2, dir := .toClose, cls := 0, source := .remote, state := st, deferCount := 0,
    lastDeferral := none, travelLimit := some 7860, bypassReason := none }

/-- The claim of that closing. -/
def claimOf (held : Bool) : OwnClaim :=
  { held := held, id := 5, round := if held then 0 else 1, cls := 0, deferCount := 0, holdLimit := 1006, nodes := 6,
    object := 2, dir := .toClose, source := .remote, startPos := .opened }

/-- The drive of that closing. -/
def driveOf (settling : Bool) : DriveRecord :=
  { object := 2, dir := .toClose, kind := .motor, start := .c10, target := .c01, settling := settling,
    energized := !settling, departed := settling, travel := if settling then none else some 7860
    departure := if settling then none else some 3930, coilPulse := none, settle := if settling then some 200 else none }

/-- The closing waits, CLAIMING, with its window running. -/
def claiming : State :=
  { base with
    req := { base.req with queue := [closing .claiming] }
    claims := { base.claims with own := some (claimOf false), answers := [(10, .assented)], window := some 150 } }

/-- The closing waits, DEFERRED. -/
def deferred : State :=
  { base with req := { base.req with queue := [closing .deferred], deferTimer := some 1000 } }

/-- The closing is under way, TRAVELLING or SETTLING. -/
def driving (settling : Bool) : State :=
  { base with
    objects := [(1, at_ .c01 .closed), (2, { at_ .c10 .opened with commanded := true }), (3, at_ .c01 .closed)]
    req := { base.req with queue := [closing (if settling then .settling else .travelling)] }
    claims := { base.claims with own := some (claimOf true) }
    drive := { record := some (driveOf settling), openOutputs := 0, closeOutputs := if settling then 0 else 2 } }

/-- 21/2 in a state with other contacts. -/
def contacts2 (o c : Bool) (s : State) : State := put 2 { objIn s 2 with openContact := o, closedContact := c } s

/-! ### Worked examples of the spec -/

/-- The check value of the CRC that R176 describes. -/
theorem test_crc_check_value : crc16 [0x31, 0x32, 0x33, 0x34, 0x35, 0x36, 0x37, 0x38, 0x39] = 0x29B1 := by decide +kernel

/-- 08, The Travel Limit of 21/1, first table: 7,860 ms, 3,930 ms and 1,006 units. -/
theorem test_travel_limit_of_21_1 :
    (objDesc base 1).bind (travelLimit base) = some 7860 ∧ departureLimit 7860 = 3930 ∧ holdLimitOf 7860 200 = 1006 := by
  decide +kernel

/-- 08, second table: supply FAULT, temperature FAULT, 86.9 V, and 121.0 V at +25 °C. -/
theorem test_travel_limit_other_readings :
    (objDesc base 1).bind (travelLimit { base with supply := { base.supply with valid := false } }) = some 8400 ∧
      (objDesc base 1).bind (travelLimit { base with temperature := { base.temperature with valid := false } }) = none ∧
      (objDesc base 1).bind (travelLimit { base with supply := { base.supply with value := 869 } }) = none ∧
      (objDesc base 1).bind (travelLimit { base with
        supply := { base.supply with value := 1210 }, temperature := { base.temperature with value := 25 } }) =
          some 6000 := by
  decide +kernel

/-- 05, Closing 21/2 with the coupler closed. -/
theorem test_transfer_parallel :
    evaluate base 2 .toClose .remote =
      { verdict := .permitted, basis := .parallel, reason := .none, nodes := some 6 } := by decide +kernel

/-- 05, Opening 21/1 with the coupler open. -/
theorem test_transfer_both_live :
    evaluate (put 2 (at_ .c01 .closed) (yardWith .fresh .opened)) 1 .toOpen .remote =
      { verdict := .refused, basis := .none, reason := .bothLive, nodes := none } := by decide +kernel

/-- 05, Closing 21/2 with the coupler's entry STALE, REMOTE and under bypass. -/
theorem test_transfer_stale_coupler :
    evaluate (yardWith .stale .closed) 2 .toClose .remote =
        { verdict := .refused, basis := .none, reason := .bothLive, nodes := none } ∧
      evaluate (atPanel (yardWith .stale .closed)) 2 .toClose .localPanel =
        { verdict := .permittedBypass, basis := .bypass, reason := .bothLive, nodes := some 6 } := by decide +kernel

/-- 05, A Missing Station After a Restart: the busbar operation waits, the earthing switch does not. -/
theorem test_missing_station :
    (evaluate { base with view := { base.view with entries := [] } } 2 .toOpen .remote).reason = .missingStation ∧
      evaluate (put 4 (at_ .c10 .opened) { base with view := { base.view with entries := [] } }) 5 .toOpen .remote =
        { verdict := .permitted, basis := .noCondition, reason := .none, nodes := some 0 } := by decide +kernel

/-- A long CRC in three parts. -/
theorem crc_in_parts (l : List Byte) (r : Half) :
    l.foldl crcByte r =
      (l.drop 80).foldl crcByte (((l.drop 40).take 40).foldl crcByte ((l.take 40).foldl crcByte r)) := by
  rw [← List.foldl_append, ← List.foldl_append]
  congr 1
  have h : l.drop 80 = (l.drop 40).drop 40 := by simp
  rw [h, List.take_append_drop, List.take_append_drop]

theorem record_crc_first : ((recordCore 3).take 40).foldl crcByte 0xFFFF = 9463 := by decide +kernel

theorem record_crc_second : (((recordCore 3).drop 40).take 40).foldl crcByte 9463 = 16058 := by decide +kernel

theorem record_crc_third : ((recordCore 3).drop 80).foldl crcByte 16058 = 0xD5EE := by decide +kernel

theorem record_crc : checkBytes (recordCore 3) = [0xD5, 0xEE] := by
  rw [checkBytes, crc16, crc_in_parts, record_crc_first, record_crc_second, record_crc_third]
  decide

/-- The first failing place of some checks. -/
def firstFailing (cs : List (Bool × Place)) : Option Place := cs.findSome? fun c => if c.1 then none else some c.2

theorem checkRecord_of_crc (r : List Byte) (h : checkBytes (slice r 0 123) = slice r 123 2) :
    checkRecord r = firstFailing (recordChecks r).tail := by
  simp [checkRecord, recordChecks, h, firstFailing]

theorem record_core_length : (recordCore 3).length = 123 := by decide +kernel

theorem record_first : slice record 0 123 = recordCore 3 := List.take_left' record_core_length

theorem record_last : [0xD5, 0xEE] = slice record 123 2 := by
  rw [slice, record, List.drop_left' record_core_length]
  rfl

theorem record_fields : firstFailing (recordChecks record).tail = none := by decide +kernel

/-- 01, A Refused Write and Its Correction: the corrected record passes. -/
theorem test_record_passes : checkRecord record = none := by
  have h : checkBytes (slice record 0 123) = slice record 123 2 :=
    (congrArg checkBytes record_first).trans (record_crc.trans record_last)
  exact (checkRecord_of_crc record h).trans record_fields

/-- 01, A Refused Write and Its Correction: after the record check, local node count 2 fails field 15 index 4. -/
theorem test_record_refused :
    firstFailing (recordChecks (recordCore 2 ++ [0, 0])).tail = some { field := 15, index := 4 } := by decide +kernel

/-- 01 R8 to R10, 11 R179: the bytes give feeder 21's record. -/
theorem test_record_parses : parseRecord record = bay := by decide +kernel

/-- 04, A RELEASE Ahead of Its STATUS: one ahead replaces position and counter, two ahead the position alone. -/
theorem test_release_counters : counterAfter 41 42 = 42 ∧ counterAfter 40 42 = 40 ∧ counterAfter 255 0 = 0 := by decide

/-- 01 R7: the identity as READ_IDENTITY sends it. -/
theorem test_identity : identityData = [0x09, 0x0D, 0x01, 0xA2, 0x03] := by decide

/-- 06 R98: a class 1 claim with a defer count of 0 is better than a class 0 claim with a defer count of 15. -/
theorem test_rank_class_stands_above_ageing :
    rankBetter { cls := 1, deferCount := 0, address := 63 } { cls := 0, deferCount := 15, address := 1 } = true := by decide

/-! ### Witnesses: states and operands that meet the hypotheses of the statements -/

/-- FrontCommandRuns, IdleStepPassesAMillisecond. -/
theorem test_witness_steps :
    { State.reset with pending := [Instr.powerOn, .supplyDip] }.pending = .powerOn :: [.supplyDip] ∧
      State.reset.pending = [] := ⟨rfl, rfl⟩

/-- ResetsClearEveryBlock: each of the three resets. -/
theorem test_witness_resets :
    ∀ p, p ∈ [(Instr.powerOn, ResetCause.powerOn), (.supplyDip, .supplyDip), (.resetLine, .resetLine)] →
      ∃ t, Sys2Proof.Machine.exec p.1 base = .next t := by
  intro p h
  simp only [List.mem_cons, List.not_mem_nil, or_false] at h
  rcases h with rfl | rfl | rfl <;> exact ⟨_, rfl⟩

/-- A reset state with a store. -/
def stored (status : RecordStatus) (bytes : List Byte) : State :=
  { State.reset with store := { status := status, stored := some bytes, failing := none } }

/-- SelfTestEndJudgesTheStore: no record, a record with a wrong check, feeder 21's record. -/
theorem test_witness_self_test :
    (State.reset.start.phase = .selfTest ∧ State.reset.faults = Faults.clear ∧ State.reset.copy = none ∧
        State.reset.store.status = .none) ∧
      ((stored .inForce []).start.phase = .selfTest ∧ (stored .inForce []).faults = Faults.clear ∧
        (stored .inForce []).copy = none ∧ (stored .inForce []).store.status ≠ .none ∧
        (stored .inForce []).store.stored = some [] ∧ checkRecord [] = some { field := 18, index := 0 }) ∧
      ((stored .stored record).start.phase = .selfTest ∧ (stored .stored record).faults = Faults.clear ∧
        (stored .stored record).copy = none ∧ (stored .stored record).store.status ≠ .none ∧
        (stored .stored record).store.stored = some record ∧ checkRecord record = none) ∧
      (tableGet (stored .stored record).objects 8).isSome = true ∧
      (tableGet (stored .stored record).sensors 3).isSome = true :=
  ⟨by decide, by decide +kernel, ⟨rfl, rfl, rfl, nofun, rfl, test_record_passes⟩, by decide, by decide⟩

theorem record_length : record.length = 125 := by decide +kernel

/-- SelfTestEndJudgesTheStore: the places of feeder 21's record, of a record without sensors, and of one of eight objects;
and feeder 21's record is an admitted one. -/
theorem test_witness_record_places :
    record.length = 125 ∧ (recordPlaces record).length = 25 ∧
      (recordPlaces (List.replicate 27 0 ++ [8] ++ List.replicate 97 0)).length = 27 ∧
      (List.replicate 27 0 ++ [(8 : Byte)] ++ List.replicate 97 0).length = 125 :=
  ⟨record_length, by decide +kernel, by decide +kernel, by decide +kernel⟩

theorem cells_rated (p : Profile) (h : (p.all fun x => x.all fun n => decide (n ≤ 250)) = true) :
    ∀ n, some n ∈ p → n ≤ 250 := fun _ hn => by simpa using List.all_eq_true.mp h _ hn

theorem test_witness_admitted_record : RecordAdmitted bay := by
  refine ⟨⟨by decide, by decide, 21, rfl⟩, ⟨by decide, by decide, 20, rfl⟩, by decide, by decide,
    ⟨by decide, by decide, 2, rfl⟩, ⟨by decide, by decide, 15, rfl⟩, ⟨by decide, by decide, 10, rfl⟩, by decide,
    ⟨by decide, by decide, 4, rfl⟩, ⟨by decide, by decide, 100, rfl⟩, ⟨by decide, by decide, 20, rfl⟩,
    ⟨by decide, by decide, 10, rfl⟩, ⟨by decide, by decide, 110, rfl⟩, by decide, ⟨by decide, by decide, 5, rfl⟩, ?_,
    by decide, ?_, ?_, ?_⟩
  · intro d hd
    simp only [bay, List.mem_cons, List.not_mem_nil, or_false] at hd
    rcases hd with rfl | rfl | rfl | rfl | rfl
    · exact ⟨by decide, nofun, fun _ => by decide, by decide, by decide, 600, rfl⟩
    · exact ⟨by decide, nofun, fun _ => by decide, by decide, by decide, 600, rfl⟩
    · exact ⟨by decide, nofun, fun _ => by decide, by decide, by decide, 6, rfl⟩
    · exact ⟨by decide, nofun, fun _ => by decide, by decide, by decide, 600, rfl⟩
    · exact ⟨by decide, fun _ => rfl, fun h => absurd rfl h, by decide, by decide, 800, rfl⟩
  · intro d hd
    simp only [bay, List.mem_cons, List.not_mem_nil, or_false] at hd
    subst hd
    decide
  · exact ⟨by decide, cells_rated _ (by decide), by decide⟩
  · exact ⟨by decide, cells_rated _ (by decide), by decide⟩

/-- A phase with its timers. -/
def inPhase (p : Phase) (s : State) : State :=
  { s with start := { s.start with phase := p, listen := some 6000, announce := some 6420 } }

/-- ListenAndAnnounceTimersLeadToTheStatus. -/
theorem test_witness_listen_and_announce :
    ((inPhase .listen base).start.phase = .listen ∧ (inPhase .listen base).start.listen = some 6000 ∧
        (inPhase .listen base).copy = some bay) ∧
      ((inPhase .announce base).start.phase = .announce ∧ (inPhase .announce base).start.announce = some 6420 ∧
        (inPhase .announce base).link.normal.any isMarker = false) := by decide

/-- ContactChangesRestartPersistence: the operands at both ends of their ranges. -/
theorem test_witness_contacts :
    slotOk 1 = true ∧ slotOk 8 = true ∧ sensorOk 1 = true ∧ sensorOk 3 = true ∧
      singleInputOk (.localPush 8 .toOpen) = true ∧ singleInputOk .selector = true := by decide

/-- UncommandedQualificationSetsThePosition: 21/2 to each combination that is not its own, and a FAULTY object that
keeps its position at 00. -/
theorem test_witness_uncommanded :
    (∀ p, p ∈ [(false, false), (false, true), (true, true)] →
      ∃ d, objDesc (contacts2 p.1 p.2 base) 2 = some d ∧ (objIn (contacts2 p.1 p.2 base) 2).commanded = false ∧
        (objIn (contacts2 p.1 p.2 base) 2).qualified ≠ some (rawComb d (objIn (contacts2 p.1 p.2 base) 2))) := by
  intro p h
  refine ⟨obj .ds (.yard 2) (.localNode 1) 6000, rfl, ?_⟩
  simp only [List.mem_cons, List.not_mem_nil, or_false] at h
  rcases h with rfl | rfl | rfl <;> decide +kernel

/-- 21/2 FAULTY with 11 qualified, and other contacts. -/
def faulty2 (o c : Bool) : State :=
  contacts2 o c (put 2 { at_ .c10 .faulty with qualified := if o && c then some .c00 else some .c11 } base)

/-- FaultyLeavesOnlyAtAnEnd: each of the four combinations. -/
theorem test_witness_faulty :
    ∀ p, p ∈ [(false, false), (false, true), (true, false), (true, true)] →
      positionOf (faulty2 p.1 p.2) 2 = .faulty ∧
        ∃ d, objDesc (faulty2 p.1 p.2) 2 = some d ∧
          (objIn (faulty2 p.1 p.2) 2).qualified ≠ some (rawComb d (objIn (faulty2 p.1 p.2) 2)) ∧
          rawComb d (objIn (faulty2 p.1 p.2) 2) = combOf p.1 p.2 := by
  intro p h
  simp only [List.mem_cons, List.not_mem_nil, or_false] at h
  rcases h with rfl | rfl | rfl | rfl <;>
    exact ⟨by decide +kernel, obj .ds (.yard 2) (.localNode 1) 6000, rfl, by decide +kernel, by decide +kernel⟩

/-- 21/2 MOVING, its intermediate timer running. -/
def moving2 : State :=
  put 2 { at_ .c10 .moving with qualified := some .c00, openContact := false, intermediate := some 10000 } base

/-- FlagsClearOnlyByEdgeOrReset, PositionsChangeOnlyByTheirOwnEvents: the intermediate limit of 21/2. -/
theorem test_witness_own_events :
    ∃ t, Sys2Proof.Machine.exec (.intermediateLimitExpiry 2) moving2 = .next t ∧
      positionOf t 2 ≠ positionOf moving2 2 ∧ Instr.intermediateLimitExpiry 2 ≠ .singleInputQualification .faultReset ∧
      Instr.intermediateLimitExpiry 2 ≠ .selfTestEnd ∧ ¬ mayReset (.intermediateLimitExpiry 2) :=
  ⟨_, rfl, by decide +kernel, nofun, nofun, by simp [mayReset]⟩

/-- The reset state without slots. -/
def bare : State := { State.reset with objects := [] }

/-- StepsKeepPositionsFollowingCombinations. -/
theorem test_witness_positions : PositionsFollowCombinations bare ∧ ∃ t, Sys2Proof.Machine.step bare = .next t :=
  ⟨fun _ => rfl, _, rfl⟩

/-- IntermediateLimitMakesFaulty. -/
theorem test_witness_intermediate :
    (objIn moving2 2).intermediate = some 10000 ∧ positionOf moving2 2 = .moving ∧ (objIn moving2 2).commanded = false ∧
      1 ≤ 2 ∧ 2 ≤ objectCount moving2 ∧ causeIn moving2.faults.holding .objectFaulty = false := by decide +kernel

/-- A sensor whose healthy contact has opened, and one whose presence has gone. -/
def sensor1 (presence healthy : Bool) : State :=
  { base with sensors := [(1, { sensorIn base 1 with presenceContact := presence, healthyContact := healthy })] }

/-- ReadyAndSensorQualification: a changed indication, and a changed pair that leaves it UNKNOWN. -/
theorem test_witness_ready_and_sensor :
    (∃ d, objDesc base 1 = some d ∧
      (objIn (put 1 { at_ .c01 .closed with readyContact := false } base) 1).ready ≠
        rawReady d (objIn (put 1 { at_ .c01 .closed with readyContact := false } base) 1)) ∧
      (∃ d, sensorDesc base 1 = some d ∧ (sensorIn (sensor1 false true) 1).qualified ≠
        some (rawPair d (sensorIn (sensor1 false true) 1))) ∧
      ∃ d, sensorDesc base 1 = some d ∧ (sensorIn (sensor1 true false) 1).qualified ≠
        some (rawPair d (sensorIn (sensor1 true false) 1)) :=
  ⟨⟨_, rfl, by decide +kernel⟩, ⟨_, rfl, by decide +kernel⟩, ⟨_, rfl, by decide +kernel⟩⟩

/-- A state in which a single input's contact differs from its qualified state. -/
def turned (i : SingleInput) (contact : Bool) : State :=
  base.putSingle i { contact := contact, qualified := some (!contact) }

/-- SingleInputQualification: each kind of input, a rising edge of each push. -/
theorem test_witness_singles :
    NoTravelCondition (turned .faultReset true) ∧
    ∀ i, i ∈ [SingleInput.selector, .bypassKey, .synchroPermit, .faultReset, .localPush 1 .toOpen,
        .localPush 8 .toClose] →
      singleInputOk i = true ∧ (singleOf (turned i true) i).qualified ≠ some (singleOf (turned i true) i).contact ∧
        (singleOf (turned i true) i).qualified = some false ∧ (singleOf (turned i true) i).contact = true := by
  refine ⟨by unfold NoTravelCondition; decide +kernel, ?_⟩
  intro i h
  simp only [List.mem_cons, List.not_mem_nil, or_false] at h
  rcases h with rfl | rfl | rfl | rfl | rfl | rfl <;> decide +kernel

/-- MeasurementsFollowTheirReadings: the ends of both ranges, the nearest readings outside them, and a change of state. -/
theorem test_witness_measurements :
    (∀ p, p ∈ [(Measure.supply, (0 : Int)), (.supply, 300000), (.temperature, -60000), (.temperature, 100000)] →
      (rangeMilli p.1).1 ≤ p.2 ∧ p.2 ≤ (rangeMilli p.1).2) ∧
      (∀ p, p ∈ [(Measure.supply, (-1 : Int)), (.supply, 300001), (.temperature, -60001), (.temperature, 100001)] →
        p.2 < (rangeMilli p.1).1 ∨ (rangeMilli p.1).2 < p.2) ∧
      (measureOf { base with supply := { base.supply with inRange := false } } .supply).inRange ≠
        (measureOf { base with supply := { base.supply with inRange := false } } .supply).valid := by decide +kernel

/-! ### Witnesses: drives -/

/-- The common hypotheses of a driven 21/2. -/
def Driven2 (s : State) (settling : Bool) : Prop :=
  objDesc s 2 = some (obj .ds (.yard 2) (.localNode 1) 6000) ∧ (objIn s 2).commanded = true ∧
    s.drive.record = some (driveOf settling) ∧ (driveOf settling).object = 2 ∧
    (driveOf settling).target = targetComb (driveOf settling).dir ∧
    (driveOf settling).start = startComb (driveOf settling).dir ∧ (driveOf settling).settling = settling ∧
    headOp s = some (closing (if settling then .settling else .travelling)) ∧ s.req.queue.length = 1 ∧
    isDriven (closing (if settling then .settling else .travelling)) = true ∧ s.claims.own = some (claimOf true)

/-- 21/2 under drive with a qualified combination and other contacts. -/
def driven2 (settling : Bool) (q : Comb) (o c : Bool) : State :=
  contacts2 o c (put 2 { objIn (driving settling) 2 with qualified := some q } (driving settling))

/-- A qualification event is due at 21/2, of a combination. -/
def Turns2 (s : State) (c : Comb) : Prop :=
  (objIn s 2).qualified ≠ some c ∧ rawComb (obj .ds (.yard 2) (.localNode 1) 6000) (objIn s 2) = c

/-- TravellingDriveDepartsAndArrives: 00, and the target. -/
theorem test_witness_departs_and_arrives :
    (Driven2 (driven2 false .c10 false false) false ∧ Turns2 (driven2 false .c10 false false) .c00) ∧
      Driven2 (driven2 false .c00 false true) false ∧ Turns2 (driven2 false .c00 false true) .c01 := by
  unfold Driven2 Turns2
  decide +kernel

/-- QualificationEndsTheDriveFailed: the start combination and 11 in travel, 00 and the start combination in the settle. -/
theorem test_witness_drive_failed :
    (Driven2 (driven2 false .c00 true false) false ∧ Turns2 (driven2 false .c00 true false) .c10) ∧
      (Driven2 (driven2 false .c00 true true) false ∧ Turns2 (driven2 false .c00 true true) .c11) ∧
      (Driven2 (driven2 true .c01 false false) true ∧ Turns2 (driven2 true .c01 false false) .c00) ∧
      Driven2 (driven2 true .c01 true false) true ∧ Turns2 (driven2 true .c01 true false) .c10 := by
  unfold Driven2 Turns2
  decide +kernel

/-- A drive with its coil pulse running. -/
def pulsing : State :=
  { driving false with
    drive := { (driving false).drive with record := some { driveOf false with kind := .coil, coilPulse := some 100 } } }

/-- The closing under way with departure seen: 21/2 has left its end and is MOVING. -/
def departed2 : State :=
  { put 2 { at_ .c00 .moving with commanded := true } (driving false) with
    drive := { (driving false).drive with record := some { driveOf false with departed := true, departure := none } } }

/-- DriveTimersEndTheDrive: the four timers, the travel timer with departure seen and before it. -/
theorem test_witness_drive_timers :
    (Driven2 (driving false) false ∧ (driveOf false).departure = some 3930 ∧ (driveOf false).travel = some 7860) ∧
      (departed2.drive.record = some { driveOf false with departed := true, departure := none } ∧
        headOp departed2 = some (closing .travelling) ∧ departed2.claims.own = some (claimOf true)) ∧
      (Driven2 (driving true) true ∧ (driveOf true).settle = some 200) ∧
      pulsing.drive.record.bind (·.coilPulse) = some 100 ∧ headOp pulsing = some (closing .travelling) ∧
      pulsing.claims.own = some (claimOf true) := by
  unfold Driven2
  decide +kernel

/-- A travel expiry with departure seen (R155): TRAVEL_TIMEOUT and MOVING in the RESULT (R177), and the intermediate timer
from its full length. -/
theorem test_travel_expiry :
    ∃ t, execTravelExpiry departed2 = .next t ∧ t.now = 7860 ∧
      (objIn t 2).intermediate = some (7860 + fieldOf departed2 (·.intermediate)) ∧
      (t.link.urgent.getLast?).map (·.frame.body.drop 6) = some [0x12, 0x03] := by
  refine ⟨_, rfl, ?_⟩
  decide +kernel

/-- A travel expiry while the departure timer runs (R146, R155): NO_DEPARTURE at the departure deadline, still OPEN. -/
theorem test_travel_expiry_before_departure :
    ∃ t, execTravelExpiry (driving false) = .next t ∧ t.now = 3930 ∧
      (t.link.urgent.getLast?).map (·.frame.body.drop 6) = some [0x11, 0x01] := by
  refine ⟨_, rfl, ?_⟩
  decide +kernel

/-! ### Witnesses: requests -/

/-- A REQUEST of gateway 60. -/
def asked (dst : Nat) (body : List Byte) : State := deliver (frame .request 60 dst body) base

/-- A state with a departure pending. -/
def departing (s : State) : State := { s with start := { s.start with departure := some .restart } }

/-- ScreenedRequestsChangeNothing: each case, at the values next to the ranges. -/
theorem test_witness_screened :
    ((inPhase .announce (asked 21 [7, 2, 2, 0])).start.phase ≠ .ready ∧
        (inboundHead (inPhase .announce (asked 21 [7, 2, 2, 0]))).map (·.type) = some .request) ∧
      (departing (asked 21 [7, 2, 2, 0])).start.departure ≠ none ∧
      (inboundHead (asked 0 [7, 2, 2, 0])).map (·.dst) = some 0 ∧
      (∀ b, b ∈ [[7, 0, 2, 0], [7, 9, 2, 0], [7, 2, 0, 0], [7, 2, 3, 0], [7, 2, 2, (2 : Byte)]] →
        inboundHead (asked 21 b) = some (frame .request 60 21 b) ∧
          (natAt b 1 < 1 ∨ 8 < natAt b 1 ∨ (natAt b 2 ≠ 1 ∧ natAt b 2 ≠ 2) ∨ (natAt b 3 ≠ 0 ∧ natAt b 3 ≠ 1))) := by
  decide +kernel

/-- A queue of two operations. -/
def twoWaiting (s : State) : State :=
  { s with req := { s.req with queue := [closing .deferred, { closing .queued with tag := 8, object := 4 }] } }

/-- RequestsAreCheckedInOrder: its common hypotheses, a state for each refusal, and one for QUEUED. -/
theorem test_witness_requests :
    (inboundHead (asked 21 [7, 2, 2, 0]) = some (frame .request 60 21 [7, 2, 2, 0]) ∧
        (asked 21 [7, 2, 2, 0]).start.phase = .ready ∧ (asked 21 [7, 2, 2, 0]).start.departure = none ∧
        1 ≤ natAt [7, 2, 2, 0] 1 ∧ natAt [7, 2, 2, 0] 3 ≤ 1 ∧ directionOfCode (natAt [7, 2, 2, 0] 2) = some .toClose) ∧
      RequestRefused (atPanel base) 60 7 2 .toClose .selector ∧ RequestRefused base 60 7 6 .toClose .noObject ∧
      RequestRefused (faulty2 false false) 60 7 2 .toClose .faulty ∧ RequestRefused moving2 60 7 2 .toClose .moving ∧
      RequestRefused base 60 7 2 .toOpen .already ∧ RequestRefused deferred 60 7 2 .toClose .duplicateTag ∧
      RequestRefused (twoWaiting base) 60 9 2 .toClose .queueFull ∧
      (∀ d, ¬ RequestRefused base 60 7 2 .toClose d) := by
  refine ⟨by decide +kernel,
    show selectorOf (atPanel base) ≠ .remoteMode by decide +kernel, ?_, ?_, ?_, ?_, ?_, ?_, ?_⟩
  · exact ⟨by decide +kernel, show objectCount base < 6 by decide +kernel⟩
  · exact ⟨by decide +kernel, show 2 ≤ objectCount (faulty2 false false) ∧ _ by decide +kernel⟩
  · exact ⟨by decide +kernel, show 2 ≤ objectCount moving2 ∧ (_ ∨ _) by decide +kernel⟩
  · exact ⟨by decide +kernel, show 2 ≤ objectCount base ∧ _ by decide +kernel⟩
  · exact ⟨by decide +kernel, show 2 ≤ objectCount deferred ∧ _ ∧ _ by decide +kernel⟩
  · exact ⟨by decide +kernel, show 2 ≤ objectCount (twoWaiting base) ∧ _ ∧ _ ∧ _ by decide +kernel⟩
  · intro d
    cases d
    case selector => exact show ¬ selectorOf base ≠ .remoteMode by decide +kernel
    case noObject => exact fun h => absurd h.2 (show ¬ objectCount base < 2 by decide +kernel)
    case faulty => exact fun h => absurd h.2.2 (show ¬ positionOf base 2 = .faulty by decide +kernel)
    case moving => exact fun h => absurd h.2.2 (show ¬ (positionOf base 2 = .moving ∨ _) by decide +kernel)
    case already => exact fun h => absurd h.2.2 (show ¬ positionOf base 2 = targetPosition .toClose by decide +kernel)
    case duplicateTag => exact fun h => absurd h.2.2.2 (show ¬ base.req.queue.any _ = true by decide +kernel)
    case queueFull => exact fun h => absurd h.2.2.2.2 (show ¬ fieldOf base (·.depth) ≤ _ by decide +kernel)
    all_goals exact fun h => h.2

/-- A local request handed over at the panel. -/
def pushed (k : Nat) (dir : Direction) : State :=
  { atPanel base with handover := { base.handover with locals := [(k, dir)] } }

/-- LocalRequestsAreTaken: the first and last slot, a refusal, and a request that passes. -/
theorem test_witness_local_requests :
    slotOk 1 = true ∧ slotOk 8 = true ∧ inService (pushed 8 .toOpen) = true ∧
      (pushed 8 .toOpen).handover.locals.head? = some (8, .toOpen) ∧
      LocalRefused (pushed 8 .toOpen) 0 (localTag 8 .toOpen) 8 .toOpen .noObject ∧
      (∀ d, ¬ LocalRefused (pushed 2 .toClose) 0 (localTag 2 .toClose) 2 .toClose d) := by
  refine ⟨rfl, rfl, by decide +kernel, rfl, show objectCount (pushed 8 .toOpen) < 8 by decide +kernel, ?_⟩
  intro d
  cases d
  case noObject => exact show ¬ objectCount (pushed 2 .toClose) < 2 by decide +kernel
  case faulty => exact fun h => absurd h.2 (show ¬ positionOf (pushed 2 .toClose) 2 = .faulty by decide +kernel)
  case moving => exact fun h => absurd h.2 (show ¬ (positionOf (pushed 2 .toClose) 2 = .moving ∨ _) by decide +kernel)
  case already =>
    exact fun h => absurd h.2 (show ¬ positionOf (pushed 2 .toClose) 2 = targetPosition .toClose by decide +kernel)
  case duplicateTag => exact fun h => absurd h.2.2 (show ¬ (pushed 2 .toClose).req.queue.any _ = true by decide +kernel)
  case queueFull => exact fun h => absurd h.2.2.2 (show ¬ fieldOf (pushed 2 .toClose) (·.depth) ≤ _ by decide +kernel)
  all_goals exact id

/-- A CHECK or CANCEL of gateway 60 over a state. -/
def sent (t : FrameType) (dst : Nat) (body : List Byte) (s : State) : State := deliver (frame t 60 dst body) s

/-- ChecksAreAnswered: the discards, an index above the object count, and one within it. -/
theorem test_witness_checks :
    (∀ b, b ∈ [[7, 0, 2], [7, 9, 2], [7, 2, 0], [7, 2, (3 : Byte)]] →
      natAt b 1 < 1 ∨ 8 < natAt b 1 ∨ (natAt b 2 ≠ 1 ∧ natAt b 2 ≠ 2)) ∧
      (∀ b, b ∈ [[7, 1, 2], [7, 5, 1], [7, 8, (2 : Byte)]] →
        inboundHead (sent .check 21 b base) = some (frame .check 60 21 b) ∧
          (sent .check 21 b base).start.phase = .ready ∧ (sent .check 21 b base).start.departure = none ∧
          1 ≤ natAt b 1 ∧ natAt b 1 ≤ 8 ∧
          (directionOfCode (natAt b 2)).isSome = true) ∧
      natAt [7, 5, 1] 1 ≤ objectCount base ∧ objectCount base < natAt [7, 8, 2] 1 := by decide +kernel

/-- CancelsAreAnswered: the discards, no operation, a driven one, one behind the head, a DEFERRED head with another behind
it, and a CLAIMING head. -/
theorem test_witness_cancels :
    (inboundHead (sent .cancel 21 [7] base) = some (frame .cancel 60 21 [7]) ∧
        (inPhase .announce base).start.phase ≠ .ready ∧ (departing base).start.departure ≠ none ∧
        inboundHead (sent .cancel 0 [7] base) = some (frame .cancel 60 0 [7])) ∧
      (base.start.phase = .ready ∧ base.start.departure = none ∧ base.req.queue.find? (isNamed 60 7) = none) ∧
      ((driving false).req.queue.find? (isNamed 60 7) = some (closing .travelling) ∧
        isDriven (closing .travelling) = true) ∧
      ((twoWaiting base).req.queue.find? (isNamed 60 8) = some { closing .queued with tag := 8, object := 4 } ∧
        headOp (twoWaiting base) ≠ some { closing .queued with tag := 8, object := 4 }) ∧
      ((twoWaiting base).req.queue.find? (isNamed 60 7) = some (closing .deferred) ∧
        headOp (twoWaiting base) = some (closing .deferred) ∧ isDriven (closing .deferred) = false) ∧
      (claiming.req.queue.find? (isNamed 60 7) = some (closing .claiming) ∧
        claiming.claims.own = some (claimOf false)) := by
  decide +kernel

/-- A state with a selector change handed over. -/
def selectorTo (sel : Selector) (s : State) : State :=
  { s with handover := { s.handover with selectors := [sel] } }

theorem base_uncommanded (k : Nat) : (objIn base k).commanded = false := by
  simp only [objIn, base, yardWith, tableGet]
  split_ifs <;> rfl

/-- A state without a drive, with the objects of the base state, is coherent when its head agrees. -/
theorem coherent_undriven (s : State) (hq : QueueOk s.req.queue) (ho : s.objects = base.objects)
    (hd : s.drive = base.drive) (hh : headAgrees (headOp s) s.claims.own s.drive.record) : DriveCoherent s := by
  refine ⟨hq, hh, ?_, fun k => ?_⟩
  · rw [hd]
    rfl
  · have h : (objIn s k).commanded = false := by
      rw [objIn, ho]
      exact base_uncommanded k
    rw [h, hd]
    exact ⟨nofun, fun ⟨_, h, _⟩ => nomatch h⟩

/-- The node that drives 21/2 is coherent. -/
theorem coherent_driving : DriveCoherent (driving false) := by
  refine ⟨?_, ?_, ?_, ?_⟩
  · unfold QueueOk namesDiffer
    decide +kernel
  · exact ⟨⟨rfl, rfl, rfl⟩, rfl, rfl, rfl, nofun⟩
  · unfold OutputsFollowRecord
    decide +kernel
  · intro k
    refine ⟨fun h => ⟨_, rfl, ?_⟩, fun h => ?_⟩
    · by_contra hk
      have hk' : k ≠ 2 := fun e => hk e.symm
      revert h
      simp only [objIn, tableGet, driving]
      split_ifs <;> simp_all [at_]
    · obtain ⟨d, hd, hk⟩ := h
      cases hd
      subst hk
      rfl

/-- A node in READY whose yard link is empty meets the invariant of the link. -/
theorem coherent_quiet (s : State) (h : s.link = Link.empty 0) (hp : s.start.phase = .ready) : LinkCoherent s := by
  unfold LinkCoherent ChosenClass
  rw [h, hp]
  exact ⟨fun _ => ⟨fun h => absurd rfl h, fun _ h => absurd rfl h, fun _ _ => rfl⟩, nofun, nofun, nofun,
    fun h => absurd rfl h⟩

/-- SelectorChangesCancelMismatches: a CLAIMING head and a queue of two, each that does not match LOCAL and matches REMOTE,
and a driven head. -/
theorem test_witness_selector :
    DriveCoherent claiming ∧ DriveCoherent (twoWaiting base) ∧ DriveCoherent (driving false) ∧
      (selectorTo .localMode (twoWaiting base)).handover.selectors.head? = some .localMode ∧
      (headOp claiming).any (isCancelledBy .localMode) = true ∧ withdrawnBy .localMode claiming = [claimOf false] ∧
      ((twoWaiting base).req.queue.filter (isCancelledBy .localMode)).length = 2 ∧
      (twoWaiting base).req.queue.filter (isCancelledBy .remoteMode) = [] ∧
      (headOp (driving false)).any (isCancelledBy .localMode) = false := by
  refine ⟨coherent_undriven _ ?_ rfl rfl ?_, coherent_undriven _ ?_ rfl rfl ?_, coherent_driving, by decide +kernel⟩
  · unfold QueueOk namesDiffer
    decide +kernel
  · exact ⟨⟨rfl, rfl, rfl⟩, rfl⟩
  · unfold QueueOk namesDiffer
    decide +kernel
  · exact ⟨rfl, rfl⟩

/-- A state with a position change of an object handed over. -/
def movedAt (k : Nat) (s : State) : State := { s with handover := { s.handover with positions := [k] } }

/-- PositionChangesEndTheWaitingHead: no head, another object, a driven head, a CLAIMING one and a DEFERRED one. -/
theorem test_witness_position_changes :
    (movedAt 2 base).handover.positions.head? = some 2 ∧ headOp (movedAt 2 base) = none ∧
      (headOp (movedAt 1 claiming) = some (closing .claiming) ∧ (closing .claiming).object ≠ 1) ∧
      isDriven (closing .travelling) = true ∧
      (headOp (movedAt 2 claiming) = some (closing .claiming) ∧ (movedAt 2 claiming).req.queue.length = 1) ∧
      headOp (movedAt 2 deferred) = some (closing .deferred) ∧ (movedAt 2 deferred).req.queue.length = 1 := by
  decide +kernel

/-- A foreign record of the coupler over Y1 and Y2. -/
def foreignRecord : ForeignRec :=
  { id := 3, nodes := 6, cls := 0, deferCount := 0, holdLimit := 300, recorded := 0, held := false, assented := false }

/-- A state with that record. -/
def withForeign (s : State) : State := { s with claims := { s.claims with foreign := [(10, foreignRecord)] } }

/-- The opening of 21/4 with the breaker and the busbar disconnectors open: an empty claim set. -/
def emptyClaim : State :=
  put 3 (at_ .c10 .opened) (put 1 (at_ .c10 .opened)
    { deferred with req := { deferred.req with queue := [{ closing .deferred with object := 4, dir := .toOpen }] } })

/-- DeferExpiryTakesTheHeadStart: the defer expiry, and the head starts of a DEFERRED and a QUEUED head: each refusal by
position, an UNRATED travel limit and a rated one. -/
theorem test_witness_defer_expiry :
    (deferred.req.deferTimer = some 1000 ∧ headOp deferred = some (closing .deferred)) ∧
      QueueOk deferred.req.queue ∧ headOp (twoWaiting deferred) = some (closing .deferred) ∧
      StartRefusal (positionOf (put 2 (at_ .c01 .closed) deferred) 2) .toClose .already ∧
      StartRefusal (positionOf (faulty2 false false) 2) .toClose .faulty ∧
      StartRefusal (positionOf moving2 2) .toClose .moving ∧ (∀ r, ¬ StartRefusal (positionOf deferred 2) .toClose r) ∧
      objDesc deferred 2 = some (obj .ds (.yard 2) (.localNode 1) 6000) ∧
      TravelUnrated { deferred with temperature := { deferred.temperature with valid := false } }
        (obj .ds (.yard 2) (.localNode 1) 6000) ∧
      TravelLimitIs deferred (obj .ds (.yard 2) (.localNode 1) 6000) 7860 := by
  refine ⟨by decide +kernel, by unfold QueueOk namesDiffer; decide +kernel, by decide +kernel,
    .inr (.inr (by decide +kernel)), .inl (by decide +kernel), .inr (.inl (by decide +kernel)), ?_, by decide +kernel,
    ⟨bay, rfl, .inr (.inr ⟨86, by decide +kernel, 0, by decide +kernel, by decide +kernel⟩)⟩,
    ⟨bay, rfl, 86, by decide +kernel, 27, by decide +kernel, 31, by decide +kernel, by decide +kernel⟩⟩
  intro r h
  rcases h with ⟨h, -⟩ | ⟨h | h, -⟩ | ⟨h, -⟩ <;> revert h <;> decide +kernel

/-- A DEFERRED head at the stall limit. -/
def stalled : State :=
  { deferred with req := { deferred.req with queue := [{ closing .deferred with deferCount := 4 }] } }

/-- DeferExpiryTakesTheHeadStart: REFUSED, an empty claim set, FOREIGN, LINK_BUSY, CLAIMING, and a deferral within and
beyond the stall limit. -/
theorem test_witness_head_starts :
    (evaluate (yardWith .stale .closed) 2 .toClose .remote).nodes = none ∧
      (evaluate emptyClaim 4 .toOpen .remote).nodes = some 0 ∧
      (evaluate emptyClaim 4 .toOpen .remote).verdict ≠ .refused ∧ (objIn emptyClaim 4).ready = .ready ∧
      (objDesc emptyClaim 4).isSome = true ∧ (evaluate deferred 2 .toClose .remote).nodes = some 6 ∧
      meetsForeign (withForeign deferred) 6 = true ∧ meetsForeign deferred 6 = false ∧ claimsQueued deferred.link = [] ∧
      claimsQueued { deferred.link with normal := [.claim 4 (frame .claim 21 0 []) 0 false] } ≠ [] ∧
      transmits deferred.start.phase = true ∧ (closing .deferred).deferCount + 1 ≤ fieldOf deferred (·.stallLimit) ∧
      fieldOf stalled (·.stallLimit) < 4 + 1 ∧ headOp stalled = some { closing .deferred with deferCount := 4 } := by
  decide +kernel

/-! ### Witnesses: the line -/

/-- An ASSENT to the coupler. -/
def answer : Frame := frame .assent 21 10 [3]

/-- A link whose current frame is an urgent one with some attempts made. -/
def urgentLink (n : Nat) : Link :=
  { Link.empty 1 with urgent := [{ frame := answer, attempts := n }], current := some { cls := .urgent, k := 15 } }

/-- A link whose current frame is a normal one. -/
def normalLink (i : NormalItem) : Link :=
  { Link.empty 1 with normal := [i], current := some { cls := .normal, k := 15 } }

/-- The CLAIM of 21/2's closing, with attempts made and perhaps a removal asked for. -/
def claimItem (n : Nat) (removed : Bool) : NormalItem := .claim 5 (frame .claim 21 0 []) n removed

/-- AttemptsBeginAfterTheWait: each wait at its end and one bit time short of it. -/
theorem test_witness_attempts :
    (urgentLink 0).attempt = none ∧ (urgentLink 0).halted = false ∧ transmits base.start.phase = true ∧
      (urgentLink 0).current = some { cls := .urgent, k := 15 } ∧
      (urgentLink 7).urgent.head? = some { frame := answer, attempts := 7 } ∧ 16 + 15 * 8 ≤ 136 ∧ 135 < 16 + 15 * 8 ∧
      (normalLink (.marker false true 0)).normal.head? = some (.marker false true 0) ∧
      (ownContent { base with link := normalLink (.marker false true 0) }).isSome = true ∧ 32 + 15 * 8 ≤ 152 ∧
      151 < 32 + 15 * 8 ∧ claimFrameOf (claimItem 0 false) = some (frame .claim 21 0 []) := by decide +kernel

/-- An attempt of a frame on the line. -/
def attemptOf (cls : FrameClass) (f : Frame) : Attempt :=
  { cls := cls, frame := f, symbols := frameSymbols f, inReady := true }

/-- A state with a link whose frame is on the line. -/
def onLine (cls : FrameClass) (f : Frame) (l : Link) : State := { base with link := { l with attempt := some (attemptOf cls f) } }

/-- QualificationEndsTheDriveFailed, DriveTimersEndTheDrive, SelectorChangesCancelMismatches: their states meet the premise
on the yard link, and so does a driven node with a STATUS on the line. -/
theorem test_witness_link_premise :
    (∀ s, s ∈ [driven2 false .c00 true false, driven2 false .c00 true true, driven2 true .c01 false false,
      driven2 true .c01 true false, driving false, departed2, driving true, pulsing, claiming, twoWaiting base,
      selectorTo .localMode claiming] → LinkCoherent s) ∧
      LinkCoherent { driving false with link := { normalLink (.marker false false 0) with
        attempt := some (attemptOf .normal (frame .status 21 0 [])) } } := by
  refine ⟨fun s hs => coherent_quiet s ?_ ?_, nofun, ?_, ?_, nofun, fun _ => .inl rfl⟩
  · simp only [List.mem_cons, List.not_mem_nil, or_false] at hs
    rcases hs with rfl | rfl | rfl | rfl | rfl | rfl | rfl | rfl | rfl | rfl | rfl <;> rfl
  · simp only [List.mem_cons, List.not_mem_nil, or_false] at hs
    rcases hs with rfl | rfl | rfl | rfl | rfl | rfl | rfl | rfl | rfl | rfl | rfl <;> rfl
  · rintro c ⟨⟩
    decide
  · rintro a ⟨⟩ _
    exact ⟨⟨_, rfl, .inr ⟨rfl, rfl⟩⟩, rfl⟩

/-- AttemptsBeginAfterTheWait: an attempt on the line, no current frame, a FINAL STATUS that has ended, and the phases that do
not transmit. -/
theorem test_witness_no_attempts :
    (onLine .urgent answer (urgentLink 0)).link.attempt ≠ none ∧ base.link.current = none ∧
      { urgentLink 0 with halted := true }.halted = true ∧
      [Phase.selfTest, .unconfigured, .listen, .silent].all
        (fun p => (inPhase p base).start.phase != .announce && (inPhase p base).start.phase != .ready) = true := by
  decide +kernel

/-- CollisionsCountAttempts: a half-bit as driven and one that differs, the seventh and the eighth attempt of each kind of
frame, and a removed CLAIM. -/
theorem test_witness_collisions :
    (onLine .urgent answer (urgentLink 6)).link.attempt = some (attemptOf .urgent answer) ∧
      levelAt (frameSymbols answer) 0 = some .dominant ∧
      (urgentLink 6).urgent.head? = some { frame := answer, attempts := 6 } ∧ 6 + 1 < 8 ∧ 8 ≤ 7 + 1 ∧
      (normalLink (.marker true false 6)).normal.head? = some (.marker true false 6) ∧
      (normalLink (.marker false true 7)).normal.head? = some (.marker false true 7) ∧
      (normalLink (claimItem 7 false)).normal.head? = some (.claim 5 (frame .claim 21 0 []) 7 false) ∧
      (normalLink (claimItem 7 true)).normal.head? = some (.claim 5 (frame .claim 21 0 []) 7 true) ∧
      (claimOf false).id = 5 ∧ (claimOf false).held = false ∧ (departing base).start.departure = some .restart ∧
      (inPhase .announce (onLine .normal answer (normalLink (.marker false false 7)))).start.phase = .announce ∧
      ((normalLink (.marker false false 7)).normal.tail.any isMarker) = false ∧
      (inPhase .silent (onLine .urgent answer (Link.empty 0))).link.attempt = some (attemptOf .urgent answer) ∧
      (Link.empty 0).urgent = [] ∧ (Link.empty 0).normal = [] := by decide +kernel

/-- A departure under way, with nothing on the port. -/
def leaving (d : Departure) : State :=
  { onLine .normal { frame .status 21 0 [] with final := true } (normalLink (.marker false true 0)) with
    start := { base.start with departure := some d } }

/-- SentFramesLeaveTheirQueue: an urgent frame, the announcing STATUS, one in READY, a FINAL one of each departure, and a
CLAIM. -/
theorem test_witness_sent :
    (onLine .urgent answer (urgentLink 0)).link.urgent.head? = some { frame := answer, attempts := 0 } ∧
      ((inPhase .announce (onLine .normal (frame .status 21 0 []) (normalLink (.marker false false 0)))).start.phase =
          .announce ∧
        (onLine .normal (frame .status 21 0 []) (normalLink (.marker false false 0))).link.normal.head? =
          some (.marker false false 0) ∧ base.copy = some bay) ∧
      (∀ d, d ∈ [Departure.restart, .erase] → (leaving d).start.phase = .ready ∧ (leaving d).port.sending = none ∧
        (leaving d).port.owedBusy = none ∧ (leaving d).link.normal.head? = some (.marker false true 0) ∧
        (leaving d).link.attempt.map (·.frame.final) = some true ∧ (leaving d).start.departure = some d) ∧
      ((normalLink (claimItem 3 false)).normal.head? = some (.claim 5 (frame .claim 21 0 []) 3 false) ∧
        (claimOf false).id = 5 ∧ (claimOf false).held = false ∧ claiming.claims.own = some (claimOf false)) ∧
      ((normalLink (.marker true true 7)).normal.head? = some (.marker true true 7) ∧
        (attemptOf .normal (frame .status 21 0 [])).frame.final = false) ∧
      ((Link.empty 0).urgent = [] ∧ (Link.empty 0).normal = []) := by decide +kernel

/-- The six header symbols of a frame. -/
def headerOf (f : Frame) : List LineSym := ((frameSymbols f).drop 5).take 6

/-- HeadersAreJudged: a receiver that is off and one that is on, the three origins with the rest of a stretch ignored and
not, a failing header, another station's, and the own address in READY, in SILENT and with a departure pending. -/
theorem test_witness_headers :
    receives State.reset.start.phase = false ∧ receives base.start.phase = true ∧ base.link.header = none ∧
      base.link.ignoring = false ∧ { base.link with ignoring := true }.ignoring = true ∧ judgeHeader [] = none ∧
      (∃ h, judgeHeader (headerOf (frame .assent 34 21 [3])) = some h ∧ h.src ≠ ownAddress base) ∧
      (∃ h, judgeHeader (headerOf answer) = some h ∧ h.src = ownAddress base) ∧ base.start.departure = none ∧
      (inPhase .silent base).start.phase = .silent ∧ receives (inPhase .silent base).start.phase = true ∧
      claiming.claims.own = some (claimOf false) ∧ (driving false).claims.own = some (claimOf true) ∧
      (departing base).start.departure = some .restart ∧ (departing base).link.halted = false :=
  ⟨rfl, rfl, rfl, rfl, rfl, rfl,
    ⟨{ type := .assent, src := 34, dst := 21, length := 1 }, by decide +kernel, by decide⟩,
    ⟨{ type := .assent, src := 21, dst := 10, length := 1 }, by decide +kernel, by decide⟩, rfl, rfl, rfl, rfl, rfl, rfl,
    rfl⟩

/-- The header of a frame. -/
def headerFor (f : Frame) : Header := { type := f.type, src := f.src, dst := f.dst, length := f.body.length }

/-- A state that has passed a frame's header. -/
def heard (f : Frame) (s : State) : State := { s with link := { s.link with header := some (headerFor f) } }

/-- FrameEndsAreJudged: a body that fails, and good frames for this node, for another, and for gateways. -/
theorem test_witness_frame_ends :
    receives (heard answer base).start.phase = true ∧ judgeBody (headerFor answer) [] = none ∧
      (∀ f, f ∈ [frame .assent 34 21 [3], frame .assent 34 3 [3], frame .accept 34 21 [3, 1]] →
        (heard f base).link.header = some (headerFor f) ∧
          judgeBody (headerFor f) ((frameSymbols f).drop 11) = some f) ∧
      (List.replicate 6 answer).length = 6 := by decide +kernel

/-- FramesReadBack: the longest body a type permits here, and the ends of the address ranges. -/
theorem test_witness_frames :
    lengthPermitted .claim (frame .claim 63 0 (List.replicate 22 0)).body = true ∧
      lengthPermitted .assent (frame .assent 1 63 [3]).body = true ∧
      (frame .claim 63 0 (List.replicate 22 0)).body.length ≤ 96 := by decide

/-! ### Witnesses: view and claims -/

/-- The coupler's STATUS. -/
def couplerStatus (p : Position) (claim : Option ClaimPart) : Frame :=
  frame .status 10 0 (statusBody { coupler p with counter := 41 } false claim)

/-- StatusesEnterTheView: a malformed body, and a well-formed one for an ABSENT and for a held entry. -/
theorem test_witness_statuses :
    (inboundHead (deliver (frame .status 10 0 []) base) = some (frame .status 10 0 []) ∧ parseStatus [] = none) ∧
      parseStatus (couplerStatus .opened none).body = some { coupler .opened with counter := 41 } ∧
      entryOf { base with view := { base.view with entries := [] } } 10 = none ∧ (entryOf base 10).isSome = true ∧
      (deliver (couplerStatus .opened none) base).link.viewTaken = false := by decide +kernel

/-- ReleasesMoveOnePosition: an ABSENT releaser, the indices at and above the count, a position that is none, an equal
counter, one ahead and two ahead. -/
theorem test_witness_releases :
    inboundHead (deliver (frame .release 10 0 [3, 41, 3, 1]) base) = some (frame .release 10 0 [3, 41, 3, 1]) ∧
      entryOf base 22 = none ∧
      (∃ e, entryOf base 10 = some e ∧ e.content.objects.length < natAt [3, 41, 4, 1] 2 ∧
        positionOfCode (natAt [3, 41, 1, 0] 3) = none ∧ byteAt [3, 40, 1, 1] 1 = e.content.counter ∧
        1 ≤ natAt [3, 41, 3, 1] 2 ∧ natAt [3, 41, 3, 1] 2 ≤ e.content.objects.length ∧
        byteAt [3, 41, 3, 1] 1 = e.content.counter + 1 ∧ byteAt [3, 42, 3, 1] 1 ≠ e.content.counter ∧
        positionOfCode (natAt [3, 41, 3, 1] 3) = some .opened) :=
  ⟨rfl, by decide +kernel, _, rfl, by decide +kernel⟩

/-- The view's timers running. -/
def timed : State := { base with view := { base.view with heartbeat := some 1000, silence := some 3000 } }

/-- ViewTimersExpire: no marker, one that waits and one on the line, a phase before READY, and LINK_SILENT holding. -/
theorem test_witness_view_timers :
    (({ timed with link := normalLink (.marker false false 0) } : State).link.normal.any isMarker = true ∧
        markerOnLine (normalLink (.marker false false 0)) = false ∧
        markerOnLine (onLine .normal (frame .status 21 0 []) (normalLink (.marker false false 0))).link = true ∧
        (inPhase .announce timed).start.phase ≠ .ready ∧ (inPhase .announce timed).view.heartbeat = some 1000 ∧
        causeIn (causeBit .linkSilent) .linkSilent = true ∧ base.view.heartbeat = none ∧ base.view.silence = none) ∧
    (timed.start.phase = .ready ∧ timed.link.normal.any isMarker = false ∧ timed.view.heartbeat = some 1000 ∧
        causeIn timed.faults.holding .linkSilent = false ∧ timed.view.silence = some 3000) ∧
      ∃ e, entryOf base 10 = some e ∧ e.state ≠ .stale :=
  ⟨by decide +kernel, by decide +kernel, _, rfl, nofun⟩

/-- RanksAreOrdered: claims that differ in address alone, and a chain of three. -/
theorem test_witness_ranks :
    rankBetter { cls := 1, deferCount := 2, address := 1 } { cls := 1, deferCount := 2, address := 63 } = true ∧
      rankBetter { cls := 1, deferCount := 2, address := 63 } { cls := 1, deferCount := 1, address := 5 } = true := by
  decide

/-- A claim part of the coupler. -/
def part : ClaimPart := { id := 3, held := true, cls := 0, deferCount := 0, holdLimit := 300, nodes := 6 }

/-- StatusClaimPartsAreRecorded: no claim, a claim with and without a record, and a STALE entry. -/
theorem test_witness_claim_parts :
    inboundHead (viewed (deliver (couplerStatus .closed none) base)) = some (couplerStatus .closed none) ∧
      (viewed (deliver (couplerStatus .closed none) base)).link.viewTaken = true ∧
      statusJoining (couplerStatus .closed none).body = false ∧ entryCurrent (entryOf base 10) = true ∧
      entryCurrent (entryOf (yardWith .stale .closed) 10) = false ∧
      parseClaimPart (couplerStatus .closed none).body = none ∧
      parseClaimPart (couplerStatus .closed (some part)).body = some part ∧
      (tableGet (withForeign base).claims.foreign 10).map (·.id) = some part.id ∧
      (tableGet base.claims.foreign 10).map (·.id) ≠ some part.id := by decide +kernel

/-- StatusClaimPartsAreRecorded: a JOINING STATUS of a station that answers, concerned as the view stands and not. -/
theorem test_witness_joining :
    statusJoining (statusBody (coupler .closed) true none) = true ∧ claiming.claims.own = some (claimOf false) ∧
      tableGet claiming.claims.answers 10 ≠ none ∧
      entryOf claiming 10 = some { state := .fresh, content := coupler .closed, lastGood := 0 } ∧
      peerConcerned (claimOf false).nodes { state := .fresh, content := coupler .closed, lastGood := 0 } = true ∧
      peerConcerned (claimOf false).nodes
        { state := .fresh, content := { coupler .closed with objects := [] }, lastGood := 0 } = false := by decide +kernel

/-- RecordsEnd: a RELEASE of the record's claim and of another, and a record to expire. -/
theorem test_witness_records :
    inboundHead (viewed (deliver (frame .release 10 0 [3, 40, 0, 0]) (withForeign base))) =
        some (frame .release 10 0 [3, 40, 0, 0]) ∧
      (tableGet (withForeign base).claims.foreign 10).map (·.id) = some (byteAt [3, 40, 0, 0] 0) ∧
      (tableGet (withForeign base).claims.foreign 10).map (·.id) ≠ some (byteAt [4, 40, 0, 0] 0) ∧
      tableGet (withForeign base).claims.foreign 10 = some foreignRecord := by decide +kernel

/-- A CLAIM body of the coupler over Y1 and Y2, with a class. -/
def coupling (cls : Nat) : List Byte := claimBody 3 1 cls 0 300 6

/-- ClaimsAreAnswered: each row. -/
theorem test_witness_claims :
    inboundHead (deliver (frame .claim 10 0 (coupling 0)) base) = some (frame .claim 10 0 (coupling 0)) ∧
      parseClaim [] = none ∧ entryOf base 22 = none ∧ (frame .claim 10 21 (coupling 0)).dst ≠ 0 ∧
      parseClaim (coupling 0) = some { part with held := false } ∧
      entryState (yardWith .stale .closed) 10 = some .stale ∧ entryCurrent (entryOf base 10) = true ∧
      (inPhase .announce base).start.phase ≠ .ready ∧ (departing base).start.departure ≠ none ∧
      base.start.phase = .ready ∧ base.start.departure = none ∧
      ownOverlaps (driving false) 6 true = true ∧ ownOverlaps claiming 6 false = true ∧
      ownRankBetter claiming 34 { part with held := false } = true ∧
      ownRankBetter claiming 10 { part with held := false } = false ∧ headOp claiming = some (closing .claiming) ∧
      (closing .claiming).deferCount + 1 ≤ fieldOf claiming (·.stallLimit) ∧ ownOverlaps base 6 true = false ∧
      ownOverlaps base 6 false = false := by decide +kernel

/-- AnswersCount: an ASSENT and an OBJECT that count, and ones that do not. -/
theorem test_witness_answers :
    inboundHead (deliver (frame .assent 10 21 [5]) claiming) = some (frame .assent 10 21 [5]) ∧
      claiming.claims.own = some (claimOf false) ∧ (claimOf false).id = byteAt [5] 0 ∧
      (tableGet claiming.claims.answers 10).isSome = true ∧ (claimOf false).id ≠ byteAt [6] 0 ∧
      tableGet claiming.claims.answers 34 = none ∧ base.claims.own = none ∧
      (claimOf true).held = true ∧ (frame .object 10 0 [5, 1]).dst = 0 ∧
      inboundHead (deliver (frame .object 10 21 [5, 1]) claiming) = some (frame .object 10 21 [5, 1]) ∧
      headOp claiming = some (closing .claiming) := by decide +kernel

/-- A state with a view change of the coupler handed over. -/
def reported (e : EntryState) (s : State) : State :=
  { s with handover := { s.handover with views := [{ station := 10, state := some e }] } }

/-- ViewChangesReevaluateTheClaim: STALE and not, no claim and a HELD one, a moved object, and a claim that stands. -/
theorem test_witness_view_changes :
    (reported .stale base).handover.views.head? = some { station := 10, state := some .stale } ∧
      base.claims.own = none ∧ (driving false).claims.own = some (claimOf true) ∧
      positionOf (put 2 (at_ .c01 .closed) claiming) (claimOf false).object ≠ (claimOf false).startPos ∧
      headOp claiming = some (closing .claiming) ∧
      positionOf claiming (claimOf false).object = (claimOf false).startPos ∧
      (evaluate { claiming with view := (yardWith .stale .closed).view } 2 .toClose .remote).nodes = none ∧
      { claimOf false with nodes := 4 }.nodes ≠ (claimOf false).nodes ∧
      (evaluate claiming (claimOf false).object (claimOf false).dir (claimOf false).source).nodes =
        some (claimOf false).nodes := by decide +kernel

/-- The closing as the panel's, under bypass, with the coupler STALE. -/
def bypassing : State :=
  atPanel { claiming with
    view := (yardWith .stale .closed).view
    req := { claiming.req with queue := [{ closing .claiming with source := .localPanel }] }
    claims := { claiming.claims with own := some { claimOf false with source := .localPanel } } }

/-- 07 R121, 05 R79: the re-evaluation of a CLAIMING operation sets its bypass reason; the claim stands. -/
theorem test_reevaluation_sets_the_bypass_reason :
    ∃ t, Sys2Proof.Machine.exec .viewChange (reported .fresh bypassing) = .next t ∧
      t.req.queue.map (·.bypassReason) = [some .bothLive] ∧ t.claims.own.isSome = true :=
  ⟨_, rfl, by decide +kernel⟩

/-- The claim in a round with the coupler still to answer. -/
def unanswered (round : Nat) : State :=
  { claiming with claims := { claiming.claims with
      own := some { claimOf false with round := round }, answers := [(10, .awaiting)] } }

/-- WindowExpiriesAreJudged: a grant on every answer, one under bypass, a new round in round 2, and a withdrawal in
round 3. -/
theorem test_witness_window :
    (claiming.claims.window = some 150 ∧ claiming.claims.own = some (claimOf false) ∧
        headOp claiming = some (closing .claiming) ∧ AllAssented claiming) ∧
      (¬ AllAssented (unanswered 2) ∧ claimsQueued (unanswered 2).link = [] ∧
        transmits (unanswered 2).start.phase = true) ∧
      (¬ AllAssented (unanswered 3) ∧ bypassHolds (unanswered 3) = false) ∧
      (bypassHolds (atPanel (unanswered 3)) = true ∧
        { claimOf false with source := .localPanel }.source = .localPanel) := by
  have awaiting (n : Nat) : ¬ AllAssented (unanswered n) := fun h => nomatch (h (10, .awaiting) (.head _)).1
  refine ⟨⟨by decide +kernel, by decide +kernel, by decide +kernel, ?_⟩, ⟨awaiting 2, by decide +kernel, by decide +kernel⟩,
    ⟨awaiting 3, by decide +kernel⟩, by decide +kernel, rfl⟩
  intro e he
  simp only [claiming, List.mem_cons, List.not_mem_nil, or_false] at he
  subst he
  decide +kernel

/-- WindowExpiriesAreJudged: the ways in which a grant is handled: REFUSED, an unready mechanism, a drive start. -/
theorem test_witness_grants :
    (evaluate { claiming with view := (yardWith .stale .closed).view } 2 .toClose .remote).verdict = .refused ∧
      (evaluate claiming 2 .toClose .remote).verdict ≠ .refused ∧
      (objIn (put 2 { at_ .c10 .opened with ready := .notReady } claiming) 2).ready ≠ .ready ∧
      (objIn claiming 2).ready = .ready ∧ objDesc claiming 2 ≠ none := by decide +kernel

/-! ### Witnesses: the port -/

/-- A store with a record and a failing place. -/
def damaged : Store := { status := .rejected, stored := some record, failing := some { field := 18, index := 0 } }

/-- ReadsAnswerAtOnce, ClearCounters and the commands that change the node: the exchange, the stores, the stations and
indices at the ends of their ranges, and the phases. -/
theorem test_witness_port :
    PortIdle base ∧ State.reset.store.status = .none ∧ damaged.failing = some { field := 18, index := 0 } ∧
      (1 : Byte).toNat = 1 ∧ (63 : Byte).toNat = 63 ∧ ownAddress base = (21 : Byte).toNat ∧
      (ownContent base).isSome = true ∧ State.reset.copy = none ∧ State.reset.view.entries = [] ∧
      ownAddress base ≠ (10 : Byte).toNat ∧ (entryOf base (10 : Byte).toNat).isSome = true ∧
      entryOf base (22 : Byte).toNat = none ∧ objDesc base (8 : Byte).toNat = none ∧
      (objDesc base (1 : Byte).toNat).isSome = true ∧ base.store.status = .inForce ∧
      (eraseStore base).store.status ≠ .inForce := by
  unfold PortIdle
  decide +kernel

/-- 01 R6, R14: an erase leaves no record in force, and the blocks keep the copy they read until the next reset. -/
theorem test_erase_keeps_the_copy :
    (eraseStore base).copy = some bay ∧ (recordInForce (eraseStore base)).isNone = true ∧
      (recordInForce base).isSome = true ∧ (ownContent (eraseStore base)).isSome = true := by decide +kernel

/-- A command frame whole. -/
def wholeFrame (code : Byte) (args : List Byte) : List Byte := uncheckedFrame code args ++ frameCheck code args

/-- A state with bytes gathered, the last of them at 0 ms, at a time. -/
def gatheringAt (now : Nat) (bytes : List Byte) : State :=
  { base with now := now, port := { base.port with gathered := bytes, lastByte := some 0 } }

/-- A state with bytes gathered. -/
def gathering (bytes : List Byte) : State := gatheringAt 0 bytes

/-- 10 R170: after 20 ms the bytes gathered stand, after more they do not. -/
theorem test_byte_gap :
    gatheredNow (gatheringAt 20 [0x7E]) = [0x7E] ∧ gatheredNow (gatheringAt 21 [0x7E]) = [] := by decide

/-- The bytes of a frame, in one go, behind a stray byte, and after its first two bytes. -/
theorem arrives_whole (code : Byte) (args : List Byte) (h : args.length ≤ 125) :
    Arrives base code args (wholeFrame code args) ∧ Arrives base code args (0x55 :: wholeFrame code args) ∧
      Arrives (gathering [0x7E, code]) code args ((wholeFrame code args).drop 2) :=
  ⟨⟨h, [], by decide, rfl⟩, ⟨h, [0x55], by decide, rfl⟩, ⟨h, [], by decide, rfl⟩⟩

/-- ReadsAnswerAtOnce, CommandsThatChangeTheNode: the bytes of each command. -/
theorem test_witness_arrivals :
    Arrives base 0x01 [] (wholeFrame 0x01 []) ∧ Arrives base 0x02 [] (wholeFrame 0x02 []) ∧
      Arrives base 0x05 [63] (wholeFrame 0x05 [63]) ∧ Arrives base 0x06 [8] (wholeFrame 0x06 [8]) ∧
      Arrives base 0x07 [] (wholeFrame 0x07 []) ∧ Arrives base 0x08 [] (wholeFrame 0x08 []) ∧
      Arrives base 0x09 [] (wholeFrame 0x09 []) ∧ Arrives base 0x03 record (wholeFrame 0x03 record) ∧
      Arrives base 0x04 [] (wholeFrame 0x04 []) ∧ Arrives base 0x0A [] (wholeFrame 0x0A []) ∧ PortIdle base :=
  ⟨(arrives_whole _ _ (by decide)).1, (arrives_whole _ _ (by decide)).1, (arrives_whole _ _ (by decide)).1,
    (arrives_whole _ _ (by decide)).1, (arrives_whole _ _ (by decide)).1, (arrives_whole _ _ (by decide)).1,
    (arrives_whole _ _ (by decide)).1, (arrives_whole _ _ (by rw [record_length])).1, (arrives_whole _ _ (by decide)).1,
    (arrives_whole _ _ (by decide)).1, rfl⟩

/-- 11 R180: the bytes of a READ_IDENTITY frame are taken as that command. -/
theorem test_read_identity_frame : receive (wholeFrame 0x01 []) = .command 0x01 [] [] := by decide +kernel

theorem checkRecord_of_bad_crc (r : List Byte) (h : checkBytes (slice r 0 123) ≠ slice r 123 2) :
    checkRecord r = some { field := 18, index := 0 } := by
  simp [checkRecord, recordChecks, h]

/-- The example's record with another record check. -/
def spoiled : List Byte := recordCore 3 ++ [0xD5, 0xEF]

theorem spoiled_first : slice spoiled 0 123 = recordCore 3 := List.take_left' record_core_length

theorem spoiled_last : [0xD5, 0xEF] = slice spoiled 123 2 := by
  rw [slice, spoiled, List.drop_left' record_core_length]
  rfl

theorem spoiled_fails : checkRecord spoiled ≠ none := by
  have h : checkBytes (slice spoiled 0 123) ≠ slice spoiled 123 2 := by
    rw [spoiled_first, record_crc, ← spoiled_last]
    decide
  rw [checkRecord_of_bad_crc spoiled h]
  nofun

/-- CommandsThatChangeTheNode: a record that fails and one that passes in UNCONFIGURED, a driven head, and each phase. -/
theorem test_witness_port_commands :
    spoiled.length = 125 ∧ base.start.phase ≠ .unconfigured ∧
      (inPhase .unconfigured base).start.phase = .unconfigured ∧
      checkRecord spoiled ≠ none ∧ checkRecord record = none ∧ State.reset.start.phase = .selfTest ∧
      headDriven (driving false) = true ∧ headDriven base = false ∧ base.start.phase = .ready ∧
      PortIdle (driving false) ∧ ownHolds claiming false = true ∧ ownHolds base false = false :=
  ⟨by decide +kernel, by decide, rfl, spoiled_fails, test_record_passes, rfl, rfl, rfl, rfl, rfl, rfl, rfl⟩

/-- A port whose exchange is OUTSTANDING. -/
def outstanding (owed : Option Byte) (sending : Option Sending) (status : Byte) : Port :=
  { outstanding := some 0x0A, response := some { code := 0x0A, status := status, data := [] }, owedBusy := owed,
    sending := sending, gathered := [], lastByte := none }

/-- PortTurnsAway: an exchange OUTSTANDING with and without an owed BUSY, wrong arguments next to their ranges, codes beside
the known ones, a part of a frame, a frame with another check, and a frame too long. -/
theorem test_witness_port_refusals :
    (Arrives base 0x0B [1] (wholeFrame 0x0B [1]) ∧ (outstanding none none 0).outstanding ≠ none ∧
        (outstanding none none 0).owedBusy = none ∧ (outstanding (some 1) none 0).owedBusy ≠ none) ∧
      (argumentsWrong 0x05 [0] ∧ argumentsWrong 0x05 [64] ∧ argumentsWrong 0x06 [9] ∧ argumentsWrong 0x03 [] ∧
        argumentsWrong 0x0A [1] ∧ ¬ argumentsWrong 0x05 [63] ∧ ¬ argumentsWrong 0x06 [8]) ∧
      ((0x00 : Byte) = 0 ∧ 10 < (0x0B : Byte).toNat) ∧
      ([] ++ [0x7E, 0x0A] ++ (wholeFrame 0x0A []).drop 2 = wholeFrame 0x0A [] ∧ (wholeFrame 0x0A []).drop 2 ≠ []) ∧
      (frameCheck 0x0A [] ≠ [0, 0] ∧ standingBytes base ++ (uncheckedFrame 0x0A [] ++ [0, 0]) = [0x7E, 0x0A, 0, 0, 0]) ∧
      (125 < (126 : Byte).toNat ∧ standingBytes (gatheringAt 21 [0x7E, 0x03]) ++ [0x7E, 0x03, 126] = [0x7E, 0x03, 126] ∧
        standingBytes (gatheringAt 20 [0x7E, 0x03]) ++ [126] = [0x7E, 0x03, 126]) ∧
      base.port.lastByte = none ∧ (gatheringAt 5 [0x7E]).port.lastByte = some 0 := by
  refine ⟨⟨(arrives_whole _ _ (by decide)).1, nofun, rfl, nofun⟩, ?_, by decide, ⟨rfl, by decide⟩,
    ⟨by decide +kernel, rfl⟩, ⟨by decide, rfl, rfl⟩, rfl, rfl⟩
  simp [argumentsWrong, natAt, byteAt]

/-- ResponsesEnd: a BUSY, a response that frees the exchange, and each that restarts the node. -/
theorem test_witness_responses :
    (outstanding none (some { busy := true, bytes := [] }) 0).sending = some { busy := true, bytes := [] } ∧
      (∀ st, st ∈ [0x00, 0x01, 0x02, (0x03 : Byte)] →
        (outstanding none (some { busy := false, bytes := [] }) st).response.map (·.status) = some st) := by decide

/-! ### Witnesses: evaluation, travel, invariants -/

/-- ComponentsAreChains: an edge, the points it joins, and a point it leaves alone. -/
theorem test_witness_components :
    Point.yard 2 ∈ looseComponent [{ a := .yard 1, b := .yard 2, firm := true }] (.yard 1) ∧
      Point.yard 2 ∈ firmComponent [{ a := .yard 1, b := .yard 2, firm := true }] (.yard 1) ∧
      untouched [{ a := .yard 1, b := .yard 2, firm := true }] (.yard 3) := by
  unfold untouched
  decide +kernel

/-- The description of an object of bay 21. -/
def described (k : Nat) : ObjDesc := (bay.objects[k - 1]?).getD (obj .es (.localNode 3) .earth 8000)

/-- The facts of an evaluation of object `k` of bay 21 from its first terminal. -/
def factsOf (s : State) (k : Nat) : Option SideFacts :=
  (pointOf 21 (described k).term1).map fun a => factsFor s k (described k) a

/-- A view of the coupler alone, with a content. -/
def seeing (c : Content) : View :=
  { base.view with entries := [(10, { state := .fresh, content := c, lastGood := 0 })] }

/-- The view with every line and busbar dead: 21/2 opens a dead section. -/
def deadYard : State :=
  { base with
    sensors := []
    view := seeing { coupler .opened with sensors := [] }
    copy := some { bay with sensors := [] } }

/-- An earth on Y2 at the coupler. -/
def earthedYard : State :=
  { base with
    view := seeing { coupler .opened with objects := [pub .es (.yard 2) .earth .closed], sensors := [] } }

/-- VerdictsFollowTheTables: a state for each test of each table. -/
theorem test_witness_verdicts :
    objDesc base 2 = some (described 2) ∧ pointOf (ownAddress base) (described 2).term1 = some (.yard 2) ∧
      missingRefuses { base with view := { base.view with entries := [] } } 2 (described 2) (.yard 2) = true ∧
      missingRefuses base 2 (described 2) (.yard 2) = false ∧
      (factsOf base 2).map (·.firmJoined) = some true ∧
      (factsOf (yardWith .stale .closed) 2).map (fun f => (f.firmJoined, f.liveA, f.liveB)) = some (false, true, true) ∧
      (factsOf earthedYard 2).map (fun f => (f.firmJoined, f.liveA, liveFacesEarth f)) = some (false, false, true) ∧
      (factsOf deadYard 2).map (fun f => (f.firmJoined, f.liveA, liveFacesEarth f)) = some (false, false, false) ∧
      (described 3).kind = .cb ∧ (factsOf deadYard 3).map (fun f => (f.firmJoined, liveFacesEarth f)) = some (false, false) ∧
      (factsOf (put 3 (at_ .c10 .opened) base) 3).map (fun f => (f.firmJoined, f.liveA, f.liveB, liveFacesEarth f)) =
        some (false, true, true, false) ∧
      syncAsserted base = false ∧ (described 5).kind = .es ∧ (factsOf base 5).map (·.liveA) = some true ∧
      (factsOf deadYard 5).map (·.liveA) = some false := by decide +kernel

/-- A breaker beside a closed disconnector joins points already firmly joined. -/
theorem test_witness_loop :
    (factsFor { base with copy := some { bay with objects :=
        [obj .ds (.yard 1) (.localNode 1) 6000, obj .ds (.yard 2) (.localNode 1) 6000,
          obj .cb (.yard 1) (.localNode 1) 60] } } 3 (obj .cb (.yard 1) (.localNode 1) 60) (.yard 1)).firmJoined = true := by
  decide +kernel

/-- DeratingInterpolates: the ends of the ranges and the last row and column, rated and UNRATED. -/
theorem test_witness_derating :
    1100 * 10 / 110 = 100 ∧ 879 * 10 / 110 < 80 ∧ 880 * 10 / 110 = 80 ∧ 110 < 1221 * 10 / 110 ∧
      cellAt motorCells 0 1 = some 60 ∧ cellAt motorCells 1 1 = some 40 ∧ cellAt motorCells 0 2 = some 35 ∧
      cellAt motorCells 1 2 = some 20 ∧ cellAt motorCells 3 4 = some 0 ∧ cellAt motorCells 0 0 = none := by decide

/-- TravelLimitsAreBounded: the shortest and the longest base time. -/
theorem test_witness_travel :
    20 % 10 = 0 ∧ 30000 % 10 = 0 ∧ travelFrom 20 0 = 20 ∧ travelFrom 30000 250 = 65000 := by decide

/-- PublishedBodiesReadBack: the coupler's content and a claim at the ends of its ranges. -/
theorem test_witness_bodies :
    Publishable (coupler .closed) ∧
      ClaimInRange { id := 255, held := true, cls := 1, deferCount := 15, holdLimit := 6800, nodes := 6 } ∧
      ClaimInRange { id := 0, held := false, cls := 0, deferCount := 0, holdLimit := 207, nodes := 0 } := by
  unfold Publishable ClaimInRange
  decide +kernel

/-- 04 R66: the heartbeat bytes at and beyond the ends of their range, and one between two steps. -/
theorem test_heartbeat_range :
    [10, 200, 5, 205, 11].map (fun b => (parseStatus [4, 6, b, 0, 1, 0, 0, 0, 0, 0, 0]).isSome) =
      [true, true, false, false, false] := by decide +kernel

/-- StepsKeepTheRelay, StepsKeepTablesQueuesAndCounters, StepsKeepPromises: the node that claims over a foreign record of
another region. -/
theorem test_witness_invariants :
    RelayFollowsFlags claiming ∧ NoTravelCondition claiming ∧ QueueFits claiming ∧ TablesOk claiming ∧ QueuesBounded claiming.link ∧ CountersBounded claiming.counters ∧
      GapFollowsBytes claiming.port ∧ GapFollowsBytes (gathering [0x7E]).port ∧
      PromisesKept { claiming with claims := { claiming.claims with
        foreign := [(34, { foreignRecord with nodes := 8, assented := true })] } } ∧
      ∃ t, Sys2Proof.Machine.step claiming = .next t := by
  refine ⟨by unfold RelayFollowsFlags; decide +kernel, by unfold NoTravelCondition; decide +kernel,
    ⟨fun r h => ?_, nofun, nofun, nofun, fun h => absurd rfl h⟩, by unfold TablesOk TableOk; decide +kernel,
    by unfold QueuesBounded; decide +kernel, by unfold CountersBounded; decide +kernel,
    by unfold GapFollowsBytes; decide +kernel, by unfold GapFollowsBytes; decide +kernel, ?_, _, rfl⟩
  · cases h
    decide +kernel
  intro c h e he _
  cases h
  simp only [List.mem_cons, List.not_mem_nil, or_false] at he
  subst he
  decide +kernel

/-- StepsKeepTheRelay: the copy in READY, and none after a reset. -/
theorem test_witness_copy :
    CopyFollowsPhase claiming ∧ CopyFollowsPhase State.reset ∧ CopyFollowsPhase (eraseStore base) := by
  refine ⟨⟨nofun, nofun⟩, ⟨fun _ => .inl rfl, fun _ => rfl⟩, ⟨nofun, nofun⟩⟩

/-- StepsKeepTablesQueuesAndCounters: an urgent frame that waits, one on the line, one that runs on in SILENT, and a step
that keeps the current frame. -/
theorem test_witness_link :
    LinkCoherent { base with link := urgentLink 3 } ∧ LinkCoherent (onLine .urgent answer (urgentLink 3)) ∧
      LinkCoherent (inPhase .silent (onLine .urgent answer (Link.empty 0))) ∧
      ∃ t, Sys2Proof.Machine.step { base with link := urgentLink 3 } = .next t ∧ t.link.attempt = none ∧
        t.link.current = some { cls := .urgent, k := 15 } := by
  refine ⟨⟨fun _ => ⟨fun _ => rfl, nofun, nofun⟩, ?_, nofun, nofun, fun h => absurd rfl h⟩,
    ⟨nofun, ?_, ?_, nofun, fun _ => .inl rfl⟩, ⟨nofun, nofun, fun _ _ h => absurd rfl h, fun _ => ⟨rfl, rfl, rfl⟩,
      fun _ => .inr rfl⟩, _, rfl, rfl, rfl⟩
  · rintro c ⟨⟩
    decide
  · rintro c ⟨⟩
    decide
  · rintro a ⟨⟩ _
    exact ⟨rfl, rfl⟩

/-- StepsKeepDriveCoherent, CoherentStatesEnergizeOneOutput: the node that drives 21/2, with its output energized. -/
theorem test_witness_coherent :
    DriveCoherent (driving false) ∧ TimersFollowStates (driving false) ∧ energizedOutputs (driving false).drive = 1 ∧
      DriveFollowsContacts (driving false) ∧ DriveFollowsContacts departed2 ∧
      DriveFollowsContacts (driven2 true .c01 false true) ∧ ∃ t, Sys2Proof.Machine.step (driving false) = .next t := by
  refine ⟨coherent_driving, ⟨?_, ?_⟩, by decide +kernel, ?_, ?_, ?_, _, rfl⟩
  · exact fun _ => ⟨rfl, rfl⟩
  · refine ⟨nofun, ?_⟩
    rintro ⟨op, h, hd⟩
    cases h
    cases hd
  all_goals
    rintro d ⟨⟩
    decide +kernel

end Sys2Proof.Tests
end

namespace Sys2Proof.Machine

/-! ### Contacts through head starts and drives

Nothing but a qualification event, an intermediate limit or a reset writes a qualified combination or a position: head
starts and drives write a slot only to set or clear its commanded flag. -/

@[refl] theorem ContactsStay.refl (k : Nat) (s : State) : ContactsStay k s s := ⟨rfl, rfl⟩

theorem ContactsStay.trans {k : Nat} {s t u : State} (h : ContactsStay k s t) (g : ContactsStay k t u) :
    ContactsStay k s u :=
  ⟨g.1.trans h.1, g.2.trans h.2⟩

/-- A change that leaves the object table leaves every slot's combination and position. -/
theorem Touches.contactsStay {ps : List Part} {s t : State} (h : Touches ps s t) (hp : Part.objects ∉ ps) (k : Nat) :
    ContactsStay k s t := by
  have ho : objIn t k = objIn s k := objIn_congr (h .objects hp) k
  simp [ContactsStay, positionOf, ho]

theorem putObj_contactsStay {s : State} {j : Nat} {o : ObjIn} (hq : o.qualified = (objIn s j).qualified)
    (hp : o.position = positionOf s j) (k : Nat) : ContactsStay k s (s.putObj j o) := by
  by_cases hk : k = j
  · subst hk
    simp [ContactsStay, positionOf, hq, hp]
  · simp [ContactsStay, positionOf, objIn_putObj_other s o hk]

theorem setCommanded_contactsStay (j : Nat) (s : State) (k : Nat) : ContactsStay k s (setCommanded j s) := by
  apply putObj_contactsStay <;> rfl

theorem clearCommanded_contactsStay (j : Nat) (s : State) (k : Nat) : ContactsStay k s (clearCommanded j s) := by
  apply putObj_contactsStay <;> rfl

theorem startDrive_contactsStay (d : ObjDesc) (op : Operation) (s : State) (k : Nat) :
    ContactsStay k s (startDrive d op s) :=
  (setCommanded_contactsStay _ _ k).trans ((touches_withDrive _ _).contactsStay (by decide) k)

theorem setHead_contactsStay (op : Operation) (s : State) (k : Nat) : ContactsStay k s (setHead op s) :=
  (setHead_touches op s).contactsStay (by decide) k

theorem endOperation_contactsStay (op : Operation) (o : OpOutcome) (r : Reason) (s : State) (k : Nat) :
    ContactsStay k s (endOperation op o r s) :=
  (endOperation_touches op o r s).contactsStay (by decide) k

theorem deferHead_contactsStay (r : Reason) (s : State) (k : Nat) : ContactsStay k s (deferHead r s).1 :=
  (deferHead_touches r s).contactsStay (by decide) k

theorem endHeldClaim_contactsStay (driven : Bool) (s : State) (k : Nat) : ContactsStay k s (endHeldClaim driven s) :=
  (endHeldClaim_touches driven s).contactsStay (by decide) k

theorem grantHandling_contactsStay (s : State) (k : Nat) : ContactsStay k s (grantHandling s).1 := by
  unfold grantHandling
  split
  · rfl
  · dsimp only
    split
    · exact (endHeldClaim_contactsStay _ _ k).trans (endOperation_contactsStay _ _ _ _ k)
    · split
      · exact ((setHead_contactsStay _ s k).trans (endHeldClaim_contactsStay _ _ k)).trans
          (deferHead_contactsStay _ _ k)
      · split
        · exact ((setHead_contactsStay _ s k).trans (setHead_contactsStay _ _ k)).trans
            (startDrive_contactsStay _ _ _ k)
        · exact ((setHead_contactsStay _ s k).trans (endHeldClaim_contactsStay _ _ k)).trans
            (deferHead_contactsStay _ _ k)

theorem claimStep_contactsStay (op : Operation) (nodes : NodeSet) (s : State) (k : Nat) :
    ContactsStay k s (claimStep op nodes s).1 := by
  have h := (startClaim_touches op nodes s).contactsStay (by decide) k
  unfold claimStep
  split <;> rename_i heq <;> rw [heq] at h
  · exact h.trans (setHead_contactsStay _ _ k)
  · exact h.trans (grantHandling_contactsStay _ k)
  · exact h.trans (deferHead_contactsStay _ _ k)
  · exact h.trans (deferHead_contactsStay _ _ k)

theorem startHead_contactsStay (op : Operation) (s : State) (k : Nat) : ContactsStay k s (startHead op s).1 := by
  unfold startHead
  split
  · exact endOperation_contactsStay _ _ _ _ k
  · split
    · exact endOperation_contactsStay _ _ _ _ k
    · dsimp only
      split
      · exact (setHead_contactsStay _ s k).trans (endOperation_contactsStay _ _ _ _ k)
      · exact ((setHead_contactsStay _ s k).trans (setHead_contactsStay _ _ k)).trans (claimStep_contactsStay _ _ _ k)

theorem headStart_contactsStay (s : State) (k : Nat) : ContactsStay k s (headStart s).1 := by
  unfold headStart
  split
  · rfl
  · exact ((seePositions_touches _ _).contactsStay (by decide) k).trans (startHead_contactsStay _ _ k)

theorem runHeads_contactsStay (n : Nat) (s : State) (k : Nat) : ContactsStay k s (runHeads n s) := by
  induction n generalizing s with
  | zero => rfl
  | succ n ih =>
    unfold runHeads
    split
    · rfl
    · dsimp only
      split
      · exact (headStart_contactsStay s k).trans (ih _)
      · exact headStart_contactsStay s k

theorem reportDriveEnd_contactsStay (o : OpOutcome) (r : Reason) (s : State) (k : Nat) :
    ContactsStay k s (reportDriveEnd o r s) := by
  unfold reportDriveEnd
  split
  · rfl
  · exact (endOperation_contactsStay _ _ _ _ k).trans (runHeads_contactsStay _ _ k)

theorem endDrive_contactsStay (o : OpOutcome) (r : Reason) (s : State) (k : Nat) :
    ContactsStay k s (endDrive o r s) := by
  unfold endDrive
  split
  · rfl
  · rename_i d _
    refine ContactsStay.trans ?_ (reportDriveEnd_contactsStay o r _ k)
    have hc : ContactsStay k s (clearCommanded d.object (stopDrive d s)) :=
      ((stopDrive_touches d s).contactsStay (by decide) k).trans (clearCommanded_contactsStay _ _ k)
    split
    · exact hc.trans ((reportEvent_touches _ _).contactsStay (by decide) k)
    · exact hc

/-! ### Flags through drives -/

@[refl] theorem FlagsStay.refl (s : State) : FlagsStay s s := BitVec.and_self

theorem FlagsStay.trans {s t u : State} (h : FlagsStay s t) (g : FlagsStay t u) : FlagsStay s u := by
  unfold FlagsStay at *
  rw [← h, BitVec.and_assoc, g]

theorem flagsStay_of_pending_or {s t : State} (c : CauseSet) (h : t.faults.pending = s.faults.pending ||| c) :
    FlagsStay s t := by
  unfold FlagsStay
  rw [h]
  ext i
  simp only [BitVec.getElem_and, BitVec.getElem_or]
  cases s.faults.pending[i] <;> rfl

/-- A change that leaves the fault logic clears no flag. -/
theorem Touches.flagsStay {ps : List Part} {s t : State} (h : Touches ps s t) (hp : Part.faults ∉ ps) :
    FlagsStay s t := by
  have hf : t.faults = s.faults := h .faults hp
  simp [FlagsStay, hf]

theorem reportEvent_flagsStay (c : Cause) (s : State) : FlagsStay s (reportEvent c s) :=
  flagsStay_of_pending_or _ (setPending_pending _ _)

theorem beginCondition_flagsStay (c : Cause) (s : State) : FlagsStay s (beginCondition c s) := by
  unfold beginCondition
  split
  · rfl
  · exact flagsStay_of_pending_or _ (setPending_pending _ _)

/-- The end of a condition leaves its flag (R36). -/
theorem endCondition_flagsStay (c : Cause) (s : State) : FlagsStay s (endCondition c s) := BitVec.and_self

theorem watchFaulty_flagsStay (s : State) : FlagsStay s (watchFaulty s) := by
  unfold watchFaulty
  split
  · exact beginCondition_flagsStay _ _
  · exact endCondition_flagsStay _ _

theorem endDrive_flagsStay (o : OpOutcome) (r : Reason) (s : State) : FlagsStay s (endDrive o r s) := by
  unfold endDrive
  split
  · rfl
  · rename_i d _
    refine FlagsStay.trans ?_ ((reportDriveEnd_touches o r _).flagsStay (by decide))
    have hc : FlagsStay s (clearCommanded d.object (stopDrive d s)) :=
      ((stopDrive_touches d s).trans (clearCommanded_touches _ _)).flagsStay (by decide)
    split
    · exact hc.trans (reportEvent_flagsStay _ _)
    · exact hc

/-! ### The qualification event -/

/-- What the Travel Supervisor does with a qualification event: nothing, the arrival, the departure, or the end of the
drive FAILED (R151 to R154, R156). -/
theorem superviseIf_cases (b : Bool) (c : Comb) (s : State) :
    superviseIf b c s = s ∨ (∃ d, superviseIf b c s = arrive d s) ∨ (∃ d, superviseIf b c s = depart d s) ∨
      ∃ r, superviseIf b c s = endDrive .failed r s := by
  unfold superviseIf superviseEvent
  split
  · split
    · exact .inl rfl
    · rename_i d _
      split
      · split
        · exact .inl rfl
        · exact .inr (.inr (.inr ⟨_, rfl⟩))
      · split
        · exact .inr (.inl ⟨d, rfl⟩)
        · split
          · exact .inr (.inr (.inr ⟨_, rfl⟩))
          · split
            · exact .inr (.inr (.inr ⟨_, rfl⟩))
            · exact .inr (.inr (.inl ⟨d, rfl⟩))
  · exact .inl rfl

theorem superviseIf_contactsStay (b : Bool) (c : Comb) (s : State) (k : Nat) :
    ContactsStay k s (superviseIf b c s) := by
  rcases superviseIf_cases b c s with h | ⟨d, h⟩ | ⟨d, h⟩ | ⟨r, h⟩ <;> rw [h]
  · exact (arrive_touches d s).contactsStay (by decide) k
  · exact (depart_touches d s).contactsStay (by decide) k
  · exact endDrive_contactsStay _ r s k

theorem superviseIf_flagsStay (b : Bool) (c : Comb) (s : State) : FlagsStay s (superviseIf b c s) := by
  rcases superviseIf_cases b c s with h | ⟨d, h⟩ | ⟨d, h⟩ | ⟨r, h⟩ <;> rw [h]
  · exact (arrive_touches d s).flagsStay (by decide)
  · exact (depart_touches d s).flagsStay (by decide)
  · exact endDrive_flagsStay _ r s

theorem handPosition_contactsStay (j : Nat) (s : State) (k : Nat) : ContactsStay k s (handPosition j s) :=
  (handPosition_touches j s).contactsStay (by decide) k

theorem handPosition_flagsStay (k : Nat) (s : State) : FlagsStay s (handPosition k s) :=
  (((ownChanged_touches s).trans (raiseView_touches _ _ _)).trans (touches_withHandover _ _) |>.flagsStay
    (by decide)).trans (watchFaulty_flagsStay _)

/-- A qualification event sets the position by R20, whether the object is commanded or not. -/
theorem qualifyObject_position (k : Nat) (c : Comb) (s : State) :
    positionOf (qualifyObject k c s) k = positionFor c (positionOf s k) := by
  have hput : positionOf (s.putObj k (qualifiedObj s (objIn s k) c)) k = positionFor c (positionOf s k) := by
    simp [positionOf, qualifiedObj]
  rw [← hput]
  unfold qualifyObject
  dsimp only
  refine (superviseIf_contactsStay _ c _ k).2.trans ?_
  split
  · rfl
  · exact (handPosition_contactsStay k _ k).2

/-- A qualification event clears no pending flag (R36, R37). -/
theorem qualifyObject_flagsStay (k : Nat) (c : Comb) (s : State) : FlagsStay s (qualifyObject k c s) := by
  have hput : FlagsStay s (s.putObj k (qualifiedObj s (objIn s k) c)) := (putObj_touches _ _ _).flagsStay (by decide)
  unfold qualifyObject
  refine hput.trans (FlagsStay.trans ?_ (superviseIf_flagsStay _ c _))
  split
  · rfl
  · exact handPosition_flagsStay k _

/-- QUALIFICATION_EVENT of a configured object whose raw combination is not the qualified one (R19). -/
theorem exec_qualificationEvent {s : State} {k : Nat} {d : ObjDesc} (hd : objDesc s k = some d)
    (hq : (objIn s k).qualified ≠ some (rawComb d (objIn s k))) :
    exec (.qualificationEvent k) s =
      .next (qualifyObject k (rawComb d (objIn s k)) (s.reachTime ((objIn s k).since + qualificationTime s))) := by
  have harm : exec (.qualificationEvent k) s = execQualificationEvent k s := rfl
  simp [harm, execQualificationEvent, hd, hq]

/-- The position table's rows for a FAULTY object (R20, R22). -/
theorem positionFor_faulty (c : Comb) :
    (c = .c10 → positionFor c .faulty = .opened) ∧ (c = .c01 → positionFor c .faulty = .closed) ∧
      (c = .c00 → positionFor c .faulty = .faulty) ∧ (c = .c11 → positionFor c .faulty = .faulty) := by
  cases c <;> decide

/-- Settles O10: the event sets the position by R20's table, whose rows for FAULTY are R22, and what the Travel
Supervisor does with the event of a commanded object writes no position. -/
theorem faultyLeavesOnlyAtAnEnd : Obligations.FaultyLeavesOnlyAtAnEnd := by
  intro s k d hd hf hq
  refine ⟨_, exec_qualificationEvent hd hq, ?_, ?_⟩
  · exact ((reachTime_touches s _).flagsStay (by decide)).trans (qualifyObject_flagsStay _ _ _)
  · have hpos : positionOf (s.reachTime ((objIn s k).since + qualificationTime s)) k = .faulty := hf
    rw [qualifyObject_position, hpos]
    exact positionFor_faulty _

end Sys2Proof.Machine

namespace Sys2Proof.Machine

/-! ### Chains of edges (R84) -/

theorem Chained.trans {edges : List Edge} {p q r : Point} (h : Chained edges p q) (g : Chained edges q r) :
    Chained edges p r := by
  induction g with
  | here => exact h
  | forward e he _ ih => exact .forward e he ih
  | backward e he _ ih => exact .backward e he ih

theorem Chained.symm {edges : List Edge} {p q : Point} (h : Chained edges p q) : Chained edges q p := by
  induction h with
  | here => exact .here
  | forward e he _ ih => exact (Chained.backward e he .here).trans ih
  | backward e he _ ih => exact (Chained.forward e he .here).trans ih

theorem Chained.mono {es fs : List Edge} (hsub : es ⊆ fs) {p q : Point} (h : Chained es p q) : Chained fs p q := by
  induction h with
  | here => exact .here
  | forward e he _ ih => exact .forward e (hsub he) ih
  | backward e he _ ih => exact .backward e (hsub he) ih

/-- What holds of a point, and of one end of an edge when it holds of the other, holds along every chain. -/
theorem Chained.invariant {edges : List Edge} {P : Point → Prop} (hP : ∀ e ∈ edges, (P e.a ↔ P e.b)) {p q : Point}
    (hp : P p) (h : Chained edges p q) : P q := by
  induction h with
  | here => exact hp
  | forward e he _ ih => exact (hP e he).1 ih
  | backward e he _ ih => exact (hP e he).2 ih

theorem chained_ends_iff {edges : List Edge} {p : Point} {e : Edge} (he : e ∈ edges) :
    Chained edges p e.a ↔ Chained edges p e.b :=
  ⟨.forward e he, .backward e he⟩

theorem chained_of_untouched {edges : List Edge} {p : Point} (hp : untouched edges p) (q : Point) :
    Chained edges p q ↔ q = p := by
  constructor
  · refine Chained.invariant (P := fun r => r = p) (fun e he => ?_) rfl
    obtain ⟨ha, hb⟩ := hp e he
    simp [ha, hb]
  · rintro rfl
    exact .here

/-! ### One pass over the edges -/

theorem mem_joinEdge {set : List Point} {e : Edge} {q : Point} :
    q ∈ joinEdge set e ↔ q ∈ set ∨ (q = e.a ∧ e.b ∈ set) ∨ (q = e.b ∧ e.a ∈ set) := by
  unfold joinEdge
  split
  · split <;> grind
  · split <;> grind

theorem subset_pass (edges : List Edge) (set : List Point) : set ⊆ edges.foldl joinEdge set := by
  induction edges generalizing set with
  | nil => exact List.Subset.refl _
  | cons e es ih => exact fun q hq => ih _ (mem_joinEdge.2 (.inl hq))

/-- A pass takes in both ends of every edge that has one end in the set. -/
theorem pass_joins {edges : List Edge} {set : List Point} {e : Edge} (he : e ∈ edges) (h : e.a ∈ set ∨ e.b ∈ set) :
    e.a ∈ edges.foldl joinEdge set ∧ e.b ∈ edges.foldl joinEdge set := by
  induction edges generalizing set with
  | nil => cases he
  | cons f fs ih =>
    rcases List.mem_cons.1 he with rfl | hfs
    · have ha : e.a ∈ joinEdge set e := mem_joinEdge.2 (by tauto)
      have hb : e.b ∈ joinEdge set e := mem_joinEdge.2 (by tauto)
      exact ⟨subset_pass fs _ ha, subset_pass fs _ hb⟩
    · exact ih hfs (h.imp (fun ha => mem_joinEdge.2 (.inl ha)) (fun hb => mem_joinEdge.2 (.inl hb)))

/-- What holds of every point of a set, and of one end of an edge when it holds of the other, holds after a pass. -/
theorem pass_invariant {edges : List Edge} {P : Point → Prop} (hP : ∀ e ∈ edges, (P e.a ↔ P e.b)) {set : List Point}
    (hset : ∀ q ∈ set, P q) : ∀ q ∈ edges.foldl joinEdge set, P q := by
  induction edges generalizing set with
  | nil => exact hset
  | cons e es ih =>
    obtain ⟨he, hes⟩ := List.forall_mem_cons.1 hP
    refine ih hes fun q hq => ?_
    rcases mem_joinEdge.1 hq with hq | ⟨rfl, hb⟩ | ⟨rfl, ha⟩
    · exact hset q hq
    · exact he.2 (hset _ hb)
    · exact he.1 (hset _ ha)

/-! ### The passes of a component

A set is finished when no edge leaves it. A pass over a set that is not finished takes in an edge with both its ends, so
as many passes as there are edges finish it. -/

/-- No edge has one end alone in the set. -/
def Finished (edges : List Edge) (set : List Point) : Prop := ∀ e ∈ edges, (e.a ∈ set ↔ e.b ∈ set)

/-- The edges that have both ends in the set. -/
def joinedEdges (edges : List Edge) (set : List Point) : Finset Edge :=
  edges.toFinset.filter fun e => e.a ∈ set ∧ e.b ∈ set

theorem mem_joinedEdges {edges : List Edge} {set : List Point} {e : Edge} :
    e ∈ joinedEdges edges set ↔ e ∈ edges ∧ e.a ∈ set ∧ e.b ∈ set := by
  simp [joinedEdges]

theorem Finished.pass {edges : List Edge} {set : List Point} (h : Finished edges set) :
    Finished edges (edges.foldl joinEdge set) := by
  have hmem : ∀ q, q ∈ edges.foldl joinEdge set ↔ q ∈ set := fun q =>
    ⟨pass_invariant (P := (· ∈ set)) h (fun _ => id) q, @subset_pass edges set q⟩
  intro e he
  rw [hmem, hmem]
  exact h e he

theorem Finished.growBy {edges : List Edge} {set : List Point} (h : Finished edges set) (n : Nat) :
    Finished edges (growBy edges n set) := by
  induction n generalizing set with
  | zero => exact h
  | succ n ih => exact ih h.pass

theorem card_joinedEdges_lt {edges : List Edge} {set : List Point} (h : ¬ Finished edges set) :
    (joinedEdges edges set).card < (joinedEdges edges (edges.foldl joinEdge set)).card := by
  refine Finset.card_lt_card (Finset.ssubset_iff_of_subset (fun e he => ?_) |>.2 ?_)
  · obtain ⟨hmem, ha, -⟩ := mem_joinedEdges.1 he
    exact mem_joinedEdges.2 ⟨hmem, pass_joins hmem (.inl ha)⟩
  · unfold Finished at h
    push Not at h
    obtain ⟨e, he, hend⟩ := h
    have hone : e.a ∈ set ∨ e.b ∈ set := by tauto
    refine ⟨e, mem_joinedEdges.2 ⟨he, pass_joins he hone⟩, fun hin => ?_⟩
    obtain ⟨-, ha, hb⟩ := mem_joinedEdges.1 hin
    tauto

theorem growBy_finished_or_counts (edges : List Edge) (n : Nat) (set : List Point) :
    Finished edges (growBy edges n set) ∨
      n + (joinedEdges edges set).card ≤ (joinedEdges edges (growBy edges n set)).card := by
  induction n generalizing set with
  | zero => exact .inr (Nat.zero_add _).le
  | succ n ih =>
    by_cases hfin : Finished edges set
    · exact .inl (hfin.growBy (n + 1))
    · refine (ih (edges.foldl joinEdge set)).imp id fun hcount => ?_
      have hlt := card_joinedEdges_lt hfin
      simp only [growBy]
      omega

theorem finished_component (edges : List Edge) (p : Point) : Finished edges (component edges p) := by
  refine (growBy_finished_or_counts edges edges.length [p]).elim id fun hcount => ?_
  have hall : joinedEdges edges (component edges p) = edges.toFinset := by
    refine Finset.eq_of_subset_of_card_le (Finset.filter_subset _ _) ?_
    calc edges.toFinset.card ≤ edges.length := edges.toFinset_card_le
      _ ≤ (joinedEdges edges (component edges p)).card := (Nat.le_add_right _ _).trans hcount
  intro e he
  obtain ⟨-, ha, hb⟩ := mem_joinedEdges.1 (hall ▸ List.mem_toFinset.2 he)
  exact iff_of_true ha hb

theorem subset_growBy (edges : List Edge) (n : Nat) (set : List Point) : set ⊆ growBy edges n set := by
  induction n generalizing set with
  | zero => exact List.Subset.refl _
  | succ n ih => exact List.Subset.trans (subset_pass edges set) (ih _)

theorem growBy_invariant {edges : List Edge} {P : Point → Prop} (hP : ∀ e ∈ edges, (P e.a ↔ P e.b)) (n : Nat)
    {set : List Point} (hset : ∀ q ∈ set, P q) : ∀ q ∈ growBy edges n set, P q := by
  induction n generalizing set with
  | zero => exact hset
  | succ n ih => exact ih (pass_invariant hP hset)

/-- A component is the points that a chain of its edges joins to its point (R84). -/
theorem mem_component {edges : List Edge} {p q : Point} : q ∈ component edges p ↔ Chained edges p q := by
  constructor
  · refine growBy_invariant (P := Chained edges p) (fun e he => chained_ends_iff he) _ (fun r hr => ?_) q
    rw [List.mem_singleton.1 hr]
    exact .here
  · exact Chained.invariant (finished_component edges p) (subset_growBy edges _ _ List.mem_cons_self)

@[simp] theorem mem_looseComponent {edges : List Edge} {p q : Point} :
    q ∈ looseComponent edges p ↔ Chained edges p q := mem_component

@[simp] theorem mem_firmComponent {edges : List Edge} {p q : Point} :
    q ∈ firmComponent edges p ↔ Chained (edges.filter (·.firm)) p q := mem_component

/-- Two points that a chain joins have the same points joined to them. -/
theorem Chained.congr {edges : List Edge} {p q : Point} (h : Chained edges p q) (r : Point) :
    Chained edges q r ↔ Chained edges p r :=
  ⟨h.trans, h.symm.trans⟩

/-- Settles O50: a component is the points chained to its point, since the passes of `component` end finished, and being
chained is an equivalence that grows with the edges. -/
theorem componentsAreChains : Obligations.ComponentsAreChains := by
  intro edges p q
  have hfirm : edges.filter (·.firm) ⊆ edges := List.filter_subset_self _
  simp only [mem_looseComponent, mem_firmComponent, true_and]
  refine ⟨.here, .here, Chained.congr, Chained.congr, Chained.mono hfirm, fun hp => ?_⟩
  exact ⟨chained_of_untouched hp q, chained_of_untouched (fun e he => hp e (hfirm he)) q⟩

end Sys2Proof.Machine

namespace Sys2Proof.Machine

/-! ### What an evaluation counts (R80, R83, R85) -/

theorem getElem?_ownObjectsFrom (s : State) (k : Nat) (ds : List ObjDesc) (i : Nat) :
    (ownObjectsFrom s k ds)[i]? = ds[i]?.map fun d =>
      { kind := d.kind, term1 := d.term1, term2 := d.term2, position := positionOf s (k + i) } := by
  induction ds generalizing k i with
  | nil => rfl
  | cons d ds ih =>
    cases i with
    | zero => rfl
    | succ i => simp [ownObjectsFrom, ih, Nat.add_right_comm, Nat.add_assoc]

theorem getElem?_ownSensorsFrom (s : State) (k : Nat) (ds : List SensorDesc) (i : Nat) :
    (ownSensorsFrom s k ds)[i]? = ds[i]?.map fun d =>
      { node := d.node, indication := (sensorIn s (k + i)).indication } := by
  induction ds generalizing k i with
  | nil => rfl
  | cons d ds ih =>
    cases i with
    | zero => rfl
    | succ i => simp [ownSensorsFrom, ih, Nat.add_right_comm, Nat.add_assoc]

theorem mem_ownSensorsFrom {s : State} {ds : List SensorDesc} {x : PubSensor} : x ∈ ownSensorsFrom s 1 ds ↔
    ∃ i d, ds[i]? = some d ∧ { node := d.node, indication := (sensorIn s (1 + i)).indication } = x := by
  simp only [List.mem_iff_getElem?, getElem?_ownSensorsFrom, Option.map_eq_some_iff]

theorem objDesc_eq_some {s : State} {k : Nat} {d : ObjDesc} :
    objDesc s k = some d ↔ ∃ r, s.copy = some r ∧ ∃ i, k = i + 1 ∧ r.objects[i]? = some d := by
  unfold objDesc
  cases s.copy <;> cases k <;> simp

theorem sensorDesc_eq_some {s : State} {k : Nat} {d : SensorDesc} :
    sensorDesc s k = some d ↔ ∃ r, s.copy = some r ∧ ∃ i, k = i + 1 ∧ r.sensors[i]? = some d := by
  unfold sensorDesc
  cases s.copy <;> cases k <;> simp

/-- The own objects that count are those at the other indices; an own object's index is not 0 (R83). -/
theorem mem_otherOwnObjects {s : State} {k : Nat} {d : ObjDesc} (hd : objDesc s k = some d) (o : PubObject) :
    o ∈ otherOwnObjects s k ↔ ∃ i, i ≠ k ∧ ∃ d, objDesc s i = some d ∧
      o = { kind := d.kind, term1 := d.term1, term2 := d.term2, position := positionOf s i } := by
  obtain ⟨r, hr, j, rfl, -⟩ := objDesc_eq_some.1 hd
  simp only [otherOwnObjects, hr, Nat.add_sub_cancel, List.mem_eraseIdx_iff_getElem?, getElem?_ownObjectsFrom,
    Option.map_eq_some_iff, objDesc_eq_some]
  constructor
  · rintro ⟨i, hij, c, hc, rfl⟩
    exact ⟨i + 1, by omega, c, ⟨r, rfl, i, rfl, hc⟩, by rw [Nat.add_comm]⟩
  · rintro ⟨_, hij, c, ⟨_, ⟨⟩, i, rfl, hc⟩, rfl⟩
    exact ⟨i, by omega, c, hc, by rw [Nat.add_comm]⟩

theorem mem_countedObjects {s : State} {k : Nat} {d : ObjDesc} (hd : objDesc s k = some d) {station : Nat}
    {o : PubObject} {p : Position} : (station, o, p) ∈ countedObjects s k ↔ CountedObject s k station o p := by
  unfold countedObjects CountedObject
  refine List.mem_append.trans (or_congr ?_ ?_)
  · simp only [List.mem_map, mem_otherOwnObjects hd, Prod.mk.injEq]
    constructor
    · rintro ⟨_, ⟨i, hik, c, hc, rfl⟩, rfl, rfl, rfl⟩
      exact ⟨rfl, i, hik, c, hc, rfl, rfl⟩
    · rintro ⟨rfl, i, hik, c, hc, rfl, rfl⟩
      exact ⟨_, ⟨i, hik, c, hc, rfl⟩, rfl, rfl, rfl⟩
  · simp only [List.mem_flatMap, List.mem_map, Prod.mk.injEq, readPosition]
    constructor
    · rintro ⟨⟨_, e⟩, he, _, ho, rfl, rfl, rfl⟩
      exact ⟨e, he, ho, rfl⟩
    · rintro ⟨e, he, ho, rfl⟩
      exact ⟨(station, e), he, o, ho, rfl, rfl, rfl⟩

theorem mem_countedSensors {s : State} {q : Point} {i : Indication} :
    (q, i) ∈ countedSensors s ↔ CountedSensor s q i := by
  unfold countedSensors CountedSensor
  refine List.mem_append.trans (or_congr ?_ ?_)
  · simp only [sensorDesc_eq_some]
    cases hc : s.copy with
    | none => simp
    | some r =>
      simp only [List.mem_filterMap, mem_ownSensorsFrom, Option.map_eq_some_iff, Prod.mk.injEq]
      constructor
      · rintro ⟨_, ⟨j, d, hd, rfl⟩, _, hq, rfl, rfl⟩
        exact ⟨j + 1, d, ⟨r, rfl, j, rfl, hd⟩, hq, by rw [Nat.add_comm]⟩
      · rintro ⟨_, d, ⟨_, ⟨⟩, j, rfl, hd⟩, hq, rfl⟩
        exact ⟨_, ⟨j, d, hd, rfl⟩, q, hq, rfl, by rw [Nat.add_comm]⟩
  · simp only [List.mem_flatMap, List.mem_filterMap, Option.map_eq_some_iff, Prod.mk.injEq, readIndication]
    constructor
    · rintro ⟨⟨station, e⟩, he, x, hx, _, hq, rfl, rfl⟩
      exact ⟨station, e, he, x, hx, hq, rfl⟩
    · rintro ⟨station, e, he, x, hx, hq, rfl⟩
      exact ⟨(station, e), he, x, hx, q, hq, rfl, rfl⟩

/-! ### Edges and attributes (R83, R85, R86) -/

theorem edgeOf_eq_some {station : Nat} {o : PubObject} {p : Position} {e : Edge} :
    edgeOf station o p = some e ↔ o.kind ≠ .es ∧ p ≠ .opened ∧ pointOf station o.term1 = some e.a ∧
      pointOf station o.term2 = some e.b ∧ (e.firm = true ↔ p = .closed) := by
  obtain ⟨a, b, firm⟩ := e
  unfold edgeOf
  split
  · simp_all
  · cases pointOf station o.term1 <;> cases pointOf station o.term2 <;> cases p <;> simp_all

theorem mem_edgesFor {s : State} {k : Nat} {d : ObjDesc} (hd : objDesc s k = some d) (e : Edge) :
    e ∈ edgesFor s k ↔ EdgeOf s k e := by
  simp only [edgesFor, List.mem_filterMap, Prod.exists, mem_countedObjects hd, edgeOf_eq_some, EdgeOf]

theorem isLive_iff {s : State} {points : List Point} :
    isLive s points = true ↔ ∃ q i, q ∈ points ∧ CountedSensor s q i ∧ i ≠ .absent := by
  simp only [isLive, List.any_eq_true, Prod.exists, mem_countedSensors, Bool.and_eq_true, decide_eq_true_eq, bne_iff_ne,
    and_left_comm]

theorem earths_iff {station : Nat} {o : PubObject} {p : Position} {points : List Point} :
    earths station o p points = true ↔
      o.kind = .es ∧ p ≠ .opened ∧ ∃ q, pointOf station o.term1 = some q ∧ q ∈ points := by
  unfold earths
  cases pointOf station o.term1 <;> simp [and_assoc]

theorem isEarthed_iff {s : State} {k : Nat} {d : ObjDesc} (hd : objDesc s k = some d) {points : List Point} :
    isEarthed s k points = true ↔ ∃ station o p q, CountedObject s k station o p ∧ o.kind = .es ∧ p ≠ .opened ∧
      pointOf station o.term1 = some q ∧ q ∈ points := by
  simp only [isEarthed, List.any_eq_true, Prod.exists, mem_countedObjects hd, earths_iff, exists_and_left]

theorem isLive_looseComponent {s : State} {k : Nat} {p : Point} :
    isLive s (looseComponent (edgesFor s k) p) = true ↔ LiveAt s k p := by
  simp only [isLive_iff, mem_looseComponent, LiveAt]

theorem isEarthed_looseComponent {s : State} {k : Nat} {d : ObjDesc} (hd : objDesc s k = some d) {p : Point} :
    isEarthed s k (looseComponent (edgesFor s k) p) = true ↔ EarthedAt s k p := by
  simp only [isEarthed_iff hd, mem_looseComponent, EarthedAt]

theorem isLive_nil (s : State) : isLive s [] = false := by simp [isLive]

theorem isEarthed_nil (s : State) (k : Nat) : isEarthed s k [] = false :=
  List.any_eq_false.2 fun _ _ => by simp [earths_iff]

/-! ### The facts of an object's two sides (R87) -/

/-- The points of the side B: none for an object without a second point. -/
theorem factsFor_sideB (s : State) (k : Nat) (d : ObjDesc) (a : Point) :
    ((factsFor s k d a).firmJoined = true ↔ ∃ b, secondPoint s d = some b ∧ b ∈ firmComponent (edgesFor s k) a) ∧
    ((factsFor s k d a).liveB = true ↔
      ∃ b, secondPoint s d = some b ∧ isLive s (looseComponent (edgesFor s k) b) = true) ∧
    ((factsFor s k d a).earthedB = true ↔
      ∃ b, secondPoint s d = some b ∧ isEarthed s k (looseComponent (edgesFor s k) b) = true) := by
  cases h : secondPoint s d <;> simp [factsFor, sideFacts, h, isLive_nil, isEarthed_nil]

/-! ### Yard nodes reached and missing stations (R88, R93) -/

theorem getLsbD_foldl_insert (p : Nat → Bool) (ns : List Nat) (nodes : NodeSet) (n : Nat) :
    (ns.foldl (fun s m => if p m then s ||| (1 : NodeSet) <<< m else s) nodes).getLsbD n = true ↔
      nodes.getLsbD n = true ∨ n < 128 ∧ n ∈ ns ∧ p n = true := by
  induction ns generalizing nodes with
  | nil => simp
  | cons m ms ih =>
    have hbit : (nodes ||| (1 : NodeSet) <<< m).getLsbD n = true ↔ nodes.getLsbD n = true ∨ n < 128 ∧ n = m := by
      simp only [BitVec.getLsbD_or, BitVec.getLsbD_shiftLeft, BitVec.ofNat_eq_ofNat, BitVec.getLsbD_one,
        Bool.or_eq_true, Bool.and_eq_true, Bool.not_eq_true', decide_eq_true_eq, decide_eq_false_iff_not]
      exact or_congr_right (by omega)
    rw [List.foldl_cons, ih]
    split
    · rw [hbit, List.mem_cons]
      grind
    · rw [List.mem_cons]
      grind

theorem nodesHave_nodeSetOf (p : Nat → Bool) (n : Nat) :
    nodesHave (nodeSetOf p) n = true ↔ 1 ≤ n ∧ n ≤ 127 ∧ p n = true := by
  unfold nodesHave nodeSetOf
  have hempty : ¬ BitVec.getLsbD (0 : NodeSet) n = true := by simp
  rw [getLsbD_foldl_insert, List.mem_range'_1, or_iff_right hempty]
  grind

theorem mem_reachOf {s : State} {k : Nat} {a q : Point} {b : Option Point} :
    q ∈ reachOf (edgesFor s k) a b ↔
      Chained (edgesFor s k) a q ∨ ∃ c, b = some c ∧ Chained (edgesFor s k) c q := by
  cases b <;> simp [reachOf]

theorem nodesHave_reachedNodes (s : State) (k : Nat) (d : ObjDesc) (a : Point) (n : Nat) :
    nodesHave (reachedNodes s k d a) n = true ↔
      1 ≤ n ∧ n ≤ 127 ∧ (Chained (edgesFor s k) a (.yard n) ∨
        ∃ b, secondPoint s d = some b ∧ Chained (edgesFor s k) b (.yard n)) := by
  unfold reachedNodes yardNodesOf
  rw [nodesHave_nodeSetOf, decide_eq_true_eq, mem_reachOf]

theorem nodeSet_ne_zero_iff (nodes : NodeSet) : nodes ≠ 0 ↔ ∃ n, nodesHave nodes n = true := by
  constructor
  · intro hne
    by_contra hnone
    push Not at hnone
    refine hne (BitVec.eq_of_getLsbD_eq fun i _ => ?_)
    simpa [nodesHave] using hnone i
  · rintro ⟨n, hn⟩ rfl
    simp [nodesHave] at hn

theorem someMissing_iff (s : State) : someMissing s = true ↔
    ∃ r j, s.copy = some r ∧ 1 ≤ j ∧ j ≤ 63 ∧ r.expected.getLsbD j = true ∧ entryOf s j = none := by
  unfold someMissing isMissing
  cases s.copy with
  | none => simp
  | some r => simp [Nat.lt_succ_iff, and_assoc]

theorem missingRefuses_iff (s : State) (k : Nat) (d : ObjDesc) (a : Point) : missingRefuses s k d a = true ↔
    (∃ r j, s.copy = some r ∧ 1 ≤ j ∧ j ≤ 63 ∧ r.expected.getLsbD j = true ∧ entryOf s j = none) ∧
      ∃ n, nodesHave (reachedNodes s k d a) n = true := by
  rw [missingRefuses, Bool.and_eq_true, bne_iff_ne, someMissing_iff, nodeSet_ne_zero_iff]

theorem bypassAdmits_iff (s : State) (source : Source) : bypassAdmits s source = true ↔
    source = .localPanel ∧ bypassKeyOf s = .on ∧ selectorOf s = .localMode := by
  simp only [bypassAdmits, bypassHolds, Bool.and_eq_true, beq_iff_eq]

theorem syncAsserted_iff (s : State) : syncAsserted s = true ↔ s.singles.synchro.qualified = some true := beq_iff_eq

/-! ### The answer of an evaluation (R88 to R94) -/

theorem evaluate_eq {s : State} {k : Nat} {d : ObjDesc} {a : Point} (hd : objDesc s k = some d)
    (ha : pointOf (ownAddress s) d.term1 = some a) (dir : Direction) (source : Source) :
    evaluate s k dir source = withBypass (bypassAdmits s source) (reachedNodes s k d a)
      (if missingRefuses s k d a then .refuse .missingStation
        else verdictTest d.kind dir (syncAsserted s) (factsFor s k d a)) := by
  unfold evaluate
  rw [hd]
  dsimp only
  rw [ha]
  rfl

theorem verdictTest_ds (dir : Direction) (sync : Bool) (f : SideFacts) : verdictTest .ds dir sync f =
    if f.firmJoined then .permit .parallel
    else if f.liveA && f.liveB then .refuse .bothLive
    else if liveFacesEarth f then .refuse .liveToEarth
    else .permit .oneSideDead := by
  cases dir <;> rfl

theorem verdictTest_cbClose (sync : Bool) (f : SideFacts) : verdictTest .cb .toClose sync f =
    if f.firmJoined then .permit .loop
    else if liveFacesEarth f then .refuse .liveToEarth
    else if f.liveA && f.liveB then (if sync then .permit .sync else .refuse .noSync)
    else .permit .oneSideDead := rfl

theorem verdictTest_esClose (sync : Bool) (f : SideFacts) :
    verdictTest .es .toClose sync f = if f.liveA then .refuse .liveNode else .permit .dead := rfl

theorem verdictTest_toOpen {kind : Kind} (h : kind ≠ .ds) (sync : Bool) (f : SideFacts) :
    verdictTest kind .toOpen sync f = .permit .noCondition := by
  cases kind with
  | ds => exact absurd rfl h
  | cb => rfl
  | es => rfl

/-- Settles O51: the edges and facts are membership in the evaluation's lists and components (O50's `mem_component`), and
each verdict is the test that `evaluate_eq` leaves after the missing-station test, taken row by row. -/
theorem verdictsFollowTheTables : Obligations.VerdictsFollowTheTables := by
  intro s k dir source d hd a ha
  obtain ⟨hjoined, hliveB, hearthedB⟩ := factsFor_sideB s k d a
  simp only [mem_firmComponent, isLive_looseComponent, isEarthed_looseComponent hd] at hjoined hliveB hearthedB
  have heval := evaluate_eq hd ha dir source
  refine ⟨mem_edgesFor hd, hjoined, isLive_looseComponent, hliveB, isEarthed_looseComponent hd, hearthedB,
    nodesHave_reachedNodes s k d a, missingRefuses_iff s k d a, syncAsserted_iff s, bypassAdmits_iff s source,
    fun hm => ?_, fun hm => ?_⟩
  · rw [hm, if_pos rfl] at heval
    exact heval
  rw [hm, if_neg Bool.false_ne_true] at heval
  have permits : ∀ b, verdictTest d.kind dir (syncAsserted s) (factsFor s k d a) = .permit b →
      PermittedOn s k d a dir source b := fun b h => heval.trans (by rw [h]; rfl)
  have refuses : ∀ r, verdictTest d.kind dir (syncAsserted s) (factsFor s k d a) = .refuse r →
      RefusedFor s k d a dir source r := fun r h => heval.trans (by rw [h]; rfl)
  refine ⟨fun hk => ?_, fun hk hdir => ?_, fun hk hdir => ?_, fun hk hdir => ?_⟩
  · rw [hk, verdictTest_ds] at permits refuses
    refine ⟨fun hfirm => permits _ (by simp [hfirm]), fun hfirm => ⟨fun hA hB => refuses _ (by simp [hfirm, hA, hB]),
      fun hdead => ?_⟩⟩
    have hone := Bool.and_eq_false_iff.2 hdead
    exact ⟨fun hearth => refuses _ (by simp [hfirm, hone, hearth]),
      fun hearth => permits _ (by simp [hfirm, hone, hearth])⟩
  · subst hdir
    rw [hk, verdictTest_cbClose] at permits refuses
    refine ⟨fun hfirm => permits _ (by simp [hfirm]), fun hfirm => ⟨fun hearth => refuses _ (by simp [hfirm, hearth]),
      fun hearth => ⟨fun hA hB => ?_, fun hdead => ?_⟩⟩⟩
    · exact ⟨fun hsync => permits _ (by simp [hfirm, hearth, hA, hB, hsync]),
        fun hsync => refuses _ (by simp [hfirm, hearth, hA, hB, hsync])⟩
    · have hone := Bool.and_eq_false_iff.2 hdead
      exact permits _ (by simp [hfirm, hearth, hone])
  · subst hdir
    rw [hk, verdictTest_esClose] at permits refuses
    exact ⟨fun hlive => refuses _ (if_pos hlive), fun hdead => permits _ (by simp [hdead])⟩
  · subst hdir
    exact permits _ (verdictTest_toOpen hk _ _)

end Sys2Proof.Machine

namespace Sys2Proof.Machine

/-! ### The screening of a REQUEST (R123, R167) -/

theorem inService_iff (s : State) : inService s = true ↔ s.start.phase = .ready ∧ s.start.departure = none := by
  simp only [inService, Bool.and_eq_true, beq_iff_eq]

theorem directionOfCode_eq_none_iff (n : Nat) : directionOfCode n = none ↔ n ≠ 1 ∧ n ≠ 2 := by
  unfold directionOfCode
  split <;> simp_all

/-- A REQUEST fails the screening exactly in the five cases of R123 and while a departure is pending. -/
theorem screenRequest_eq_none_iff (s : State) (f : Frame) : screenRequest s f = none ↔
    s.start.phase ≠ .ready ∨ s.start.departure ≠ none ∨ f.dst = 0 ∨ natAt f.body 1 < 1 ∨ 8 < natAt f.body 1 ∨
      (natAt f.body 2 ≠ 1 ∧ natAt f.body 2 ≠ 2) ∨ (natAt f.body 3 ≠ 0 ∧ natAt f.body 3 ≠ 1) := by
  have hclass : natAt f.body 3 ≤ 1 ↔ ¬ (natAt f.body 3 ≠ 0 ∧ natAt f.body 3 ≠ 1) := by omega
  rw [← directionOfCode_eq_none_iff]
  unfold screenRequest
  split
  case isTrue hpass =>
    rw [inService_iff, hclass, ← Nat.not_lt, ← Nat.not_lt] at hpass
    obtain ⟨⟨hphase, hdeparture⟩, hdst, hlow, hhigh, hcls⟩ := hpass
    simp only [Option.map_eq_none_iff, ne_eq, hphase, hdeparture, hdst, hlow, hhigh, hcls, not_true_eq_false,
      false_or, or_false]
  case isFalse hfail =>
    rw [inService_iff, hclass, ← Nat.not_lt, ← Nat.not_lt] at hfail
    simp only [true_iff]
    tauto

theorem takeRequest_of_screenRequest_eq_none {s : State} {f : Frame} (h : screenRequest s f = none) :
    takeRequest f s = s := by
  unfold takeRequest
  rw [h]

theorem finishDelivery_eq_delivered (s : State) : finishDelivery s = delivered s := rfl

@[simp] theorem delivered_start (s : State) : (delivered s).start = s.start := rfl

theorem execRequest_of_inboundHead {s : State} {f : Frame} (hhead : inboundHead s = some f)
    (htype : f.type = .request) : exec .request s = .next (takeRequest f (delivered s)) := by
  change execRequest s = _
  unfold execRequest
  rw [hhead, ← finishDelivery_eq_delivered]
  exact congrArg Host.Outcome.next (if_pos htype)

/-- Settles O21: the delivery changes nothing the screening reads, and a REQUEST that fails it is left untaken. -/
theorem screenedRequestsChangeNothing : Obligations.ScreenedRequestsChangeNothing := by
  intro s f hhead htype hcases
  have hscreen : screenRequest (delivered s) f = none :=
    (screenRequest_eq_none_iff (delivered s) f).2 (by rwa [delivered_start])
  rw [execRequest_of_inboundHead hhead htype, takeRequest_of_screenRequest_eq_none hscreen]

end Sys2Proof.Machine

namespace Sys2Proof.Machine

/-! ### Division rounded up -/

theorem le_mul_ceilDiv (n : Nat) {d : Nat} (hd : 0 < d) : n ≤ d * ceilDiv n d := by
  have hlt : n + d - 1 < d * ((n + d - 1) / d + 1) := Nat.lt_mul_div_succ _ hd
  rw [Nat.mul_succ] at hlt
  unfold ceilDiv
  omega

theorem mul_ceilDiv_lt (n : Nat) {d : Nat} (hd : 0 < d) : d * ceilDiv n d < n + d := by
  have hle : d * ceilDiv n d ≤ n + d - 1 := Nat.mul_div_le _ d
  omega

theorem ceilDiv_le_iff {n d c : Nat} (hd : 0 < d) : ceilDiv n d ≤ c ↔ n ≤ d * c := by
  constructor
  · exact fun h => (le_mul_ceilDiv n hd).trans (Nat.mul_le_mul_left d h)
  · intro h
    have hlt : d * ceilDiv n d < d * (c + 1) := by
      have := mul_ceilDiv_lt n hd
      rw [Nat.mul_succ]
      omega
    exact Nat.lt_succ_iff.1 (Nat.lt_of_mul_lt_mul_left hlt)

theorem le_ceilDiv_of_mul_le {n d c : Nat} (hd : 0 < d) (h : d * c ≤ n) : c ≤ ceilDiv n d :=
  Nat.le_of_mul_le_mul_left (h.trans (le_mul_ceilDiv n hd)) hd

/-! ### The supply percentage and the temperature used (R143, R144) -/

theorem supplyPercent_of_fault {m : MeasureIn} (nominal : Nat) (h : m.valid = false) :
    supplyPercent m nominal = some 80 := by
  simp [supplyPercent, h]

theorem supplyPercent_of_valid {m : MeasureIn} {v : Nat} (nominal : Nat) (hv : m.value = v) (h : m.valid = true) :
    supplyPercent m nominal = if v * 10 / nominal < 80 then none else some (min (v * 10 / nominal) 110) := by
  simp [supplyPercent, h, hv]

theorem temperatureAbove_of_fault {m : MeasureIn} (h : m.valid = false) : temperatureAbove m = some 0 := by
  simp [temperatureAbove, h]

theorem temperatureAbove_of_valid {m : MeasureIn} (h : m.valid = true) :
    temperatureAbove m = if m.value < -40 then none else some (min m.value 20 + 40).toNat := by
  simp [temperatureAbove, h]

theorem temperatureAbove_of_inRange {m : MeasureIn} {t : Nat} (h : m.valid = true) (hv : m.value = (t : Int) - 40)
    (ht : t ≤ 60) : temperatureAbove m = some t := by
  have hmin : (min m.value 20 + 40).toNat = t := by omega
  rw [temperatureAbove_of_valid h, if_neg (by omega), hmin]

/-! ### The derating between rows and columns (R145) -/

/-- The numerator of the interpolation at `a` percent above a row and `b` degrees above a column (R145). -/
def cellSum (d00 d10 d01 d11 a b : Nat) : Nat :=
  d00 * (10 - a) * (15 - b) + d10 * a * (15 - b) + d01 * (10 - a) * b + d11 * a * b

/-- The four weights add up to 150, so cells within a bound have a sum within 150 times it. -/
theorem cellSum_le {d00 d10 d01 d11 a b c : Nat} (ha : a ≤ 10) (hb : b ≤ 15) (h00 : d00 ≤ c) (h10 : d10 ≤ c)
    (h01 : d01 ≤ c) (h11 : d11 ≤ c) : cellSum d00 d10 d01 d11 a b ≤ 150 * c := by
  calc cellSum d00 d10 d01 d11 a b ≤ cellSum c c c c a b := by
        unfold cellSum
        gcongr
    _ = c * (10 - a + a) * (15 - b + b) := by
        unfold cellSum
        ring
    _ = 150 * c := by
        rw [Nat.sub_add_cancel ha, Nat.sub_add_cancel hb]
        ring

theorem cellSum_corner (d00 d10 d01 d11 : Nat) : cellSum d00 d10 d01 d11 0 0 = 150 * d00 := by
  simp only [cellSum]
  omega

/-- Step 3 finds the row that the percentage was counted from; the end of the last row counts with it. -/
theorem bracketRow_eq {row a : Nat} (hrow : row ≤ 2) (ha : a < 10 ∨ (a = 10 ∧ row = 2)) :
    min ((80 + 10 * row + a - 80) / 10) 2 = row := by omega

/-- Step 3 finds the column that the temperature was counted from; the end of the last column counts with it. -/
theorem bracketColumn_eq {col b : Nat} (hcol : col ≤ 3) (hb : b < 15 ∨ (b = 15 ∧ col = 3)) :
    min ((15 * col + b) / 15) 3 = col := by omega

/-- Step 4: `a` percent above a row and `b` degrees above a column, the four cells around are interpolated. -/
theorem derating_rated {profile : Profile} {row col a b d00 d10 d01 d11 : Nat} (hrow : row ≤ 2) (hcol : col ≤ 3)
    (ha : a < 10 ∨ (a = 10 ∧ row = 2)) (hb : b < 15 ∨ (b = 15 ∧ col = 3)) (h00 : cellAt profile row col = some d00)
    (h10 : cellAt profile (row + 1) col = some d10) (h01 : cellAt profile row (col + 1) = some d01)
    (h11 : cellAt profile (row + 1) (col + 1) = some d11) :
    derating profile (80 + 10 * row + a) (15 * col + b) = some (ceilDiv (cellSum d00 d10 d01 d11 a b) 150) := by
  simp only [derating, bracketRow_eq hrow ha, bracketColumn_eq hcol hb, Nat.add_sub_cancel_left, h00, h10, h01,
    h11, cellSum]

theorem derating_unrated {profile : Profile} {row col a b : Nat} (hrow : row ≤ 2) (hcol : col ≤ 3)
    (ha : a < 10 ∨ (a = 10 ∧ row = 2)) (hb : b < 15 ∨ (b = 15 ∧ col = 3))
    (hcell : cellAt profile row col = none ∨ cellAt profile (row + 1) col = none ∨ cellAt profile row (col + 1) = none ∨
      cellAt profile (row + 1) (col + 1) = none) :
    derating profile (80 + 10 * row + a) (15 * col + b) = none := by
  simp only [derating, bracketRow_eq hrow ha, bracketColumn_eq hcol hb]
  split
  case h_1 h00 h10 h01 h11 => simp [h00, h10, h01, h11] at hcell
  case h_2 => rfl

/-- Settles O52: steps 1 and 2 case by case, then the interpolation of `derating_rated`, whose
weights add up to 150. -/
theorem deratingInterpolates : Obligations.DeratingInterpolates := by
  refine ⟨fun m nominal _ _ => ⟨supplyPercent_of_fault nominal, fun v hv hvalid => ?_⟩,
    fun m => ⟨temperatureAbove_of_fault, fun hvalid => ⟨fun hlow => ?_, fun hhigh => ?_, fun t hv ht => ?_⟩⟩,
    fun profile row col a b hrow hcol ha hb => ⟨fun d00 h00 d10 h10 d01 h01 d11 h11 => ?_,
      derating_unrated hrow hcol ha hb⟩⟩
  · rw [supplyPercent_of_valid nominal hv hvalid]
    refine ⟨fun hlow => if_pos hlow, fun hhigh => ?_, fun hlow hhigh => ?_⟩
    · rw [if_neg (by omega), Nat.min_eq_right hhigh.le]
    · rw [if_neg hlow.not_gt, Nat.min_eq_left hhigh]
  · rw [temperatureAbove_of_valid hvalid, if_pos hlow]
  · rw [temperatureAbove_of_valid hvalid, if_neg (by omega), min_eq_right hhigh.le]
    rfl
  · exact temperatureAbove_of_inRange hvalid hv ht
  · refine ⟨_, derating_rated hrow hcol ha hb h00 h10 h01 h11, le_mul_ceilDiv _ (by decide),
      mul_ceilDiv_lt _ (by decide), fun c00 c10 c01 c11 => ?_, ?_⟩
    · exact (ceilDiv_le_iff (by decide)).2 (cellSum_le (by omega) (by omega) c00 c10 c01 c11)
    · rintro rfl rfl
      rw [cellSum_corner]
      exact le_antisymm ((ceilDiv_le_iff (by decide)).2 le_rfl) (le_ceilDiv_of_mul_le (by decide) le_rfl)

end Sys2Proof.Machine

namespace Sys2Proof.Machine

/-! ### The travel, departure and hold limits (R146, R99) -/

theorem travelFrom_le_travelMax (base d : Nat) : travelFrom base d ≤ travelMax := Nat.min_le_right _ _

theorem travelFrom_mod_ten (base d : Nat) : travelFrom base d % 10 = 0 := by
  unfold travelFrom travelMax
  omega

/-- A travel limit is never below a base time that is a whole number of 10 ms within the longest limit. -/
theorem le_travelFrom {base : Nat} (d : Nat) (hmod : base % 10 = 0) (hmax : base ≤ travelMax) :
    base ≤ travelFrom base d := by
  have htens : base / 10 ≤ ceilDiv (base * (100 + d)) 1000 := by
    refine le_ceilDiv_of_mul_le (by decide) ?_
    calc 1000 * (base / 10) = base * 100 := by omega
      _ ≤ base * (100 + d) := Nat.mul_le_mul_left base (Nat.le_add_right 100 d)
  exact Nat.le_min.2 ⟨by omega, hmax⟩

/-- Half a limit, rounded up to 10 ms, is shorter than the limit. -/
theorem departureLimit_lt {l : Nat} (hmod : l % 10 = 0) (hl : 20 ≤ l) : departureLimit l < l := by
  have hup := mul_ceilDiv_lt l (d := 20) (by decide)
  unfold departureLimit
  omega

theorem ten_le_departureLimit {l : Nat} (hl : 20 ≤ l) : 10 ≤ departureLimit l :=
  Nat.mul_le_mul_right 10 (le_ceilDiv_of_mul_le (c := 1) (by decide) hl)

theorem departureLimit_le {l : Nat} (hl : l ≤ travelMax) : departureLimit l ≤ 32500 :=
  Nat.mul_le_mul_right 10 ((ceilDiv_le_iff (c := 3250) (by decide)).2 hl)

theorem holdLimitOf_mono {l l' settle settle' : Nat} (hl : l ≤ l') (hsettle : settle ≤ settle') :
    holdLimitOf l settle ≤ holdLimitOf l' settle' :=
  Nat.div_le_div_right (Nat.add_le_add_right (Nat.add_le_add hl hsettle) _)

/-- Settles O53: the limits are bounds of roundings up, and the tabulated ends of the hold limit are its values at the
ends of the travel limit and of the settle time. -/
theorem travelLimitsAreBounded : Obligations.TravelLimitsAreBounded := by
  intro base d settle hmod hmin hmax _ hsettleMin hsettleMax
  have hle : travelFrom base d ≤ travelMax := travelFrom_le_travelMax base d
  have hten : travelFrom base d % 10 = 0 := travelFrom_mod_ten base d
  have hbase : base ≤ travelFrom base d := le_travelFrom d hmod (hmax.trans (by decide))
  have hshort : 20 ≤ travelFrom base d := hmin.trans hbase
  refine ⟨⟨_, le_mul_ceilDiv _ (by decide), mul_ceilDiv_lt _ (by decide), rfl⟩, hbase, hle, hten,
    ⟨_, le_mul_ceilDiv _ (by decide), mul_ceilDiv_lt _ (by decide), rfl⟩, ten_le_departureLimit hshort,
    departureLimit_le hle, departureLimit_lt hten hshort, rfl, ?_, ?_, by decide, by decide⟩
  · calc 207 = holdLimitOf 20 50 := rfl
      _ ≤ holdLimitOf (travelFrom base d) settle := holdLimitOf_mono hshort hsettleMin
  · calc holdLimitOf (travelFrom base d) settle ≤ holdLimitOf travelMax 1000 := holdLimitOf_mono hle hsettleMax
      _ = 6800 := rfl

end Sys2Proof.Machine

namespace Sys2Proof.Machine

/-! ### What each command can change -/

theorem resetNode_touches (cause : ResetCause) (s : State) : Touches resetParts s (resetNode cause s) := by
  intro p hp
  cases p <;> first | rfl | exact absurd (by decide) hp

theorem busyEnded_touches (s : State) : Touches [.port] s (busyEnded s) := touches_withPort s _

theorem responseEnded_touches (s : State) : Touches resetParts s (responseEnded s) := by
  unfold responseEnded
  split
  · split
    · exact resetNode_touches _ _
    · exact (touches_withPort _ _).mono (by decide)
  · exact (touches_withPort _ _).mono (by decide)

theorem putMeasure_touches_measurePart (s : State) (which : Measure) (m : MeasureIn) :
    Touches [measurePart which] s (s.putMeasure which m) := by
  cases which
  · exact touches_withSupply _ _
  · exact touches_withTemperature _ _

theorem enterAnnounce_touches (s : State) : Touches [.start, .view, .link] s (enterAnnounce s) :=
  (((touches_withView _ _).trans (enterPhase_touches _ _)).trans (touches_withStart _ _)).mono (by decide)

/-- A frame taken from the inbound queue and judged touches the link, and what its judgement touches. -/
theorem deliver_touches {ps : List Part} {c : Prop} [Decidable c] {s : State} {take : State → State}
    (h : ∀ s, Touches ps s (take s)) (hl : Part.link ∈ ps) :
    Touches ps s (if c then take (finishDelivery s) else s) := by
  split
  · exact ((finishDelivery_touches s).mono (by simpa using hl)).within (h _)
  · exact .refl _ _

theorem exec_powerOn_touches (s : State) :
    ∃ t, exec .powerOn s = .next t ∧ Touches resetParts s t :=
  ⟨_, rfl, resetNode_touches _ _⟩

theorem exec_supplyDip_touches (s : State) :
    ∃ t, exec .supplyDip s = .next t ∧ Touches resetParts s t :=
  ⟨_, rfl, resetNode_touches _ _⟩

theorem exec_resetLine_touches (s : State) :
    ∃ t, exec .resetLine s = .next t ∧ Touches resetParts s t :=
  ⟨_, rfl, resetNode_touches _ _⟩

theorem exec_selfTestEnd_touches (s : State) :
    ∃ t, exec .selfTestEnd s = .next t ∧ Touches listenParts s t := by
  refine ⟨_, rfl, ?_⟩
  split
  · exact endSelfTest_touches s
  · exact .refl _ _

theorem exec_listenExpiry_touches (s : State) :
    ∃ t, exec .listenExpiry s = .next t ∧ Touches [.now, .start, .view, .link] s t := by
  refine ⟨_, rfl, ?_⟩
  split
  · exact .refl _ _
  · split
    · exact (reachTime_touches _ _).trans (enterAnnounce_touches _)
    · exact .refl _ _

theorem exec_announceExpiry_touches (s : State) :
    ∃ t, exec .announceExpiry s = .next t ∧ Touches [.now, .start, .link] s t := by
  refine ⟨_, rfl, ?_⟩
  split
  · exact .refl _ _
  · split
    · exact ((reachTime_touches _ _).trans (touches_withStart _ _)).trans (requestStatus_touches _)
    · exact .refl _ _

theorem exec_rawCombinationChange_touches (slot : Nat) (openContact closedContact : Bool) (s : State) :
    ∃ t, exec (.rawCombinationChange slot openContact closedContact) s = .next t ∧ Touches [.objects] s t := by
  refine ⟨_, rfl, ?_⟩
  split
  · exact putObj_touches _ _ _
  · exact .refl _ _

theorem exec_qualificationEvent_touches (slot : Nat) (s : State) :
    ∃ t, exec (.qualificationEvent slot) s = .next t ∧ Touches ([.now, .faults] ++ operationParts) s t := by
  refine ⟨_, rfl, ?_⟩
  split
  · exact .refl _ _
  · dsimp only
    split
    · exact .refl _ _
    · exact ((reachTime_touches _ _).trans (qualifyObject_touches _ _ _)).mono (by decide)

theorem exec_intermediateLimitExpiry_touches (slot : Nat) (s : State) :
    ∃ t, exec (.intermediateLimitExpiry slot) s = .next t ∧
      Touches [.now, .objects, .view, .link, .handover, .faults] s t := by
  refine ⟨_, rfl, ?_⟩
  split
  · exact .refl _ _
  · dsimp only
    split
    · exact (((reachTime_touches _ _).trans (putObj_touches _ _ _)).trans (handPosition_touches _ _)).mono (by decide)
    · exact .refl _ _

theorem exec_readyInputChange_touches (slot : Nat) (contact : Bool) (s : State) :
    ∃ t, exec (.readyInputChange slot contact) s = .next t ∧ Touches [.objects] s t := by
  refine ⟨_, rfl, ?_⟩
  split
  · exact putObj_touches _ _ _
  · exact .refl _ _

theorem exec_readyQualification_touches (slot : Nat) (s : State) :
    ∃ t, exec (.readyQualification slot) s = .next t ∧ Touches [.now, .objects] s t := by
  refine ⟨_, rfl, ?_⟩
  split
  · exact .refl _ _
  · dsimp only
    split
    · exact .refl _ _
    · exact (reachTime_touches _ _).trans (putObj_touches _ _ _)

theorem exec_sensorInputChange_touches (sensor : Nat) (presence healthy : Bool) (s : State) :
    ∃ t, exec (.sensorInputChange sensor presence healthy) s = .next t ∧ Touches [.sensors] s t := by
  refine ⟨_, rfl, ?_⟩
  split
  · exact touches_withSensors _ _
  · exact .refl _ _

theorem exec_sensorQualification_touches (sensor : Nat) (s : State) :
    ∃ t, exec (.sensorQualification sensor) s = .next t ∧ Touches [.now, .sensors, .view, .link, .handover] s t := by
  refine ⟨_, rfl, ?_⟩
  split
  · exact .refl _ _
  · dsimp only
    split
    · exact .refl _ _
    · exact (reachTime_touches _ _).trans (qualifySensor_touches _ _ _)

theorem exec_singleInputChange_touches (input : SingleInput) (contact : Bool) (s : State) :
    ∃ t, exec (.singleInputChange input contact) s = .next t ∧ Touches [.singles] s t := by
  refine ⟨_, rfl, ?_⟩
  split
  · exact putSingle_touches _ _ _
  · exact .refl _ _

theorem exec_singleInputQualification_touches (input : SingleInput) (s : State) :
    ∃ t, exec (.singleInputQualification input) s = .next t ∧
      Touches [.now, .singles, .view, .link, .handover, .faults] s t := by
  refine ⟨_, rfl, ?_⟩
  split
  · dsimp only
    split
    · exact .refl _ _
    · exact (reachTime_touches _ _).trans (qualifySingle_touches _ _)
  · exact .refl _ _

theorem exec_measurementReading_touches (which : Measure) (reading : Reading) (s : State) :
    ∃ t, exec (.measurementReading which reading) s = .next t ∧ Touches [measurePart which] s t :=
  ⟨_, rfl, putMeasure_touches_measurePart _ _ _⟩

theorem exec_measurementStateChange_touches (which : Measure) (s : State) :
    ∃ t, exec (.measurementStateChange which) s = .next t ∧ Touches [.now, measurePart which] s t := by
  refine ⟨_, rfl, ?_⟩
  dsimp only
  split
  · exact (reachTime_touches _ _).trans (putMeasure_touches_measurePart _ _ _)
  · exact .refl _ _

theorem exec_localRequest_touches (s : State) :
    ∃ t, exec .localRequest s = .next t ∧ Touches operationParts s t := by
  refine ⟨_, rfl, ?_⟩
  split
  · exact .refl _ _
  · exact ((touches_withHandover _ _).trans (takeLocal_touches _ _ _)).mono (by decide)

theorem exec_selectorChange_touches (s : State) :
    ∃ t, exec .selectorChange s = .next t ∧ Touches operationParts s t := by
  refine ⟨_, rfl, ?_⟩
  split
  · exact .refl _ _
  · exact ((touches_withHandover _ _).trans (takeSelector_touches _ _)).mono (by decide)

theorem exec_positionChangeTaken_touches (s : State) :
    ∃ t, exec .positionChangeTaken s = .next t ∧ Touches operationParts s t := by
  refine ⟨_, rfl, ?_⟩
  split
  · exact .refl _ _
  · exact ((touches_withHandover _ _).trans (takePosition_touches _ _)).mono (by decide)

theorem exec_attemptStart_touches (idle : Nat) (s : State) :
    ∃ t, exec (.attemptStart idle) s = .next t ∧ Touches [.link] s t := by
  refine ⟨_, rfl, ?_⟩
  split
  · split
    · split
      · exact .refl _ _
      · exact touches_withLink _ _
    · exact .refl _ _
  · exact .refl _ _

theorem exec_collision_touches (halfBit : Nat) (read : Level) (s : State) :
    ∃ t, exec (.collision halfBit read) s = .next t ∧
      Touches ([.start, .store, .port, .faults] ++ operationParts) s t := by
  refine ⟨_, rfl, ?_⟩
  split
  · exact .refl _ _
  · split
    · exact .refl _ _
    · split
      · exact .refl _ _
      · exact (collide_touches _ _).mono (by decide)

theorem exec_frameSent_touches (s : State) :
    ∃ t, exec .frameSent s = .next t ∧ Touches [.link, .view, .start, .store, .port, .claims, .faults] s t := by
  refine ⟨_, rfl, ?_⟩
  split
  · exact .refl _ _
  · refine Touches.within ((clearAttempt_touches s).mono (by decide)) ?_
    dsimp only
    split
    · exact ((touches_withLink _ _).within (pick_touches _)).mono (by decide)
    · exact ((markerSent_touches _ _ _ _ _).trans (pick_touches _)).mono (by decide)
    · exact (((touches_withLink _ _).trans (claimSent_touches _ _)).trans (pick_touches _)).mono (by decide)
    · exact .refl _ _

theorem exec_headerReceived_touches (heard : HeardHeader) (s : State) :
    ∃ t, exec (.headerReceived heard) s = .next t ∧ Touches departureParts s t := by
  refine ⟨_, rfl, ?_⟩
  split
  · split
    · exact (headerFailed_touches _ _).mono (by decide)
    · split
      · exact ownSourceHeader_touches _
      · exact (headerPassed_touches _ _).mono (by decide)
  · exact .refl _ _

theorem exec_frameEnd_touches (syms : List LineSym) (s : State) :
    ∃ t, exec (.frameEnd syms) s = .next t ∧ Touches [.link, .view, .faults, .counters, .handover] s t := by
  refine ⟨_, rfl, ?_⟩
  split
  · exact .refl _ _
  · split
    · refine Touches.within (t := s.withLink { s.link with header := none })
        ((touches_withLink _ _).mono (by decide)) ?_
      split
      · exact (bodyFailed_touches _ _).mono (by decide)
      · exact goodFrame_touches _ _
    · exact .refl _ _

theorem exec_statusTakenByView_touches (s : State) :
    ∃ t, exec .statusTakenByView s = .next t ∧ Touches [.link, .view, .handover] s t := by
  refine ⟨_, rfl, ?_⟩
  split
  · exact .refl _ _
  · split
    · split
      · exact (markViewTaken_touches _).trans (suspectReport_touches _ _)
      · exact (markViewTaken_touches _).trans (takeStatus_touches _ _ _ _ _)
    · exact .refl _ _

theorem exec_statusClaimPart_touches (s : State) :
    ∃ t, exec .statusClaimPart s = .next t ∧ Touches [.link, .claims] s t := by
  refine ⟨_, rfl, ?_⟩
  split
  · exact .refl _ _
  · exact deliver_touches (fun _ => (takeStatusClaim_touches _ _).mono (by decide)) (by decide)

theorem exec_releaseTakenByView_touches (s : State) :
    ∃ t, exec .releaseTakenByView s = .next t ∧ Touches [.link, .view, .handover] s t := by
  refine ⟨_, rfl, ?_⟩
  split
  · exact .refl _ _
  · split
    · exact (markViewTaken_touches _).trans (takeRelease_touches _ _ _)
    · exact .refl _ _

theorem exec_releaseTakenByClaims_touches (s : State) :
    ∃ t, exec .releaseTakenByClaims s = .next t ∧ Touches [.link, .claims] s t := by
  refine ⟨_, rfl, ?_⟩
  split
  · exact .refl _ _
  · exact deliver_touches (fun _ => (takeReleaseClaim_touches _ _).mono (by decide)) (by decide)

theorem exec_claim_touches (s : State) :
    ∃ t, exec .claim s = .next t ∧ Touches operationParts s t := by
  refine ⟨_, rfl, ?_⟩
  split
  · exact .refl _ _
  · exact deliver_touches (fun _ => (takeClaim_touches _ _).mono (by decide)) (by decide)

theorem exec_assent_touches (s : State) :
    ∃ t, exec .assent s = .next t ∧ Touches [.link, .claims] s t := by
  refine ⟨_, rfl, ?_⟩
  split
  · exact .refl _ _
  · exact deliver_touches (fun _ => (takeAssent_touches _ _).mono (by decide)) (by decide)

theorem exec_object_touches (s : State) :
    ∃ t, exec .object s = .next t ∧ Touches operationParts s t := by
  refine ⟨_, rfl, ?_⟩
  split
  · exact .refl _ _
  · exact deliver_touches (fun _ => (takeObject_touches _ _).mono (by decide)) (by decide)

theorem exec_request_touches (s : State) :
    ∃ t, exec .request s = .next t ∧ Touches operationParts s t := by
  refine ⟨_, rfl, ?_⟩
  split
  · exact .refl _ _
  · exact deliver_touches (fun _ => (takeRequest_touches _ _).mono (by decide)) (by decide)

theorem exec_check_touches (s : State) :
    ∃ t, exec .check s = .next t ∧ Touches [.link, .counters] s t := by
  refine ⟨_, rfl, ?_⟩
  split
  · exact .refl _ _
  · exact deliver_touches (fun _ => takeCheck_touches _ _) (by decide)

theorem exec_cancel_touches (s : State) :
    ∃ t, exec .cancel s = .next t ∧ Touches operationParts s t := by
  refine ⟨_, rfl, ?_⟩
  split
  · exact .refl _ _
  · exact deliver_touches (fun _ => (takeCancel_touches _ _).mono (by decide)) (by decide)

theorem exec_viewChange_touches (s : State) :
    ∃ t, exec .viewChange s = .next t ∧ Touches operationParts s t := by
  refine ⟨_, rfl, ?_⟩
  split
  · exact .refl _ _
  · exact ((touches_withHandover _ _).trans (takeViewReport_touches _ _)).mono (by decide)

theorem exec_heartbeatExpiry_touches (s : State) :
    ∃ t, exec .heartbeatExpiry s = .next t ∧ Touches [.now, .view, .link] s t := by
  refine ⟨_, rfl, ?_⟩
  split
  · exact .refl _ _
  · exact (((reachTime_touches _ _).trans (touches_withView _ _)).mono (by decide)).ifThen
      ((requestStatus_touches _).mono (by decide))

theorem exec_ageingDeadline_touches (station : Nat) (s : State) :
    ∃ t, exec (.ageingDeadline station) s = .next t ∧ Touches [.now, .view, .handover] s t := by
  refine ⟨_, rfl, ?_⟩
  split
  · exact .refl _ _
  · split
    · exact .refl _ _
    · exact ((reachTime_touches _ _).trans (putEntry_touches _ _ _)).trans (raiseView_touches _ _ _)

theorem exec_silenceTimerExpiry_touches (s : State) :
    ∃ t, exec .silenceTimerExpiry s = .next t ∧ Touches [.now, .view, .faults, .link] s t := by
  refine ⟨_, rfl, ?_⟩
  split
  · exact .refl _ _
  · split
    · exact (((reachTime_touches _ _).trans (touches_withView _ _)).trans (beginCondition_touches _ _)).mono
        (by decide)
    · exact .refl _ _

theorem exec_windowExpiry_touches (s : State) :
    ∃ t, exec .windowExpiry s = .next t ∧ Touches (.now :: operationParts) s t := by
  refine ⟨_, rfl, ?_⟩
  split
  · split
    · exact .refl _ _
    · exact (((reachTime_touches _ _).trans (stopWindow_touches _)).trans (judgeWindow_touches _)).mono (by decide)
  · exact .refl _ _

theorem exec_holdExpiry_touches (station : Nat) (s : State) :
    ∃ t, exec (.holdExpiry station) s = .next t ∧ Touches [.now, .claims] s t := by
  refine ⟨_, rfl, ?_⟩
  split
  · exact .refl _ _
  · exact (reachTime_touches _ _).trans (removeForeign_touches _ _)

theorem exec_deferExpiry_touches (s : State) :
    ∃ t, exec .deferExpiry s = .next t ∧ Touches (.now :: operationParts) s t := by
  refine ⟨_, rfl, ?_⟩
  split
  · split
    · exact (((reachTime_touches _ _).trans (stopDeferTimer_touches _)).trans (nextHead_touches _)).mono (by decide)
    · exact .refl _ _
  · exact .refl _ _

theorem exec_departureExpiry_touches (s : State) :
    ∃ t, exec .departureExpiry s = .next t ∧ Touches ([.now, .faults] ++ operationParts) s t := by
  refine ⟨_, rfl, ?_⟩
  split
  · exact .refl _ _
  · split
    · exact .refl _ _
    · split
      · exact .refl _ _
      · exact (endUndeparted_touches _ _).mono (by decide)

theorem exec_travelExpiry_touches (s : State) :
    ∃ t, exec .travelExpiry s = .next t ∧ Touches ([.now, .faults] ++ operationParts) s t := by
  refine ⟨_, rfl, ?_⟩
  split
  · exact .refl _ _
  · split
    · exact .refl _ _
    · split
      · exact .refl _ _
      · exact (endOverdue_touches _ _ _).mono (by decide)

theorem exec_coilPulseExpiry_touches (s : State) :
    ∃ t, exec .coilPulseExpiry s = .next t ∧ Touches [.now, .drive] s t := by
  refine ⟨_, rfl, ?_⟩
  split
  · exact .refl _ _
  · split
    · exact .refl _ _
    · split
      · exact .refl _ _
      · exact (reachTime_touches _ _).trans (endPulse_touches _ _)

theorem exec_settleExpiry_touches (s : State) :
    ∃ t, exec .settleExpiry s = .next t ∧ Touches (.now :: operationParts) s t := by
  refine ⟨_, rfl, ?_⟩
  split
  · exact .refl _ _
  · split
    · exact .refl _ _
    · split
      · exact ((reachTime_touches _ _).trans (endDrive_done_touches _ _)).mono (by decide)
      · exact .refl _ _

theorem exec_readIdentity_touches (bytes : List Byte) (s : State) :
    ∃ t, exec (.readIdentity bytes) s = .next t ∧ Touches [.port] s t :=
  ⟨_, rfl, (portFrame_touches _ _ _ (fun _ _ => respondWith_touches _ _ _) _ _).mono (by decide)⟩

theorem exec_readConfig_touches (bytes : List Byte) (s : State) :
    ∃ t, exec (.readConfig bytes) s = .next t ∧ Touches [.port] s t :=
  ⟨_, rfl, (portFrame_touches _ _ _ (fun _ _ _ => respondWith_touches _ _ _ _) _ _).mono (by decide)⟩

theorem exec_writeConfig_touches (bytes : List Byte) (s : State) :
    ∃ t, exec (.writeConfig bytes) s = .next t ∧ Touches [.port, .store, .faults] s t :=
  ⟨_, rfl, (portFrame_touches _ _ _ (fun _ _ => writeConfig_touches _) _ _).mono (by decide)⟩

theorem exec_eraseConfig_touches (bytes : List Byte) (s : State) :
    ∃ t, exec (.eraseConfig bytes) s = .next t ∧ Touches departureParts s t :=
  ⟨_, rfl, (portFrame_touches _ _ _ (fun _ _ => eraseConfig_touches) _ _).mono (by decide)⟩

theorem exec_readView_touches (bytes : List Byte) (s : State) :
    ∃ t, exec (.readView bytes) s = .next t ∧ Touches [.port] s t :=
  ⟨_, rfl, (portFrame_touches _ _ _ (fun _ _ _ => respondWith_touches _ _ _ _) _ _).mono (by decide)⟩

theorem exec_readObject_touches (bytes : List Byte) (s : State) :
    ∃ t, exec (.readObject bytes) s = .next t ∧ Touches [.port] s t :=
  ⟨_, rfl, (portFrame_touches _ _ _ (fun _ _ => answerReadObject_touches _) _ _).mono (by decide)⟩

theorem exec_readClaims_touches (bytes : List Byte) (s : State) :
    ∃ t, exec (.readClaims bytes) s = .next t ∧ Touches [.port] s t :=
  ⟨_, rfl, (portFrame_touches _ _ _ (fun _ _ _ => respondWith_touches _ _ _ _) _ _).mono (by decide)⟩

theorem exec_readCounters_touches (bytes : List Byte) (s : State) :
    ∃ t, exec (.readCounters bytes) s = .next t ∧ Touches [.port] s t :=
  ⟨_, rfl, (portFrame_touches _ _ _ (fun _ _ _ => respondWith_touches _ _ _ _) _ _).mono (by decide)⟩

theorem exec_clearCounters_touches (bytes : List Byte) (s : State) :
    ∃ t, exec (.clearCounters bytes) s = .next t ∧ Touches [.port, .counters] s t :=
  ⟨_, rfl, (portFrame_touches _ _ _ (fun _ _ s => ((touches_withCounters s _).trans (respondWith_touches _ _ _ _)))
    _ _).mono (by decide)⟩

theorem exec_restart_touches (bytes : List Byte) (s : State) :
    ∃ t, exec (.restart bytes) s = .next t ∧ Touches departureParts s t :=
  ⟨_, rfl, (portFrame_touches _ _ _ (fun _ _ => restartNode_touches) _ _).mono (by decide)⟩

theorem exec_unknownCommand_touches (code : Byte) (bytes : List Byte) (s : State) :
    ∃ t, exec (.unknownCommand code bytes) s = .next t ∧ Touches [.port] s t :=
  ⟨_, rfl, (portFrame_touches _ _ _ (fun _ _ => respondWith_touches _ _ _) _ _).mono (by decide)⟩

theorem exec_portByteTimeout_touches (s : State) :
    ∃ t, exec .portByteTimeout s = .next t ∧ Touches [.now, .port] s t := by
  refine ⟨_, rfl, ?_⟩
  split
  · exact .refl _ _
  · exact (reachTime_touches _ _).trans (clearGathered_touches _)

theorem exec_responseSent_touches (s : State) :
    ∃ t, exec .responseSent s = .next t ∧ Touches resetParts s t := by
  refine ⟨_, rfl, ?_⟩
  split
  · exact .refl _ _
  · split
    · exact (busyEnded_touches _).mono (by decide)
    · exact responseEnded_touches _

theorem exec_portFrameCheckFailed_touches (bytes : List Byte) (s : State) :
    ∃ t, exec (.portFrameCheckFailed bytes) s = .next t ∧ Touches [.port] s t := by
  refine ⟨_, rfl, ?_⟩
  split
  · exact setGathered_touches _ _ _
  · exact .refl _ _
  · exact setGathered_touches _ _ _
  · exact .refl _ _

theorem exec_portCharacterError_touches (s : State) :
    ∃ t, exec .portCharacterError s = .next t ∧ Touches [.port] s t :=
  ⟨_, rfl, clearGathered_touches s⟩

theorem exec_portArgumentLengthExceeded_touches (bytes : List Byte) (s : State) :
    ∃ t, exec (.portArgumentLengthExceeded bytes) s = .next t ∧ Touches [.port] s t := by
  refine ⟨_, rfl, ?_⟩
  split
  · exact setGathered_touches _ _ _
  · exact .refl _ _
  · exact .refl _ _
  · exact setGathered_touches _ _ _

/-- Every command answers a next state, and changes only the parts that the table names for it. -/
theorem exec_touches (c : Instr) (s : State) : ∃ t, exec c s = .next t ∧ Touches (mayChange c) s t := by
  cases c with
  | powerOn => exact exec_powerOn_touches s
  | supplyDip => exact exec_supplyDip_touches s
  | resetLine => exact exec_resetLine_touches s
  | selfTestEnd => exact exec_selfTestEnd_touches s
  | listenExpiry => exact exec_listenExpiry_touches s
  | announceExpiry => exact exec_announceExpiry_touches s
  | rawCombinationChange slot openContact closedContact =>
    exact exec_rawCombinationChange_touches slot openContact closedContact s
  | qualificationEvent slot => exact exec_qualificationEvent_touches slot s
  | intermediateLimitExpiry slot => exact exec_intermediateLimitExpiry_touches slot s
  | readyInputChange slot contact => exact exec_readyInputChange_touches slot contact s
  | readyQualification slot => exact exec_readyQualification_touches slot s
  | sensorInputChange sensor presence healthy => exact exec_sensorInputChange_touches sensor presence healthy s
  | sensorQualification sensor => exact exec_sensorQualification_touches sensor s
  | singleInputChange input contact => exact exec_singleInputChange_touches input contact s
  | singleInputQualification input => exact exec_singleInputQualification_touches input s
  | measurementReading which reading => exact exec_measurementReading_touches which reading s
  | measurementStateChange which => exact exec_measurementStateChange_touches which s
  | localRequest => exact exec_localRequest_touches s
  | selectorChange => exact exec_selectorChange_touches s
  | positionChangeTaken => exact exec_positionChangeTaken_touches s
  | attemptStart idle => exact exec_attemptStart_touches idle s
  | collision halfBit read => exact exec_collision_touches halfBit read s
  | frameSent => exact exec_frameSent_touches s
  | headerReceived heard => exact exec_headerReceived_touches heard s
  | frameEnd syms => exact exec_frameEnd_touches syms s
  | statusTakenByView => exact exec_statusTakenByView_touches s
  | statusClaimPart => exact exec_statusClaimPart_touches s
  | releaseTakenByView => exact exec_releaseTakenByView_touches s
  | releaseTakenByClaims => exact exec_releaseTakenByClaims_touches s
  | claim => exact exec_claim_touches s
  | assent => exact exec_assent_touches s
  | object => exact exec_object_touches s
  | request => exact exec_request_touches s
  | check => exact exec_check_touches s
  | cancel => exact exec_cancel_touches s
  | viewChange => exact exec_viewChange_touches s
  | heartbeatExpiry => exact exec_heartbeatExpiry_touches s
  | ageingDeadline station => exact exec_ageingDeadline_touches station s
  | silenceTimerExpiry => exact exec_silenceTimerExpiry_touches s
  | windowExpiry => exact exec_windowExpiry_touches s
  | holdExpiry station => exact exec_holdExpiry_touches station s
  | deferExpiry => exact exec_deferExpiry_touches s
  | departureExpiry => exact exec_departureExpiry_touches s
  | travelExpiry => exact exec_travelExpiry_touches s
  | coilPulseExpiry => exact exec_coilPulseExpiry_touches s
  | settleExpiry => exact exec_settleExpiry_touches s
  | readIdentity bytes => exact exec_readIdentity_touches bytes s
  | readConfig bytes => exact exec_readConfig_touches bytes s
  | writeConfig bytes => exact exec_writeConfig_touches bytes s
  | eraseConfig bytes => exact exec_eraseConfig_touches bytes s
  | readView bytes => exact exec_readView_touches bytes s
  | readObject bytes => exact exec_readObject_touches bytes s
  | readClaims bytes => exact exec_readClaims_touches bytes s
  | readCounters bytes => exact exec_readCounters_touches bytes s
  | clearCounters bytes => exact exec_clearCounters_touches bytes s
  | restart bytes => exact exec_restart_touches bytes s
  | unknownCommand code bytes => exact exec_unknownCommand_touches code bytes s
  | portByteTimeout => exact exec_portByteTimeout_touches s
  | responseSent => exact exec_responseSent_touches s
  | portFrameCheckFailed bytes => exact exec_portFrameCheckFailed_touches bytes s
  | portCharacterError => exact exec_portCharacterError_touches s
  | portArgumentLengthExceeded bytes => exact exec_portArgumentLengthExceeded_touches bytes s

theorem pending_notMem_mayChange (c : Instr) : Part.pending ∉ mayChange c := by
  cases c with
  | measurementReading which _ => cases which <;> simp [mayChange, measurePart]
  | measurementStateChange which => cases which <;> simp [mayChange, measurePart]
  | _ => simp [mayChange, resetParts, operationParts, departureParts]

/-- What a command that has answered a state can have changed. -/
theorem touches_of_exec {c : Instr} {s t : State} (h : exec c s = .next t) : Touches (mayChange c) s t := by
  obtain ⟨u, hu, htouch⟩ := exec_touches c s
  cases hu.symm.trans h
  exact htouch

/-- Settles O3: each command's frame, of which the queue of waiting commands is never a part. -/
theorem commandsKeepTheirFrames : Obligations.CommandsKeepTheirFrames := by
  intro c s
  obtain ⟨t, ht, htouch⟩ := exec_touches c s
  exact ⟨t, ht, htouch, htouch .pending (pending_notMem_mayChange c)⟩

end Sys2Proof.Machine

namespace Sys2Proof.Machine

/-! ### Steps -/

theorem step_of_pending_nil {s : State} (h : s.pending = []) : step s = .next (tick s) := by
  simp [step, h]

theorem step_of_pending_cons {s : State} {c : Instr} {rest : List Instr} (h : s.pending = c :: rest) :
    step s = exec c (s.withPending rest) := by
  simp [step, h]

/-- Settles O1, by the second branch of `step`. -/
theorem frontCommandRuns : Obligations.FrontCommandRuns := fun _ _ _ => step_of_pending_cons

/-- Settles O2, by the first branch of `step`. -/
theorem idleStepPassesAMillisecond : Obligations.IdleStepPassesAMillisecond :=
  fun s h => ⟨tick s, step_of_pending_nil h, rfl, touches_withNow s _⟩

/-- What every command keeps, the passing of a millisecond and the change of the command queue keep, every step keeps. -/
theorem step_rel {R : State → State → Prop} (hpend : ∀ {s t : State} x, R (s.withPending x) t → R s t)
    (htick : ∀ s, R s (tick s)) (hexec : ∀ {c s t}, exec c s = .next t → R s t) {s t : State} (h : step s = .next t) :
    R s t := by
  cases hp : s.pending with
  | nil =>
    rw [step_of_pending_nil hp] at h
    cases h
    exact htick s
  | cons c rest =>
    rw [step_of_pending_cons hp] at h
    exact hpend rest (hexec h)

/-! ### Resets -/

/-- A slot table holds one value alone. -/
theorem getD_tableGet_slotTable {α : Type} (n : Nat) (v : α) (k : Nat) : (tableGet (slotTable n v) k).getD v = v := by
  cases h : tableGet (slotTable n v) k with
  | none => rfl
  | some w =>
    have hmem := mem_of_tableGet h
    simp only [slotTable, List.mem_map, Prod.mk.injEq] at hmem
    obtain ⟨_, _, _, rfl⟩ := hmem
    rfl

@[simp] theorem objIn_reset (k : Nat) : objIn State.reset k = {} := getD_tableGet_slotTable 8 _ k

@[simp] theorem sensorIn_reset (k : Nat) : sensorIn State.reset k = {} := getD_tableGet_slotTable 3 _ k

theorem singleOf_reset (i : SingleInput) : singleOf State.reset i = {} := by
  cases i with
  | localPush k dir => cases dir <;> exact getD_tableGet_slotTable 8 _ k
  | _ => rfl

/-- Settles O4: the reset state is a literal, and its tables hold the reset value in every slot. -/
theorem resetStateIsFactoryFresh : Obligations.ResetStateIsFactoryFresh := by
  unfold Obligations.ResetStateIsFactoryFresh
  refine ⟨rfl, rfl, rfl, rfl, rfl, rfl, rfl, rfl, rfl, rfl, rfl, rfl, rfl, rfl, rfl, rfl, rfl, rfl, rfl, rfl, rfl,
    rfl, rfl,
    rfl, fun k => ?_, fun k => ?_, fun i => ?_, rfl⟩
  · simp [positionOf]
  · simp
  · rw [singleOf_reset]

@[simp] theorem objIn_resetNode (cause : ResetCause) (s : State) (k : Nat) :
    objIn (resetNode cause s) k = resetObj (objIn s k) := by
  simp only [objIn, resetNode, tableGet_map]
  cases tableGet s.objects k <;> rfl

@[simp] theorem sensorIn_resetNode (cause : ResetCause) (s : State) (k : Nat) :
    sensorIn (resetNode cause s) k = resetSensor (sensorIn s k) := by
  simp only [sensorIn, resetNode, tableGet_map]
  cases tableGet s.sensors k <;> rfl

theorem push_after_reset (now : Nat) (x : Table SingleIn) (k : Nat) :
    ((tableGet (tableMap (resetSingle now) x) k).getD {}).qualified = none ∧
      ((tableGet (tableMap (resetSingle now) x) k).getD {}).contact = ((tableGet x k).getD {}).contact := by
  rw [tableGet_map]
  cases tableGet x k <;> exact ⟨rfl, rfl⟩

/-- A reset makes every single input UNKNOWN and leaves its contact (R28). -/
theorem singleOf_resetNode (cause : ResetCause) (s : State) (i : SingleInput) :
    (singleOf (resetNode cause s) i).qualified = none ∧
      (singleOf (resetNode cause s) i).contact = (singleOf s i).contact := by
  cases i with
  | localPush k dir => cases dir <;> exact push_after_reset _ _ k
  | _ => exact ⟨rfl, rfl⟩

/-- Settles O5: the three commands are one reset of their causes, whose slots and inputs are those of
`objIn_resetNode`, `sensorIn_resetNode` and `singleOf_resetNode`. -/
theorem resetsClearEveryBlock : Obligations.ResetsClearEveryBlock := by
  intro s c cause hc
  refine ⟨resetNode cause s, ?_, rfl, rfl, rfl, rfl, rfl, rfl, rfl, ⟨rfl, rfl, rfl, rfl, rfl, rfl, rfl⟩, rfl, rfl,
    ⟨rfl, rfl, rfl, rfl, rfl, rfl, rfl, rfl⟩, ⟨rfl, rfl, rfl, rfl, rfl, rfl⟩, ⟨rfl, rfl, rfl, rfl⟩, fun k => ?_,
    fun k => ?_, singleOf_resetNode cause s, ⟨rfl, rfl, rfl, rfl⟩, rfl⟩
  · simp only [List.mem_cons, Prod.mk.injEq, List.not_mem_nil, or_false] at hc
    rcases hc with ⟨rfl, rfl⟩ | ⟨rfl, rfl⟩ | ⟨rfl, rfl⟩ <;> rfl
  · simp [resetObj]
  · simp [resetSensor]

/-! ### The outputs of a drive record (R147, R148) -/

/-- The number of the eight outputs of a set that are energized. -/
def energizedIn (outputs : BitVec 8) : Nat := ((List.range 8).filter fun i => outputs.getLsbD i).length

theorem energizedOutputs_eq (d : Drive) :
    energizedOutputs d = energizedIn d.openOutputs + energizedIn d.closeOutputs := rfl

@[simp] theorem energizedIn_zero : energizedIn 0#8 = 0 := by decide

theorem energizedIn_outputBit_le (k : Nat) : energizedIn (outputBit k) ≤ 1 := by
  unfold outputBit
  by_cases hk : k - 1 < 8
  · interval_cases k - 1 <;> decide
  · rw [BitVec.shiftLeft_eq_zero (by omega)]
    decide

/-- A drive record energizes at most one output, and none but while it is ENERGIZED. -/
theorem energizedOutputs_of_record {d : Drive} (h : OutputsFollowRecord d) :
    energizedOutputs d ≤ 1 ∧ (energizedOutputs d = 1 → ∃ r, d.record = some r ∧ r.energized = true) := by
  unfold OutputsFollowRecord outputsOf at h
  rw [energizedOutputs_eq]
  split at h
  · simp_all
  · rename_i r hr
    have hbit := energizedIn_outputBit_le r.object
    split at h
    · rename_i he
      refine ⟨?_, fun _ => ⟨r, hr, he⟩⟩
      split at h <;> simp_all
    · simp_all

/-- Settles O60: the outputs are those of the drive record, and a head whose record has an energized output is
TRAVELLING under a HELD claim. -/
theorem coherentStatesEnergizeOneOutput : Obligations.CoherentStatesEnergizeOneOutput := by
  rintro s ⟨-, hhead, hout, -⟩
  obtain ⟨hle, hrec⟩ := energizedOutputs_of_record hout
  refine ⟨hle, fun hone => ?_⟩
  obtain ⟨r, hr, he⟩ := hrec hone
  rw [hr] at hhead
  cases hop : headOp s with
  | none => simp [hop, headAgrees] at hhead
  | some op =>
    simp only [hop, headAgrees] at hhead
    cases hst : op.state <;> simp only [hst, drivenFor, reduceCtorEq, and_false] at hhead
    case settling => simp_all
    case travelling =>
      refine ⟨⟨op, rfl, hst⟩, ?_⟩
      cases hown : s.claims.own with
      | none => simp [hown, heldFor] at hhead
      | some c =>
        rw [hown] at hhead
        obtain ⟨⟨hheld, -⟩, -⟩ := hhead
        exact ⟨c, rfl, hheld⟩

theorem driveCoherent_reset : DriveCoherent State.reset := by
  have hqueue : QueueOk State.reset.req.queue := by simp [QueueOk, State.reset, Requests.empty]
  refine ⟨hqueue, ?_, ?_, fun k => ?_⟩
  · exact ⟨rfl, rfl⟩
  · simp [OutputsFollowRecord, outputsOf, State.reset, Drive.idle]
  · have hrecord : State.reset.drive.record = none := rfl
    simp [hrecord]

theorem linkCoherent_reset : LinkCoherent State.reset := by
  simp [LinkCoherent, ChosenClass, State.reset, Link.empty]

theorem tableOk_slotTable {α : Type} (n : Nat) (v : α) : TableOk (slotTable n v) := by
  simp only [TableOk, slotTable, List.map_map, Function.comp_def, List.map_id']
  exact List.pairwise_lt_range'

theorem tablesOk_reset : TablesOk State.reset :=
  ⟨.nil, .nil, .nil, tableOk_slotTable _ _, tableOk_slotTable _ _⟩

theorem timersFollowStates_reset : TimersFollowStates State.reset :=
  ⟨fun _ => ⟨rfl, rfl⟩, by simp [State.reset, Requests.empty, headOp]⟩

theorem queueFits_reset : QueueFits State.reset :=
  ⟨nofun, fun _ => rfl, fun _ _ => rfl, nofun, fun _ => rfl⟩

/-- Settles O55: the reset state holds nothing, so each law is a fact of empty tables, queues and records. -/
theorem resetStateIsSafe : Obligations.ResetStateIsSafe := by
  refine ⟨⟨?_, ?_, ?_, tablesOk_reset, ?_, linkCoherent_reset, ?_, nofun, driveCoherent_reset,
    coherentStatesEnergizeOneOutput _ driveCoherent_reset, queueFits_reset, ?_⟩, fun k => ?_, timersFollowStates_reset,
    nofun⟩
  · simp [RelayFollowsFlags, State.reset, Faults.clear, relayFor]
  · simp [CopyFollowsPhase, State.reset]
  · simp [NoTravelCondition, State.reset, Faults.clear, causeIn]
  · simp [QueuesBounded, State.reset, Link.empty]
  · simp [CountersBounded, State.reset, Counters.zero]
  · simp [GapFollowsBytes, State.reset, Port.idle]
  · simp

end Sys2Proof.Machine

namespace Sys2Proof.Machine

/-! ### The laws that every operation keeps

Most laws of a safe state speak of one block each, and no operation breaks them on its way. `Keeps` collects them as a
relation between the states before and after, so that each operation is looked at once for all of them; `Produces` adds
the coherence of the yard link, which holds through everything that leaves the attempt on the line alone. -/

/-- No attempt is on the line, and what R43 and R47 say of the waiting frames holds apart from the choice of the current
one: so it is between the end of an attempt and that choice. -/
def LinkFree (s : State) : Prop :=
  s.link.attempt = none ∧ (∀ c, s.link.current = some c → c.k ≤ 15) ∧
    (transmits s.start.phase = false → s.link.urgent = [] ∧ s.link.normal = [] ∧ s.link.current = none)

/-- The current frame keeps its wait (R47), and the frames that it is chosen by stay. -/
structure Waits (l m : Link) : Prop where
  attempt : m.attempt = l.attempt
  urgent : l.urgent ≠ [] → m.urgent ≠ []
  marker : (l.normal.head?).any isMarker = true → (m.normal.head?).any isMarker = true
  wait : KeepsWait l m

/-- The laws that speak of one block, kept from one state to another. -/
structure Keeps (s t : State) : Prop where
  positions : PositionsFollowCombinations s → PositionsFollowCombinations t
  copy : CopyFollowsPhase s → CopyFollowsPhase t
  relay : CopyFollowsPhase s → RelayFollowsFlags s → RelayFollowsFlags t
  travel : NoTravelCondition s → NoTravelCondition t
  tables : TablesOk s → TablesOk t
  queues : QueuesBounded s.link → QueuesBounded t.link
  counters : CountersBounded s.counters → CountersBounded t.counters
  gap : GapFollowsBytes s.port → GapFollowsBytes t.port
  promises : PromisesKept s → PromisesKept t

/-- The laws are kept, and with them the coherence of the yard link and the current frame's wait. -/
structure Produces (s t : State) : Prop extends Keeps s t where
  free : LinkFree s → LinkFree t
  link : LinkCoherent s → LinkCoherent t ∧ Waits s.link t.link

theorem KeepsWait.refl (l : Link) : KeepsWait l l := by
  intro _ _ c d hc hd _ _
  exact Option.some.inj (hd.symm.trans hc)

theorem Waits.refl (l : Link) : Waits l l := ⟨rfl, id, id, .refl l⟩

theorem Keeps.refl (s : State) : Keeps s s := ⟨id, id, fun _ => id, id, id, id, id, id, id⟩

@[refl] theorem Produces.refl (s : State) : Produces s s := ⟨.refl s, id, fun h => ⟨h, .refl _⟩⟩

theorem Keeps.trans {s t u : State} (h : Keeps s t) (g : Keeps t u) : Keeps s u where
  positions := g.positions ∘ h.positions
  copy := g.copy ∘ h.copy
  relay hc hr := g.relay (h.copy hc) (h.relay hc hr)
  travel := g.travel ∘ h.travel
  tables := g.tables ∘ h.tables
  queues := g.queues ∘ h.queues
  counters := g.counters ∘ h.counters
  gap := g.gap ∘ h.gap
  promises := g.promises ∘ h.promises

/-- An urgent current frame stays current with its queue; a current marker stays at its head until an urgent frame takes
its place, and no urgent frame leaves. -/
theorem Waits.trans {l m n : Link} (h : Waits l m) (g : Waits m n)
    (hl : l.attempt = none → ChosenClass l (l.current.map (·.cls)))
    (hm : m.attempt = none → ChosenClass m (m.current.map (·.cls)))
    (hn : n.attempt = none → ChosenClass n (n.current.map (·.cls))) : Waits l n := by
  refine ⟨g.attempt.trans h.attempt, g.urgent ∘ h.urgent, g.marker ∘ h.marker, ?_⟩
  intro ha ha' c d hc hd hcls hmark
  have ham : m.attempt = none := h.attempt.trans ha
  obtain ⟨hl1, hl2, hl3⟩ := hl ha
  obtain ⟨hm1, hm2, hm3⟩ := hm ham
  obtain ⟨hn1, hn2, hn3⟩ := hn ha'
  have hmid : ∃ e, m.current = some e ∧ e.cls = c.cls := by
    cases hk : c.cls with
    | urgent =>
      have hu : l.urgent ≠ [] := by
        intro hu
        by_cases hnl : l.normal = [] <;> simp_all
      simpa using hm1 (h.urgent hu)
    | normal =>
      have hmu : m.urgent = [] := by
        by_contra hmu
        have := hn1 (g.urgent hmu)
        simp_all
      have hmn : m.normal ≠ [] := by
        have := h.marker (hmark hk)
        intro hnil
        simp [hnil] at this
      simpa using hm2 hmu hmn
  obtain ⟨e, he, hecls⟩ := hmid
  have hec : e = c := h.wait ha ham c e hc he hecls.symm hmark
  subst hec
  exact g.wait ham ha' e d he hd hcls fun hk => h.marker (hmark hk)

theorem Produces.trans {s t u : State} (h : Produces s t) (g : Produces t u) : Produces s u where
  toKeeps := h.toKeeps.trans g.toKeeps
  free := g.free ∘ h.free
  link hs := by
    obtain ⟨ht, hw⟩ := h.link hs
    obtain ⟨hu, hw'⟩ := g.link ht
    exact ⟨hu, hw.trans hw' hs.1 ht.1 hu.1⟩

theorem Produces.ifThen {c : Prop} [Decidable c] {s t u : State} (h : Produces s t) (g : c → Produces t u) :
    Produces s (if c then u else t) := by
  split
  · rename_i hc
    exact h.trans (g hc)
  · exact h

theorem Produces.ifElse {c : Prop} [Decidable c] {s t u : State} (h : Produces s t) (g : ¬ c → Produces t u) :
    Produces s (if c then t else u) := by
  split
  · exact h
  · rename_i hc
    exact h.trans (g hc)

/-- A fold of changes. -/
theorem Produces.foldl {α : Type} (f : State → α → State) (h : ∀ s a, Produces s (f s a)) (l : List α) (s : State) :
    Produces s (l.foldl f s) := by
  induction l generalizing s with
  | nil => exact .refl _
  | cons a l ih => exact (h s a).trans (ih _)

/-- A change of named parts keeps every law that speaks of other parts alone; what it does to the laws of the parts named
is to be shown. -/
theorem Keeps.of_touches {ps : List Part} {s t : State} (h : Touches ps s t)
    (positions : Part.objects ∈ ps → PositionsFollowCombinations s → PositionsFollowCombinations t := by simp)
    (copy : Part.copy ∈ ps ∨ Part.start ∈ ps → CopyFollowsPhase s → CopyFollowsPhase t := by simp)
    (relay : Part.faults ∈ ps ∨ Part.store ∈ ps ∨ Part.copy ∈ ps → CopyFollowsPhase s → RelayFollowsFlags s →
      RelayFollowsFlags t := by simp)
    (travel : Part.faults ∈ ps → NoTravelCondition s → NoTravelCondition t := by simp)
    (tables : Part.view ∈ ps ∨ Part.claims ∈ ps ∨ Part.objects ∈ ps ∨ Part.sensors ∈ ps → TablesOk s → TablesOk t := by
      simp)
    (queues : Part.link ∈ ps → QueuesBounded s.link → QueuesBounded t.link := by simp)
    (counters : Part.counters ∈ ps → CountersBounded s.counters → CountersBounded t.counters := by simp)
    (gap : Part.port ∈ ps → GapFollowsBytes s.port → GapFollowsBytes t.port := by simp)
    (promises : Part.claims ∈ ps → PromisesKept s → PromisesKept t := by simp) : Keeps s t where
  positions hs := by
    by_cases hp : Part.objects ∈ ps
    · exact positions hp hs
    · intro k
      rw [objIn_congr (h .objects hp)]
      exact hs k
  copy hs := by
    by_cases hp : Part.copy ∈ ps ∨ Part.start ∈ ps
    · exact copy hp hs
    · rw [not_or] at hp
      rw [CopyFollowsPhase, show t.copy = _ from h .copy hp.1, show t.start = _ from h .start hp.2]
      exact hs
  relay hc hs := by
    by_cases hp : Part.faults ∈ ps ∨ Part.store ∈ ps ∨ Part.copy ∈ ps
    · exact relay hp hc hs
    · rw [not_or, not_or] at hp
      rw [RelayFollowsFlags, enabledCauses, recordInForce, show t.faults = _ from h .faults hp.1,
        show t.store = _ from h .store hp.2.1, show t.copy = _ from h .copy hp.2.2]
      exact hs
  travel hs := by
    by_cases hp : Part.faults ∈ ps
    · exact travel hp hs
    · rw [NoTravelCondition, show t.faults = _ from h .faults hp]
      exact hs
  tables hs := by
    by_cases hp : Part.view ∈ ps ∨ Part.claims ∈ ps ∨ Part.objects ∈ ps ∨ Part.sensors ∈ ps
    · exact tables hp hs
    · rw [not_or, not_or, not_or] at hp
      rw [TablesOk, show t.view = _ from h .view hp.1, show t.claims = _ from h .claims hp.2.1,
        show t.objects = _ from h .objects hp.2.2.1, show t.sensors = _ from h .sensors hp.2.2.2]
      exact hs
  queues hs := by
    by_cases hp : Part.link ∈ ps
    · exact queues hp hs
    · rw [show t.link = _ from h .link hp]
      exact hs
  counters hs := by
    by_cases hp : Part.counters ∈ ps
    · exact counters hp hs
    · rw [show t.counters = _ from h .counters hp]
      exact hs
  gap hs := by
    by_cases hp : Part.port ∈ ps
    · exact gap hp hs
    · rw [show t.port = _ from h .port hp]
      exact hs
  promises hs := by
    by_cases hp : Part.claims ∈ ps
    · exact promises hp hs
    · rw [PromisesKept, show t.claims = _ from h .claims hp]
      exact hs

/-- A change that leaves the link and the phase alone leaves the link coherent. -/
theorem Keeps.produces {s t : State} (h : Keeps s t) (hl : t.link = s.link) (hp : t.start.phase = s.start.phase) :
    Produces s t := by
  refine ⟨h, fun hs => ?_, fun hs => ⟨?_, hl ▸ .refl _⟩⟩
  · rw [LinkFree, hl, hp]
    exact hs
  · rw [LinkCoherent, hl, hp]
    exact hs

/-- A change of parts of which no law speaks. -/
theorem Produces.of_free {s t : State}
    (h : Touches [.now, .singles, .supply, .temperature, .handover, .req, .drive, .pending] s t) : Produces s t :=
  (Keeps.of_touches h).produces (h .link (by decide)) (congrArg _ (h .start (by decide)))

end Sys2Proof.Machine

namespace Sys2Proof.Machine

/-! ### The choice of the current frame (R47) -/

theorem pick_of_attempt {l : Link} {a : Attempt} (h : l.attempt = some a) : l.pick = l := by
  simp [Link.pick, h]

theorem wantedClass_eq_none {l : Link} : wantedClass l = none ↔ l.urgent = [] ∧ l.normal = [] := by
  unfold wantedClass
  by_cases hu : l.urgent = [] <;> by_cases hn : l.normal = [] <;> simp [hu, hn]

theorem chosenClass_wantedClass (l : Link) : ChosenClass l (wantedClass l) := by
  unfold ChosenClass wantedClass
  by_cases hu : l.urgent = [] <;> by_cases hn : l.normal = [] <;> simp [hu, hn]

theorem pick_current_cls {l : Link} (h : l.attempt = none) : l.pick.current.map (·.cls) = wantedClass l := by
  unfold Link.pick
  rw [h]
  dsimp only
  split
  · rename_i hw
    exact hw.symm
  · rename_i cls hw
    split
    · rename_i hc
      exact hc.trans hw.symm
    · exact hw.symm

theorem chosenClass_pick {l : Link} (h : l.attempt = none) : ChosenClass l.pick (l.pick.current.map (·.cls)) := by
  rw [pick_current_cls h]
  simpa [ChosenClass] using chosenClass_wantedClass l

/-- Every k is a number of four bits (R47). -/
theorem pick_k_le {l : Link} (h : ∀ c, l.current = some c → c.k ≤ 15) : ∀ c, l.pick.current = some c → c.k ≤ 15 := by
  unfold Link.pick
  intro c
  split
  · exact h c
  · split
    · exact nofun
    · split
      · exact h c
      · rintro ⟨⟩
        exact Nat.le_of_lt_succ (Config.backoff l.draws).isLt

/-- A frame that stays current keeps its k (R47). -/
theorem pick_keeps_current {l : Link} {c d : Current} (hc : l.current = some c) (hd : l.pick.current = some d)
    (hcls : c.cls = d.cls) : d = c := by
  unfold Link.pick at hd
  split at hd
  · simp_all
  · split at hd
    · cases hd
    · split at hd
      · simp_all
      · cases hd
        simp_all

theorem pick_current_eq_none {l : Link} (hu : l.urgent = []) (hn : l.normal = []) (hc : l.current = none) :
    l.pick.current = none := by
  cases ha : l.attempt with
  | some a => rw [pick_of_attempt ha, hc]
  | none => simpa [wantedClass_eq_none.2 ⟨hu, hn⟩] using pick_current_cls ha

/-- A link before its choice of the current frame, as a producer's act leaves it: the attempt and the frame it is about
stay, waiting frames stay at their places, and no frame joins in a phase that does not transmit. -/
structure Feeds (s : State) (m : Link) : Prop where
  attempt : m.attempt = s.link.attempt
  current : ∀ c, m.current = some c → s.link.current = some c
  stays : ∀ c, s.link.current = some c → (c.cls = .normal → (s.link.normal.head?).any isMarker = true) →
    m.current = some c
  head : ∀ a, s.link.attempt = some a → AtHead s.link a →
    AtHead m a ∧ ∀ c, s.link.current = some c → c.cls = a.cls → m.current = some c
  urgent : s.link.urgent ≠ [] → m.urgent ≠ []
  marker : (s.link.normal.head?).any isMarker = true → (m.normal.head?).any isMarker = true
  empty : transmits s.start.phase = false → s.link.urgent = [] → s.link.normal = [] → m.urgent = [] ∧ m.normal = []
  queues : QueuesBounded s.link → QueuesBounded m

theorem Feeds.stillEmpty {s : State} {m : Link} (h : Feeds s m) (ht : transmits s.start.phase = false)
    (he : s.link.urgent = [] ∧ s.link.normal = [] ∧ s.link.current = none) :
    m.urgent = [] ∧ m.normal = [] ∧ m.current = none := by
  obtain ⟨hu, hn, hc⟩ := he
  obtain ⟨hmu, hmn⟩ := h.empty ht hu hn
  exact ⟨hmu, hmn, Option.eq_none_iff_forall_ne_some.2 fun c hcur => by simp [h.current c hcur] at hc⟩

theorem queuesBounded_pick (l : Link) : QueuesBounded l.pick ↔ QueuesBounded l := by simp [QueuesBounded]

theorem atHead_pick {l : Link} {a : Attempt} : AtHead l.pick a ↔ AtHead l a := by simp [AtHead]

/-- What a producer's act and the choice after it keep. -/
theorem Feeds.produces {s : State} {m : Link} (h : Feeds s m) : Produces s (s.withLink m).pick where
  toKeeps := .of_touches ((touches_withLink s m).within (pick_touches _))
    (queues := fun _ hq => (queuesBounded_pick m).2 (h.queues hq))
  free := by
    rintro ⟨ha, hk, he⟩
    refine ⟨by simpa [h.attempt] using ha, pick_k_le fun c hc => hk c (h.current c hc), fun ht => ?_⟩
    obtain ⟨hmu, hmn, hmc⟩ := h.stillEmpty ht (he ht)
    exact ⟨by simpa using hmu, by simpa using hmn, pick_current_eq_none hmu hmn hmc⟩
  link := by
    rintro ⟨hchosen, hk, hhead, hempty, hrun⟩
    refine ⟨⟨fun ha => ?_, pick_k_le fun c hc => hk c (h.current c hc), fun a ha hp => ?_, fun ht => ?_, ?_⟩, ?_⟩
    · exact chosenClass_pick (by simpa using ha)
    · have ha' : s.link.attempt = some a := by simpa [h.attempt] using ha
      obtain ⟨hat, hcls⟩ := hhead a ha' hp
      obtain ⟨hat', hcur⟩ := h.head a ha' hat
      obtain ⟨c, hc, hca⟩ := Option.map_eq_some_iff.1 hcls
      refine ⟨atHead_pick.2 hat', ?_⟩
      have hm : m.attempt = some a := h.attempt.trans ha'
      simp [pick_of_attempt hm, hcur c hc hca, hca]
    · obtain ⟨hmu, hmn, hmc⟩ := h.stillEmpty ht (hempty ht)
      exact ⟨by simpa using hmu, by simpa using hmn, pick_current_eq_none hmu hmn hmc⟩
    · simpa [h.attempt, State.pick] using hrun
    · refine ⟨by simp [h.attempt], by simpa using h.urgent, by simpa using h.marker, ?_⟩
      intro ha ha' c d hc hd hcls hmark
      exact pick_keeps_current (h.stays c hc hmark) hd hcls

/-! ### The producers of frames -/

theorem head?_append_of_head? {α : Type} {l : List α} {x : α} (h : l.head? = some x) (l' : List α) :
    (l ++ l').head? = some x := by
  simp [List.head?_append, h]

theorem feeds_urgent {s : State} (ht : transmits s.start.phase = true)
    (hr : s.link.urgent.length < Config.urgentPlaces) (i : UrgentItem) :
    Feeds s { s.link with urgent := s.link.urgent ++ [i] } where
  attempt := rfl
  current _ := id
  stays _ hc _ := hc
  head a _ hat := by
    refine ⟨?_, fun _ hc _ => hc⟩
    unfold AtHead at hat ⊢
    split at hat
    · obtain ⟨j, hj, hf⟩ := Option.map_eq_some_iff.1 hat
      simp [head?_append_of_head? hj, hf]
    · exact hat
  urgent _ := by simp
  marker := id
  empty h := by simp [ht] at h
  queues := by
    rintro ⟨_, hm, hc, hi⟩
    exact ⟨by simpa using hr, hm, hc, hi⟩

theorem feeds_normal {s : State} (ht : transmits s.start.phase = true) (i : NormalItem)
    (hi : s.link.normal.any (fun j => isMarker j == isMarker i) = false) :
    Feeds s { s.link with normal := s.link.normal ++ [i] } where
  attempt := rfl
  current _ := id
  stays _ hc _ := hc
  head a _ hat := by
    refine ⟨?_, fun _ hc _ => hc⟩
    unfold AtHead at hat ⊢
    split at hat
    · exact hat
    · obtain ⟨j, hj, hf⟩ := hat
      exact ⟨j, head?_append_of_head? hj _, hf⟩
  urgent := id
  marker h := by
    obtain ⟨j, hj, hm⟩ := Option.any_eq_true .. |>.1 h
    simp [head?_append_of_head? hj, hm]
  empty h := by simp [ht] at h
  queues := by
    rintro ⟨hu, hm, hc, hin⟩
    have hnone : ∀ j ∈ s.link.normal, isMarker j ≠ isMarker i := by simpa using hi
    refine ⟨hu, ?_, ?_, hin⟩
    all_goals cases hk : isMarker i <;> simp_all [List.filter_eq_nil_iff.2]

theorem bump_le {n : Nat} (h : n ≤ Config.counterMax) : bump n ≤ Config.counterMax := by
  unfold bump
  split <;> omega

/-- Counters that only rise by one stay in their range. -/
theorem Produces.of_counters {s : State} {x : Counters} (h : CountersBounded s.counters → CountersBounded x) :
    Produces s (s.withCounters x) :=
  (Keeps.of_touches (touches_withCounters s x) (counters := fun _ => h)).produces rfl rfl

theorem handUrgent_produces (f : Frame) (s : State) : Produces s (handUrgent f s) := by
  unfold handUrgent
  split
  · rename_i ht
    split
    · rename_i hr
      exact (feeds_urgent ht hr _).produces
    · refine .of_counters fun ⟨h1, h2, h3, h4, h5, h6⟩ => ⟨h1, h2, h3, h4, bump_le h5, h6⟩
  · exact .refl _

/-- Waiting items marked, each staying what it is. -/
theorem feeds_marked {s : State} (mark : NormalItem → NormalItem) (hm : ∀ i, isMarker (mark i) = isMarker i)
    (hf : ∀ i, claimFrameOf (mark i) = claimFrameOf i) :
    Feeds s { s.link with normal := s.link.normal.map mark } where
  attempt := rfl
  current _ := id
  stays _ hc _ := hc
  head a _ hat := by
    refine ⟨?_, fun _ hc _ => hc⟩
    unfold AtHead at hat ⊢
    split at hat
    · exact hat
    · obtain ⟨j, hj, hfr⟩ := hat
      exact ⟨mark j, by simp [hj], by rwa [hm, hf]⟩
  urgent := id
  marker h := by
    obtain ⟨j, hj, hmj⟩ := Option.any_eq_true .. |>.1 h
    simp [hj, hm, hmj]
  empty _ hu hn := by simp [hu, hn]
  queues := by
    rintro ⟨hu, hmk, hc, hin⟩
    refine ⟨hu, ?_, ?_, hin⟩ <;> simpa [List.filter_map, Function.comp_def, hm] using by assumption

@[simp] theorem isMarker_markRenew (i : NormalItem) : isMarker (markRenew i) = isMarker i := by cases i <;> rfl
@[simp] theorem isMarker_markFinal (i : NormalItem) : isMarker (markFinal i) = isMarker i := by cases i <;> rfl
@[simp] theorem isMarker_markRemoved (i : NormalItem) : isMarker (markRemoved i) = isMarker i := by cases i <;> rfl

theorem claimFrameOf_markRenew (i : NormalItem) : claimFrameOf (markRenew i) = claimFrameOf i := by cases i <;> rfl
theorem claimFrameOf_markFinal (i : NormalItem) : claimFrameOf (markFinal i) = claimFrameOf i := by cases i <;> rfl
theorem claimFrameOf_markRemoved (i : NormalItem) : claimFrameOf (markRemoved i) = claimFrameOf i := by cases i <;> rfl

/-- An act of a producer that leaves the choice of the current frame as it is: the queues that waited wait. -/
theorem Feeds.produces_unpicked {s : State} {m : Link} (h : Feeds s m) (hc : m.current = s.link.current)
    (hu : m.urgent = [] ↔ s.link.urgent = []) (hn : m.normal = [] ↔ s.link.normal = []) :
    Produces s (s.withLink m) where
  toKeeps := .of_touches (touches_withLink s m) (queues := fun _ => h.queues)
  free := by
    rintro ⟨ha, hk, he⟩
    exact ⟨h.attempt.trans ha, by simpa [hc] using hk, fun ht => h.stillEmpty ht (he ht)⟩
  link := by
    rintro ⟨hchosen, hk, hhead, hempty, hrun⟩
    refine ⟨⟨fun ha => ?_, by simpa [hc] using hk, fun a ha hp => ?_, fun ht => h.stillEmpty ht (hempty ht), ?_⟩, ?_⟩
    · simpa [ChosenClass, hc, hu, hn] using hchosen (h.attempt.symm.trans ha)
    · have ha' : s.link.attempt = some a := h.attempt.symm.trans ha
      obtain ⟨hat, hcls⟩ := hhead a ha' hp
      exact ⟨(h.head a ha' hat).1, by simpa [hc] using hcls⟩
    · simpa [h.attempt] using hrun
    · refine ⟨h.attempt, h.urgent, h.marker, fun _ _ c d hcur hd _ _ => ?_⟩
      exact Option.some.inj (hd.symm.trans (hc.trans hcur))

theorem marked_produces {s : State} (mark : NormalItem → NormalItem) (hm : ∀ i, isMarker (mark i) = isMarker i)
    (hf : ∀ i, claimFrameOf (mark i) = claimFrameOf i) :
    Produces s (s.withLink { s.link with normal := s.link.normal.map mark }) :=
  (feeds_marked mark hm hf).produces_unpicked rfl Iff.rfl List.map_eq_nil_iff

theorem requestStatus_produces (s : State) : Produces s (requestStatus s) := by
  unfold requestStatus
  split
  · rename_i ht
    split
    · split
      · exact marked_produces markRenew isMarker_markRenew claimFrameOf_markRenew
      · exact .refl _
    · rename_i hm
      exact (feeds_normal ht _ (by simpa [isMarker] using hm)).produces
  · exact .refl _

/-- The request of a FINAL STATUS, in a phase that transmits (R50, R167). -/
theorem requestFinal_produces {s : State} (ht : transmits s.start.phase = true) : Produces s (requestFinal s) := by
  unfold requestFinal
  split
  · exact marked_produces markFinal isMarker_markFinal claimFrameOf_markFinal
  · rename_i hm
    exact (feeds_normal ht _ (by simpa [isMarker] using hm)).produces

theorem handClaim_produces (id : Byte) (f : Frame) (s : State) : Produces s (handClaim id f s) := by
  unfold handClaim
  split
  · rename_i ht
    obtain ⟨ht, hq⟩ := Bool.and_eq_true_iff.1 ht
    exact (feeds_normal ht _ (by simpa [isMarker, claimQueued] using hq)).produces
  · exact .refl _

/-- A normal queue without its CLAIM, which gives up its wait if it was current. -/
theorem feeds_unclaimed {s : State} (hline : claimOnLine s.link = false) :
    Feeds s { s.link with
      normal := s.link.normal.filter isMarker
      current := if claimCurrent s.link then none else s.link.current } where
  attempt := rfl
  current c hc := by
    split at hc
    · cases hc
    · exact hc
  stays c hc hm := by
    rw [if_neg, hc]
    simp only [claimCurrent, hc, Option.map_some, Bool.and_eq_true, beq_iff_eq, Option.some.injEq, not_and]
    intro hcls
    have := hm hcls
    unfold claimAtHead
    cases hn : s.link.normal <;> simp_all
  head a ha hat := by
    cases hcls : a.cls with
    | urgent =>
      refine ⟨by simpa [AtHead, hcls] using hat, fun c hc hca => ?_⟩
      rw [if_neg, hc]
      simp [claimCurrent, hc, hca]
    | normal =>
      simp only [AtHead, hcls] at hat ⊢
      obtain ⟨i, hi, hfr⟩ := hat
      obtain ⟨rest, hn⟩ := List.head?_eq_some_iff.1 hi
      have hmark : isMarker i = true := by simpa [claimOnLine, normalOnLine, ha, hcls, hn] using hline
      refine ⟨⟨i, by simp [hn, hmark], hfr⟩, fun c hc _ => ?_⟩
      rw [if_neg, hc]
      simp [claimCurrent, claimAtHead, hn, hmark]
  urgent := id
  marker h := by
    cases hn : s.link.normal <;> simp_all
  empty _ hu hn := by simp [hu, hn]
  queues := by
    rintro ⟨hu, hm, hc, hin⟩
    exact ⟨hu, by simpa using hm, by simp, hin⟩

theorem removeClaim_produces (s : State) : Produces s (removeClaim s) := by
  unfold removeClaim
  split
  · exact marked_produces markRemoved isMarker_markRemoved claimFrameOf_markRemoved
  · rename_i hon
    exact (feeds_unclaimed (by simpa using hon)).produces


/-! ### The other blocks -/

/-- A change of the view that leaves its entries. -/
theorem Produces.of_view {s : State} {x : View} (h : x.entries = s.view.entries) : Produces s (s.withView x) :=
  (Keeps.of_touches (touches_withView s x) (tables := fun _ => by simp [TablesOk, h])).produces rfl rfl

theorem putEntry_produces (station : Nat) (e : Entry) (s : State) : Produces s (putEntry station e s) :=
  (Keeps.of_touches (putEntry_touches station e s)
    (tables := fun _ ⟨hv, hrest⟩ => ⟨hv.put _ _, hrest⟩)).produces rfl rfl

theorem ownChanged_produces (s : State) : Produces s (ownChanged s) := by
  unfold ownChanged
  split
  · have hcount : Produces s (s.withView { s.view with counter := s.view.counter + 1 }) := .of_view rfl
    exact hcount.ifThen fun _ => requestStatus_produces _
  · exact .refl _

theorem raiseView_produces (station : Nat) (st : Option EntryState) (s : State) :
    Produces s (raiseView station st s) := .of_free ((raiseView_touches _ _ _).mono (by decide))

theorem Produces.of_req {s : State} (x : Requests) : Produces s (s.withReq x) :=
  .of_free ((touches_withReq _ _).mono (by decide))

theorem Produces.of_drive {s : State} (x : Drive) : Produces s (s.withDrive x) :=
  .of_free ((touches_withDrive _ _).mono (by decide))

theorem Produces.of_handover {s : State} (x : Handover) : Produces s (s.withHandover x) :=
  .of_free ((touches_withHandover _ _).mono (by decide))

theorem reachTime_produces (s : State) (d : Nat) : Produces s (s.reachTime d) :=
  .of_free ((reachTime_touches _ _).mono (by decide))

theorem setLastLocal_produces (r : LocalResult) (s : State) : Produces s (setLastLocal r s) := by
  unfold setLastLocal
  split
  · exact .refl _
  · exact (Produces.of_req _).trans (ownChanged_produces _)

/-- A change of the Claim Manager keeps the laws when it keeps its tables and the law of R113. -/
theorem Produces.of_claims {s : State} {x : Claims} (ha : TablesOk s → TableOk x.answers)
    (hf : TableOk s.claims.foreign → TableOk x.foreign)
    (hp : PromisesKept s → PromisesKept (s.withClaims x)) : Produces s (s.withClaims x) :=
  (Keeps.of_touches (touches_withClaims s x) (promises := fun _ => hp)
    (tables := fun _ h => ⟨h.1, ha h, hf h.2.2.1, h.2.2.2⟩)).produces rfl rfl

/-- What an own claim's set must keep clear of (R113). -/
def ClearOf (nodes : NodeSet) (foreign : Table ForeignRec) : Prop :=
  ∀ e ∈ foreign, e.2.assented = true → nodesOverlap nodes e.2.nodes = false

/-- A change of the Claim Manager that leaves the claim set and the foreign claim list. -/
theorem Produces.of_claims_same {s : State} {x : Claims} (ha : TablesOk s → TableOk x.answers)
    (hf : x.foreign = s.claims.foreign)
    (ho : ∀ c, x.own = some c → ∃ c', s.claims.own = some c' ∧ c'.nodes = c.nodes) : Produces s (s.withClaims x) := by
  refine .of_claims ha (fun h => by rwa [hf]) fun hp c hc => ?_
  obtain ⟨c', hc', hn⟩ := ho c hc
  simpa [hf, hn] using hp c' hc'

theorem positions_of_contactsStay {s t : State} (h : ∀ k, ContactsStay k s t) (hs : PositionsFollowCombinations s) :
    PositionsFollowCombinations t := by
  intro k
  obtain ⟨hq, hp⟩ := h k
  unfold positionOf at hp
  rw [hq, hp]
  exact hs k

/-- A slot written with its combination and position as they were. -/
theorem putObj_produces {s : State} {k : Nat} {o : ObjIn} (hq : o.qualified = (objIn s k).qualified)
    (hp : o.position = positionOf s k) : Produces s (s.putObj k o) :=
  (Keeps.of_touches (putObj_touches s k o)
    (positions := fun _ => positions_of_contactsStay (putObj_contactsStay hq hp))
    (tables := fun _ ⟨h1, h2, h3, h4, h5⟩ => ⟨h1, h2, h3, h4.put _ _, h5⟩)).produces rfl rfl

/-! ### Fault flags -/

/-- A change of the fault logic that leaves its relay to be judged. -/
theorem Produces.of_faults {s : State} {x : Faults}
    (hr : RelayFollowsFlags s → x.relay = relayFor x.pending (enabledCauses s))
    (ht : NoTravelCondition s → causeIn x.holding .travelFail = false) : Produces s (s.withFaults x) :=
  (Keeps.of_touches (touches_withFaults s x) (relay := fun _ _ => hr) (travel := fun _ => ht)).produces rfl rfl

theorem setPending_produces (p : CauseSet) (s : State) : Produces s (setPending p s) := by
  unfold setPending
  split
  · exact .refl _
  · have hset : Produces s (refreshRelay (s.withFaults { s.faults with pending := p })) :=
      .of_faults (x := { s.faults with pending := p, relay := relayFor p (enabledCauses s) }) (fun _ => rfl) id
    exact hset.trans (ownChanged_produces _)

theorem reportEvent_produces (c : Cause) (s : State) : Produces s (reportEvent c s) := setPending_produces _ s

theorem causeIn_or (set : CauseSet) {c d : Cause} (h : c ≠ d) : causeIn (set ||| causeBit c) d = causeIn set d := by
  revert set
  cases c <;> cases d <;> first | exact absurd rfl h | decide

theorem causeIn_and_not (set : CauseSet) (c d : Cause) (h : causeIn set d = false) :
    causeIn (set &&& ~~~ causeBit c) d = false := by
  revert set
  cases c <;> cases d <;> decide

theorem beginCondition_produces {c : Cause} (hc : c ≠ .travelFail) (s : State) : Produces s (beginCondition c s) := by
  unfold beginCondition
  split
  · exact .refl _
  · have hhold : Produces s (s.withFaults { s.faults with holding := s.faults.holding ||| causeBit c }) :=
      .of_faults id fun h => (causeIn_or _ hc).trans h
    exact hhold.trans (setPending_produces _ _)

theorem endCondition_produces (c : Cause) (s : State) : Produces s (endCondition c s) :=
  .of_faults id fun h => causeIn_and_not _ c _ h

theorem watchFaulty_produces (s : State) : Produces s (watchFaulty s) := by
  unfold watchFaulty
  split
  · exact beginCondition_produces (by decide) _
  · exact endCondition_produces _ _

theorem faultResetEdge_produces (s : State) : Produces s (faultResetEdge s) := setPending_produces _ s

end Sys2Proof.Machine

namespace Sys2Proof.Machine

/-! ### Claims -/

theorem handRelease_produces (id : Byte) (form : Option (Nat × Position)) (s : State) :
    Produces s (handRelease id form s) := handUrgent_produces _ s

theorem handAssent_produces (station : Nat) (id : Byte) (s : State) : Produces s (handAssent station id s) :=
  handUrgent_produces _ s

theorem handObject_produces (station : Nat) (id : Byte) (r : ObjectReason) (s : State) :
    Produces s (handObject station id r s) := handUrgent_produces _ s

theorem handAccept_produces (station : Nat) (tag : Byte) (d : Disposition) (s : State) :
    Produces s (handAccept station tag d s) := handUrgent_produces _ s

theorem claimToIdle_produces (id : Byte) (cause : EndCause) (o : Option Objection) (s : State) :
    Produces s (claimToIdle id cause o s) := by
  have hidle : Produces s (s.withClaims
      { s.claims with
        own := none, answers := [], window := none
        lastEnding := some { id := id, cause := cause, objection := o } }) :=
    .of_claims_same (fun _ => .nil) rfl nofun
  exact hidle.trans (ownChanged_produces _)

theorem countWithdrawn_produces (s : State) : Produces s (countWithdrawn s) :=
  .of_counters fun ⟨h1, h2, h3, h4, h5, h6, h7, h8⟩ => ⟨h1, h2, h3, h4, h5, h6, bump_le h7, h8⟩

theorem countGranted_produces (s : State) : Produces s (countGranted s) :=
  .of_counters fun ⟨h1, h2, h3, h4, h5, h6, h7⟩ => ⟨h1, h2, h3, h4, h5, bump_le h6, h7⟩

theorem withdrawClaim_produces (cause : EndCause) (o : Option Objection) (s : State) :
    Produces s (withdrawClaim cause o s) := by
  unfold withdrawClaim
  split
  · exact .refl _
  · exact (((removeClaim_produces _).trans (handRelease_produces _ _ _)).trans (countWithdrawn_produces _)).trans
      (claimToIdle_produces _ _ _ _)

theorem dropClaiming_produces (cause : EndCause) (s : State) : Produces s (dropClaiming cause s) := by
  unfold dropClaiming
  split
  · exact .refl _
  · split
    · exact .refl _
    · exact ((removeClaim_produces _).trans (countWithdrawn_produces _)).trans (claimToIdle_produces _ _ _ _)

theorem endHeldClaim_produces (driven : Bool) (s : State) : Produces s (endHeldClaim driven s) := by
  unfold endHeldClaim
  split
  · exact .refl _
  · exact ((Produces.refl s).ifElse fun _ => handRelease_produces _ _ _).trans (claimToIdle_produces _ _ _ _)

/-- A table made of an answer for each concerned station has one entry a key (R101). -/
theorem tableOk_concerned {s : State} (h : TablesOk s) (nodes : NodeSet) (f : Nat → Answer) :
    TableOk ((concernedStations s nodes).map fun st => (st, f st)) := by
  have hkeys : ((concernedStations s nodes).map fun st => (st, f st)).map (·.1) = concernedStations s nodes := by
    simp [Function.comp_def]
  rw [TableOk, hkeys]
  exact h.1.filter _

theorem clearOf_zero (foreign : Table ForeignRec) : ClearOf 0 foreign := fun _ _ _ => by simp [nodesOverlap]

theorem clearOf_of_foreignOverlap {s : State} {nodes : NodeSet} (h : foreignOverlap s nodes = false) :
    ClearOf nodes s.claims.foreign := by
  intro e he _
  simpa using List.any_eq_false.1 h e he

/-- An own claim started clear of the foreign claims (R99). -/
theorem Produces.of_claim_started {s : State} {x : Claims} {c : OwnClaim} (ha : TablesOk s → TableOk x.answers)
    (hf : x.foreign = s.claims.foreign) (ho : x.own = some c) (hc : ClearOf c.nodes s.claims.foreign) :
    Produces s (s.withClaims x) := by
  refine .of_claims ha (fun h => by rwa [hf]) fun _ c' hc' => ?_
  cases ho.symm.trans hc'
  rw [State.withClaims_claims, hf]
  exact hc

theorem startClaiming_produces {nodes : NodeSet} {s : State} (op : Operation) (h : foreignOverlap s nodes = false) :
    let u := handClaim (newClaim s op nodes).id (claimFrame s (newClaim s op nodes)) s
    Produces s (u.withClaims
      { u.claims with
        own := some (newClaim s op nodes), nextId := u.claims.nextId + 1, answers := freshAnswers u nodes }) := by
  intro u
  have hu : u.claims = s.claims := handClaim_touches _ _ _ .claims (by decide)
  refine (handClaim_produces _ _ _).trans (.of_claim_started (fun h => tableOk_concerned h _ _) rfl rfl ?_)
  rw [hu]
  exact clearOf_of_foreignOverlap h

theorem startClaim_produces (op : Operation) (nodes : NodeSet) (s : State) :
    Produces s (startClaim op nodes s).1 := by
  unfold startClaim
  split
  · rename_i h0
    have hheld : Produces s (s.withClaims
        { s.claims with own := some (newClaim s op nodes), nextId := s.claims.nextId + 1 }) :=
      .of_claim_started (fun h => h.2.1) rfl rfl (show ClearOf nodes _ from h0 ▸ clearOf_zero _)
    exact (hheld.trans (ownChanged_produces _)).trans (countGranted_produces _)
  · split
    · exact .refl _
    · rename_i hfree
      split
      · exact .refl _
      · exact (startClaiming_produces op (by simpa using hfree)).trans (ownChanged_produces _)

theorem grantClaim_produces {c : OwnClaim} {s : State} (hc : s.claims.own = some c) : Produces s (grantClaim c s) := by
  have hgrant : Produces s (s.withClaims
      { s.claims with own := some { c with held := true, round := 0 }, answers := [], window := none }) :=
    .of_claims_same (fun _ => .nil) rfl fun _ h => ⟨c, hc, by cases h; rfl⟩
  exact (hgrant.trans (countGranted_produces _)).trans (ownChanged_produces _)

theorem newRound_produces {c : OwnClaim} {s : State} (hc : s.claims.own = some c) : Produces s (newRound c s) := by
  have hround : Produces s (s.withClaims
      { s.claims with
        own := some { c with round := c.round + 1 }, answers := adjustedAnswers s c.nodes, window := none }) :=
    .of_claims_same (fun h => tableOk_concerned h _ _) rfl fun _ h => ⟨c, hc, by cases h; rfl⟩
  exact hround.trans (handClaim_produces _ _ _)

theorem clearOf_put {nodes : NodeSet} {foreign : Table ForeignRec} {station : Nat} {r : ForeignRec}
    (h : ClearOf nodes foreign) (hr : r.assented = true → nodesOverlap nodes r.nodes = false) :
    ClearOf nodes (tablePut foreign station r) := by
  intro e he ha
  rcases mem_tablePut he with rfl | he
  · exact hr ha
  · exact h e he ha

/-- A foreign record put where its origin is not ASSENTED, or it keeps clear of the own claim (R113). -/
theorem Produces.of_foreign_put {s : State} {station : Nat} {r : ForeignRec}
    (hr : ∀ c, s.claims.own = some c → PromisesKept s → r.assented = true → nodesOverlap c.nodes r.nodes = false) :
    Produces s (s.withClaims { s.claims with foreign := tablePut s.claims.foreign station r }) :=
  .of_claims (fun h => h.2.1) (fun h => h.put _ _) fun hp c hc => clearOf_put (hp c hc) (hr c hc hp)

theorem recordForeign_produces {station : Nat} {c : ClaimPart} {a : Bool} {s : State}
    (h : ∀ own, s.claims.own = some own → a = true → nodesOverlap own.nodes c.nodes = false) :
    Produces s (recordForeign station c a s) :=
  .of_foreign_put fun own hown _ ha => h own hown ha

theorem removeForeign_produces (station : Nat) (s : State) : Produces s (removeForeign station s) :=
  .of_claims (fun h => h.2.1) (fun h => h.del _) fun hp c hc e he ha => hp c hc e (List.mem_of_mem_filter he) ha

/-! ### Operations and the drive -/

theorem setHead_produces (op : Operation) (s : State) : Produces s (setHead op s) := .of_req _

theorem setBypassReason_produces (r : EvalResult) (s : State) : Produces s (setBypassReason r s) := .of_req _

theorem leaveQueue_produces (op : Operation) (s : State) : Produces s (leaveQueue op s) := .of_req _

theorem answerEnd_produces (op : Operation) (o : OpOutcome) (r : Reason) (s : State) :
    Produces s (answerEnd op o r s) := by
  unfold answerEnd
  split
  · exact handUrgent_produces _ _
  · exact setLastLocal_produces _ _

theorem countEnd_bounded (o : OpOutcome) {c : Counters} (h : CountersBounded c) : CountersBounded (countEnd o c) := by
  obtain ⟨h1, h2, h3, h4, h5, h6, h7, h8, h9⟩ := h
  cases o
  · exact ⟨h1, h2, h3, h4, h5, h6, h7, bump_le h8, h9⟩
  · exact ⟨h1, h2, h3, h4, h5, h6, h7, h8, h9⟩
  · exact ⟨h1, h2, h3, h4, h5, h6, h7, h8, bump_le h9⟩
  · exact ⟨h1, h2, h3, h4, h5, h6, h7, h8, h9⟩

theorem endOperation_produces (op : Operation) (o : OpOutcome) (r : Reason) (s : State) :
    Produces s (endOperation op o r s) :=
  ((((Produces.refl s).ifThen fun _ => endHeldClaim_produces _ _).trans (answerEnd_produces op o r _)).trans
    (.of_counters (countEnd_bounded o))).trans (leaveQueue_produces op _)

theorem deferHead_produces (r : Reason) (s : State) : Produces s (deferHead r s).1 := by
  unfold deferHead
  split
  · exact .refl _
  · split
    · exact (setHead_produces _ _).trans (.of_req _)
    · exact endOperation_produces _ _ _ _

theorem setCommanded_produces (k : Nat) (s : State) : Produces s (setCommanded k s) := putObj_produces rfl rfl

theorem clearCommanded_produces (k : Nat) (s : State) : Produces s (clearCommanded k s) := putObj_produces rfl rfl

theorem startDrive_produces (d : ObjDesc) (op : Operation) (s : State) : Produces s (startDrive d op s) :=
  (setCommanded_produces _ _).trans (.of_drive _)

theorem grantHandling_produces (s : State) : Produces s (grantHandling s).1 := by
  unfold grantHandling
  split
  · exact .refl _
  · dsimp only
    split
    · exact (endHeldClaim_produces _ _).trans (endOperation_produces _ _ _ _)
    · split
      · exact ((setHead_produces _ _).trans (endHeldClaim_produces _ _)).trans (deferHead_produces _ _)
      · split
        · exact ((setHead_produces _ _).trans (setHead_produces _ _)).trans (startDrive_produces _ _ _)
        · exact ((setHead_produces _ _).trans (endHeldClaim_produces _ _)).trans (deferHead_produces _ _)

theorem claimStep_produces (op : Operation) (nodes : NodeSet) (s : State) : Produces s (claimStep op nodes s).1 := by
  unfold claimStep
  have h := startClaim_produces op nodes s
  split <;> rename_i heq <;> rw [heq] at h
  · exact h.trans (setHead_produces _ _)
  · exact h.trans (grantHandling_produces _)
  · exact h.trans (deferHead_produces _ _)
  · exact h.trans (deferHead_produces _ _)

theorem startHead_produces (op : Operation) (s : State) : Produces s (startHead op s).1 := by
  unfold startHead
  split
  · exact endOperation_produces _ _ _ _
  · split
    · exact endOperation_produces _ _ _ _
    · dsimp only
      split
      · exact (setHead_produces _ _).trans (endOperation_produces _ _ _ _)
      · exact ((setHead_produces _ _).trans (setHead_produces _ _)).trans (claimStep_produces _ _ _)

theorem headStart_produces (s : State) : Produces s (headStart s).1 := by
  unfold headStart
  split
  · exact .refl _
  · exact ((Produces.refl s).ifThen fun _ => .of_handover _).trans (startHead_produces _ _)

theorem runHeads_produces (n : Nat) (s : State) : Produces s (runHeads n s) := by
  induction n generalizing s with
  | zero => exact .refl _
  | succ n ih =>
    unfold runHeads
    split
    · exact .refl _
    · exact (headStart_produces s).ifThen fun _ => ih _

theorem nextHead_produces (s : State) : Produces s (nextHead s) := runHeads_produces _ s

theorem followUp_produces (r : State × Bool) : Produces r.1 (followUp r) :=
  (Produces.refl _).ifThen fun _ => nextHead_produces _

theorem takeReport_produces (rep : ClaimReport) (s : State) : Produces s (takeReport rep s) := by
  unfold takeReport
  split
  · exact .refl _
  · split
    · exact (deferHead_produces _ _).trans (followUp_produces _)
    · exact (endOperation_produces _ _ _ _).trans (nextHead_produces _)
    · exact (endOperation_produces _ _ _ _).trans (nextHead_produces _)

theorem withdrawAndReport_produces (rep : ClaimReport) (o : Option Objection) (s : State) :
    Produces s (withdrawAndReport rep o s) := (withdrawClaim_produces _ _ _).trans (takeReport_produces _ _)

theorem judgeWindow_produces (s : State) : Produces s (judgeWindow s) := by
  unfold judgeWindow
  split
  · exact .refl _
  · rename_i c hc
    have hgrant := ((grantClaim_produces hc).trans (grantHandling_produces _)).trans (followUp_produces _)
    split
    · exact .refl _
    · split
      · exact hgrant
      · split
        · exact newRound_produces hc
        · split
          · exact hgrant
          · exact withdrawAndReport_produces _ _ _

theorem reportDriveEnd_produces (o : OpOutcome) (r : Reason) (s : State) : Produces s (reportDriveEnd o r s) := by
  unfold reportDriveEnd
  split
  · exact .refl _
  · exact (endOperation_produces _ _ _ _).trans (nextHead_produces _)

theorem endDrive_produces (o : OpOutcome) (r : Reason) (s : State) : Produces s (endDrive o r s) := by
  unfold endDrive
  split
  · exact .refl _
  · rename_i d _
    have hstop : Produces s (clearCommanded d.object (stopDrive d s)) :=
      Produces.trans (.of_drive _) (clearCommanded_produces _ _)
    exact (hstop.ifThen fun _ => reportEvent_produces _ _).trans (reportDriveEnd_produces _ _ _)

theorem endUndeparted_produces (e : Nat) (s : State) : Produces s (endUndeparted e s) :=
  (reachTime_produces _ _).trans (endDrive_produces _ _ _)

theorem endOverdue_produces (d : DriveRecord) (e : Nat) (s : State) : Produces s (endOverdue d e s) := by
  unfold endOverdue
  split
  · exact endUndeparted_produces _ _
  · exact (reachTime_produces _ _).trans (endDrive_produces _ _ _)

/-! ### The Field Interface -/

theorem handPosition_produces (k : Nat) (s : State) : Produces s (handPosition k s) :=
  (((ownChanged_produces _).trans (raiseView_produces _ _ _)).trans (.of_handover _)).trans (watchFaulty_produces _)

theorem arrive_produces (d : DriveRecord) (s : State) : Produces s (arrive d s) :=
  .of_free ((arrive_touches d s).mono (by decide))

theorem depart_produces (d : DriveRecord) (s : State) : Produces s (depart d s) := .of_drive _

theorem superviseIf_produces (b : Bool) (c : Comb) (s : State) : Produces s (superviseIf b c s) := by
  rcases superviseIf_cases b c s with h | ⟨d, h⟩ | ⟨d, h⟩ | ⟨r, h⟩ <;> rw [h]
  · exact arrive_produces d s
  · exact depart_produces d s
  · exact endDrive_produces _ r s

theorem putQualified_produces (k : Nat) (c : Comb) (s : State) :
    Produces s (s.putObj k (qualifiedObj s (objIn s k) c)) := by
  refine (Keeps.of_touches (putObj_touches s k _) (positions := fun _ hs j => ?_)
    (tables := fun _ ⟨h1, h2, h3, h4, h5⟩ => ⟨h1, h2, h3, h4.put _ _, h5⟩)).produces rfl rfl
  by_cases hj : j = k
  · subst hj
    rw [objIn_putObj_same]
    cases c <;> simp [qualifiedObj, positionFor]
    tauto
  · rw [objIn_putObj_other _ _ hj]
    exact hs j

theorem qualifyObject_produces (k : Nat) (c : Comb) (s : State) : Produces s (qualifyObject k c s) :=
  ((putQualified_produces k c s).ifElse fun _ => handPosition_produces k _).trans (superviseIf_produces _ _ _)

theorem Produces.of_sensors {s : State} {x : Table SensorIn} (h : TableOk s.sensors → TableOk x) :
    Produces s (s.withSensors x) :=
  (Keeps.of_touches (touches_withSensors s x)
    (tables := fun _ ⟨h1, h2, h3, h4, h5⟩ => ⟨h1, h2, h3, h4, h h5⟩)).produces rfl rfl

theorem qualifySensor_produces (k : Nat) (p : RawPair) (s : State) : Produces s (qualifySensor k p s) :=
  Produces.ifElse (.of_sensors fun h => h.put _ _) fun _ => (ownChanged_produces _).trans (raiseView_produces _ _ _)

theorem singleQualified_produces (which : SingleInput) (previous : Option Bool) (contact : Bool) (s : State) :
    Produces s (singleQualified which previous contact s) := by
  unfold singleQualified
  split
  · exact (ownChanged_produces _).trans (.of_handover _)
  · exact ownChanged_produces _
  · exact .refl _
  · exact (Produces.refl s).ifThen fun _ => faultResetEdge_produces _
  · exact (Produces.refl s).ifThen fun _ => .of_free ((pushEdge_touches _ _ _).mono (by decide))

theorem qualifySingle_produces (which : SingleInput) (s : State) : Produces s (qualifySingle which s) := by
  unfold qualifySingle
  dsimp only
  split
  · exact .refl _
  · exact Produces.trans (.of_free ((putSingle_touches _ _ _).mono (by decide))) (singleQualified_produces _ _ _ _)

theorem qualifyRipeSingles_produces (s : State) : Produces s (qualifyRipeSingles s) :=
  Produces.foldl _ (fun s _ => (Produces.refl s).ifThen fun _ => qualifySingle_produces _ _) _ s

theorem qualifyRipeMeasures_produces (s : State) : Produces s (qualifyRipeMeasures s) :=
  .of_free ((qualifyRipeMeasures_touches s).mono (by decide))

end Sys2Proof.Machine

namespace Sys2Proof.Machine

/-! ### The link as the receiver and the deliveries leave it -/

/-- The receiver and the deliveries leave the outbound queues, the current frame and the attempt alone. -/
theorem Produces.of_receiver {s : State} {m : Link} (hu : m.urgent = s.link.urgent) (hn : m.normal = s.link.normal)
    (hc : m.current = s.link.current) (ha : m.attempt = s.link.attempt)
    (hi : QueuesBounded s.link → m.inbound.length ≤ Config.inboundPlaces) : Produces s (s.withLink m) := by
  have hf : Feeds s m :=
    { attempt := ha
      current := by simp [hc]
      stays := fun _ h _ => hc.trans h
      head := fun a _ hat => ⟨by simpa [AtHead, hu, hn] using hat, fun _ h _ => hc.trans h⟩
      urgent := by simp [hu]
      marker := by simp [hn]
      empty := fun _ h g => ⟨hu.trans h, hn.trans g⟩
      queues := fun hq => ⟨by simpa [hu] using hq.1, by simpa [hn] using hq.2.1, by simpa [hn] using hq.2.2.1, hi hq⟩ }
  exact hf.produces_unpicked hc (by rw [hu]) (by rw [hn])

theorem markViewTaken_produces (s : State) : Produces s (markViewTaken s) :=
  .of_receiver rfl rfl rfl rfl fun h => h.2.2.2

theorem finishDelivery_produces (s : State) : Produces s (finishDelivery s) := by
  refine .of_receiver rfl rfl rfl rfl fun h => ?_
  exact le_trans (by simp) h.2.2.2

theorem headerFailed_produces (busy : Bool) (s : State) : Produces s (headerFailed busy s) :=
  (Produces.of_counters fun ⟨h1, h2⟩ => ⟨bump_le h1, h2⟩).trans (.of_receiver rfl rfl rfl rfl fun h => h.2.2.2)

theorem headerPassed_produces (h : Header) (s : State) : Produces s (headerPassed h s) :=
  .of_receiver rfl rfl rfl rfl fun h => h.2.2.2

theorem suspectReport_produces (station : Nat) (s : State) : Produces s (suspectReport station s) := by
  unfold suspectReport
  split
  · exact .refl _
  · exact (Produces.refl s).ifThen fun _ => (putEntry_produces _ _ _).trans (raiseView_produces _ _ _)

theorem goodFrameReport_produces (s : State) : Produces s (goodFrameReport s) := by
  have hview : Produces s (s.withView { s.view with silence := some (s.now + 3 * fieldOf s (·.heartbeat)) }) :=
    .of_view rfl
  exact (Produces.refl s).ifThen fun _ => hview.trans (endCondition_produces _ _)

theorem bodyFailed_produces (h : Header) (s : State) : Produces s (bodyFailed h s) := by
  have hcount : Produces s (s.withCounters { s.counters with bodyErrors := bump s.counters.bodyErrors }) :=
    .of_counters fun ⟨h1, h2, h3⟩ => ⟨h1, bump_le h2, h3⟩
  exact hcount.ifElse fun _ => suspectReport_produces _ _

theorem goodFrame_produces (f : Frame) (s : State) : Produces s (goodFrame f s) := by
  unfold goodFrame
  split
  · exact .refl _
  · refine (goodFrameReport_produces s).ifElse fun _ => ?_
    split
    · rename_i hroom
      refine .of_receiver rfl rfl rfl rfl fun _ => ?_
      simpa using hroom
    · exact (Produces.of_counters fun ⟨h1, h2, h3, h4⟩ => ⟨h1, h2, bump_le h3, h4⟩).trans (suspectReport_produces _ _)

/-! ### STATUS and RELEASE -/

theorem createEntry_produces (station : Nat) (final : Bool) (c : Content) (s : State) :
    Produces s (createEntry station final c s) :=
  ((putEntry_produces _ _ _).trans (raiseView_produces _ _ _)).ifThen fun _ => raiseView_produces _ _ _

theorem refreshEntry_produces (station : Nat) (e : Entry) (joining final : Bool) (c : Content) (s : State) :
    Produces s (refreshEntry station e joining final c s) :=
  ((putEntry_produces _ _ _).ifElse fun _ => raiseView_produces _ _ _).ifThen fun _ => raiseView_produces _ _ _

theorem takeStatus_produces (station : Nat) (joining final : Bool) (c : Content) (s : State) :
    Produces s (takeStatus station joining final c s) := by
  unfold takeStatus
  split
  · exact createEntry_produces _ _ _ _
  · exact refreshEntry_produces _ _ _ _ _ _

theorem takeRelease_produces (station : Nat) (body : List Byte) (s : State) :
    Produces s (takeRelease station body s) := by
  unfold takeRelease
  split
  · exact .refl _
  · split
    · exact .refl _
    · exact (Produces.refl s).ifElse fun _ => (putEntry_produces _ _ _).ifElse fun _ => raiseView_produces _ _ _

theorem takeClaimPart_produces (station : Nat) (part : Option ClaimPart) (s : State) :
    Produces s (takeClaimPart station part s) := by
  unfold takeClaimPart
  split
  · exact .refl _
  · exact recordForeign_produces nofun
  · exact removeForeign_produces _ _
  · rename_i r c hr
    split
    · exact .of_foreign_put fun own hown hp ha => hp own hown _ (mem_of_tableGet hr) ha
    · exact recordForeign_produces nofun

theorem Produces.of_answers {s : State} {x : Table Answer} (h : TablesOk s → TableOk x) :
    Produces s (s.withClaims { s.claims with answers := x }) :=
  .of_claims_same h rfl fun c hc => ⟨c, hc, rfl⟩

theorem rejoinAnswer_produces (station : Nat) (s : State) : Produces s (rejoinAnswer station s) := by
  unfold rejoinAnswer
  split
  · refine .of_answers fun h => ?_
    have hdel := h.2.1.del station
    split
    · split
      · exact hdel.put _ _
      · exact hdel
    · exact hdel
  · exact .refl _

theorem takeStatusClaim_produces (f : Frame) (s : State) : Produces s (takeStatusClaim f s) := by
  have hjoin : Produces s (if statusJoining f.body then takeJoining f.src s else s) :=
    (Produces.refl s).ifThen fun _ => (removeForeign_produces _ _).trans (rejoinAnswer_produces _ _)
  unfold takeStatusClaim
  dsimp only
  split
  · exact hjoin.trans (removeForeign_produces _ _)
  · exact hjoin.ifThen fun _ => takeClaimPart_produces _ _ _

theorem takeReleaseClaim_produces (f : Frame) (s : State) : Produces s (takeReleaseClaim f s) := by
  unfold takeReleaseClaim
  split
  · exact .refl _
  · exact (Produces.refl s).ifThen fun _ => removeForeign_produces _ _

/-! ### CLAIM, ASSENT, OBJECT and view changes -/

/-- A withdrawal leaves no own claim. -/
@[simp] theorem withdrawClaim_own (cause : EndCause) (o : Option Objection) (s : State) :
    (withdrawClaim cause o s).claims.own = none := by
  unfold withdrawClaim
  split
  · assumption
  · rw [claimToIdle, show (ownChanged _).claims = _ from ownChanged_touches _ .claims (by decide)]
    rfl

/-- The row of R112 in which the own claim gives way: the record stands against it until the withdrawal ends it. -/
theorem giveWay_produces (station : Nat) (c : ClaimPart) (a : Bool) (s : State) :
    Produces s (withdrawAndReport (.defer .conflict) none (recordForeign station c a s)) := by
  refine Produces.trans ?_ (takeReport_produces _ _)
  have h := withdrawClaim_produces (reportCause (.defer .conflict)) none (recordForeign station c a s)
  exact
    { positions := h.positions
      copy := h.copy
      relay := h.relay
      travel := h.travel
      tables := fun ⟨h1, h2, h3, h4⟩ => h.tables ⟨h1, h2, h3.put _ _, h4⟩
      queues := h.queues
      counters := h.counters
      gap := h.gap
      promises := fun _ own hown => by simp at hown
      free := h.free
      link := h.link }

theorem claimResponse_assent {s : State} {station : Nat} {c : ClaimPart} {own : OwnClaim}
    (hown : s.claims.own = some own) (h : claimResponse s station c = .assent) :
    nodesOverlap own.nodes c.nodes = false := by
  unfold claimResponse at h
  rw [hown] at h
  dsimp only at h
  split at h
  · split at h
    · cases h
    · split at h <;> cases h
  · rename_i hover
    simpa using hover

theorem respondClaim_produces {r : ClaimResponse} (h : r ≠ .giveWay) (concerned : Bool) (station : Nat) (c : ClaimPart)
    (s : State) : Produces s (respondClaim r concerned station c s) := by
  cases r with
  | objectHeld => exact handObject_produces _ _ _ _
  | objectRank => exact handObject_produces _ _ _ _
  | giveWay => exact absurd rfl h
  | assent => exact handAssent_produces _ _ _
  | silent => exact .refl _

theorem assentIf_produces (b : Bool) (station : Nat) (id : Byte) (s : State) : Produces s (assentIf b station id s) :=
  (Produces.refl s).ifThen fun _ => handAssent_produces _ _ _

theorem judgeClaim_produces (station : Nat) (c : ClaimPart) (s : State) : Produces s (judgeClaim station c s) := by
  unfold judgeClaim
  split
  · dsimp only
    by_cases hgive : claimResponse s station c = .giveWay
    · rw [hgive]
      exact (giveWay_produces station c _ s).trans (assentIf_produces _ _ _ _)
    · refine (recordForeign_produces fun own hown ha => ?_).trans (respondClaim_produces hgive _ _ _ _)
      refine claimResponse_assent hown (station := station) ?_
      cases hr : claimResponse s station c <;> simp_all [assentedBy]
  · exact recordForeign_produces nofun

theorem claimFromStale_produces (station : Nat) (c : ClaimPart) (s : State) :
    Produces s (claimFromStale station c s) := by
  unfold claimFromStale
  split
  · exact .refl _
  · exact (Produces.refl s).ifThen fun _ => handObject_produces _ _ _ _

theorem takeClaim_produces (f : Frame) (s : State) : Produces s (takeClaim f s) := by
  unfold takeClaim
  split
  · split
    · exact .refl _
    · split
      · exact claimFromStale_produces _ _ _
      · exact judgeClaim_produces _ _ _
  · exact .refl _

theorem takeAssent_produces (f : Frame) (s : State) : Produces s (takeAssent f s) :=
  (Produces.refl s).ifThen fun _ => .of_answers fun h => h.2.1.put _ _

theorem takeObject_produces (f : Frame) (s : State) : Produces s (takeObject f s) := by
  unfold takeObject
  split
  · have hkept : Produces s (s.withClaims
        { s.claims with lastObjection := some { station := f.src, reason := byteAt f.body 1 } }) :=
      .of_claims_same (fun h => h.2.1) rfl fun c hc => ⟨c, hc, rfl⟩
    exact hkept.trans (withdrawAndReport_produces _ _ _)
  · exact .refl _

theorem reevaluate_produces (c : OwnClaim) (s : State) : Produces s (reevaluate c s) := by
  unfold reevaluate
  split
  · exact withdrawAndReport_produces _ _ _
  · refine Produces.trans (setBypassReason_produces (evaluate s c.object c.dir c.source) s) ?_
    dsimp only
    split
    · exact withdrawAndReport_produces _ _ _
    · split
      · exact withdrawAndReport_produces _ _ _
      · exact .of_answers fun h => tableOk_concerned h _ _

theorem takeViewReport_produces (v : ViewReport) (s : State) : Produces s (takeViewReport v s) := by
  have hremove : Produces s (if v.state = some .stale then removeForeign v.station s else s) :=
    (Produces.refl s).ifThen fun _ => removeForeign_produces _ _
  unfold takeViewReport
  dsimp only
  split
  · exact hremove
  · exact hremove.ifElse fun _ => reevaluate_produces _ _

theorem stopWindow_produces (s : State) : Produces s (stopWindow s) :=
  .of_claims_same (fun h => h.2.1) rfl fun c hc => ⟨c, hc, rfl⟩

/-! ### Requests -/

theorem joinQueue_produces (op : Operation) (s : State) : Produces s (joinQueue op s) :=
  (Produces.of_req { s.req with queue := s.req.queue ++ [op] }).ifThen fun _ => nextHead_produces _

theorem takeRequest_produces (f : Frame) (s : State) : Produces s (takeRequest f s) := by
  unfold takeRequest
  split
  · exact .refl _
  · split
    · exact handAccept_produces _ _ _ _
    · exact (handAccept_produces _ _ _ _).trans (joinQueue_produces _ _)

theorem takeCheck_produces (f : Frame) (s : State) : Produces s (takeCheck f s) := by
  unfold takeCheck
  split
  · exact .refl _
  · exact (Produces.refl s).ifThen fun _ => handUrgent_produces _ _

theorem withdrawFor_produces (op : Operation) (s : State) : Produces s (withdrawFor op s) :=
  (Produces.refl s).ifThen fun _ => withdrawClaim_produces _ _ _

theorem cancelOperation_produces (op : Operation) (station : Nat) (tag : Byte) (s : State) :
    Produces s (cancelOperation op station tag s) :=
  (((withdrawFor_produces _ _).trans (handAccept_produces _ _ _ _)).trans (endOperation_produces _ _ _ _)).ifThen
    fun _ => nextHead_produces _

theorem takeCancel_produces (f : Frame) (s : State) : Produces s (takeCancel f s) := by
  unfold takeCancel
  dsimp only
  split
  · split
    · exact handAccept_produces _ _ _ _
    · split
      · exact handAccept_produces _ _ _ _
      · exact cancelOperation_produces _ _ _ _
  · exact .refl _

theorem takeLocal_produces (slot : Nat) (dir : Direction) (s : State) : Produces s (takeLocal slot dir s) := by
  unfold takeLocal
  split
  · split
    · exact setLastLocal_produces _ _
    · exact joinQueue_produces _ _
  · exact .refl _

theorem takeSelector_produces (sel : Selector) (s : State) : Produces s (takeSelector sel s) :=
  (Produces.foldl _ (fun _ _ => (withdrawFor_produces _ _).trans (endOperation_produces _ _ _ _)) (mismatched sel s)
    s).ifThen fun _ => nextHead_produces _

theorem takePosition_produces (k : Nat) (s : State) : Produces s (takePosition k s) := by
  unfold takePosition
  split
  · exact .refl _
  · exact (Produces.refl s).ifThen fun _ =>
      ((withdrawFor_produces _ _).trans (endOperation_produces _ _ _ _)).trans (nextHead_produces _)

theorem stopDeferTimer_produces (s : State) : Produces s (stopDeferTimer s) := .of_req _

theorem endPulse_produces (d : DriveRecord) (s : State) : Produces s (endPulse d s) := .of_drive _

/-! ### The maintenance port -/

/-- A change of the port that leaves the bytes gathered. -/
theorem Produces.of_port {s : State} {x : Port} (h : GapFollowsBytes s.port → GapFollowsBytes x) :
    Produces s (s.withPort x) :=
  (Keeps.of_touches (touches_withPort s x) (gap := fun _ => h)).produces rfl rfl

theorem kick_gathered (p : Port) : p.kick.gathered = p.gathered ∧ p.kick.lastByte = p.lastByte := by
  unfold Port.kick
  split <;> exact ⟨rfl, rfl⟩

theorem gapFollowsBytes_kick {p : Port} (h : GapFollowsBytes p) : GapFollowsBytes p.kick := by
  obtain ⟨hg, hl⟩ := kick_gathered p
  rw [GapFollowsBytes, hg, hl]
  exact h

theorem respondWith_produces (code status : Byte) (data : List Byte) (s : State) :
    Produces s (respondWith code status data s) := .of_port fun h => gapFollowsBytes_kick h

theorem oweBusy_produces (code : Byte) (s : State) : Produces s (oweBusy code s) := by
  unfold oweBusy
  split
  · exact .refl _
  · exact .of_port fun h => gapFollowsBytes_kick h

/-- The moment of the last byte is kept with the bytes that the receiver keeps of those gathered and arrived (R170). -/
theorem setGathered_produces {kept arrived : List Byte} {s : State}
    (h : kept ≠ [] → arrived = [] → s.port.gathered ≠ []) : Produces s (setGathered kept arrived s) := by
  refine .of_port fun hgap => ?_
  unfold GapFollowsBytes lastByteOf at *
  by_cases hk : kept = []
  · simp [hk]
  · by_cases ha : arrived = []
    · simpa [hk, ha, hgap] using h hk ha
    · simp [hk, ha]

theorem clearGathered_produces (s : State) : Produces s (clearGathered s) :=
  .of_port fun _ => by simp [GapFollowsBytes]

theorem gathered_of_gatheredNow {s : State} {bytes : List Byte} (h : gatheredNow s ++ bytes ≠ []) (hb : bytes = []) :
    s.port.gathered ≠ [] := by
  rcases gatheredNow_eq s with hg | hg <;> simp_all

theorem portCommand_produces (code : Byte) (ok : Bool) (act : State → State) (h : ∀ s, Produces s (act s)) (s : State) :
    Produces s (portCommand code ok act s) := by
  unfold portCommand
  dsimp only
  split
  · exact oweBusy_produces _ _
  · have htake : Produces s (takeExchange code s) := .of_port id
    split
    · exact htake.trans (h _)
    · exact htake.trans (respondWith_produces _ _ _ _)

end Sys2Proof.Machine

namespace Sys2Proof.Machine

/-! ### Phases and the store -/

/-- A change of the Start-up Controller that leaves the phase. -/
theorem Produces.of_start {s : State} {x : StartUp} (h : x.phase = s.start.phase) : Produces s (s.withStart x) :=
  (Keeps.of_touches (touches_withStart s x)
    (copy := fun _ hc => by simpa [CopyFollowsPhase, h] using hc)).produces rfl h

/-- A change of phase that stays out of SILENT, and in which a phase that transmits follows none but one that does not
or one that does. -/
theorem Produces.of_phase {s : State} {x : StartUp}
    (hcopy : (x.phase = .selfTest ∨ x.phase = .unconfigured) ↔
      (s.start.phase = .selfTest ∨ s.start.phase = .unconfigured))
    (hsilent : s.start.phase ≠ .silent) (hoff : transmits x.phase = false → transmits s.start.phase = false)
    (hon : transmits s.start.phase = true → transmits x.phase = true) : Produces s (s.withStart x) where
  toKeeps := .of_touches (touches_withStart s x) (copy := fun _ hc => by simpa [CopyFollowsPhase, hcopy] using hc)
  free := fun ⟨ha, hk, he⟩ => ⟨ha, hk, fun ht => he (hoff ht)⟩
  link := fun ⟨h1, h2, h3, h4, h5⟩ => ⟨⟨h1, h2, fun a ha _ => h3 a ha hsilent, fun ht => h4 (hoff ht),
    fun ha => .inl ((h5 ha).elim hon fun h => absurd h hsilent)⟩, .refl _⟩

theorem enterUnconfigured_produces {s : State} (h : s.start.phase = .selfTest) : Produces s (enterUnconfigured s) :=
  .of_phase (by simp [h]) (by simp [h]) (by simp [h, transmits]) (by simp [h, transmits])

theorem enterReady_produces {s : State} (h : s.start.phase = .announce) : Produces s (enterReady s) := by
  have hphase : Produces s (s.withStart { s.start with phase := .ready }) :=
    .of_phase (by simp [h]) (by simp [h]) (by simp [transmits]) (by simp [transmits])
  exact (hphase.trans (ownChanged_produces _)).trans (.of_view rfl)

theorem enterAnnounce_produces {s : State} (h : s.start.phase = .listen) : Produces s (enterAnnounce s) := by
  have hjoin : Produces s (s.withView { s.view with joining := true }) := .of_view rfl
  have hphase : Produces (s.withView { s.view with joining := true })
      ((s.withView { s.view with joining := true }).withStart { s.start with phase := .announce }) :=
    .of_phase (by simp [h]) (by simp [h]) (by simp [transmits]) (by simp [transmits])
  exact ((hjoin.trans hphase).trans (ownChanged_produces _)).trans (.of_start rfl)

/-- A change of the store while the blocks hold no copy leaves the enabled causes (R11). -/
theorem withStore_produces {s : State} {x : Store} (h : s.start.phase = .selfTest ∨ s.start.phase = .unconfigured) :
    Produces s (s.withStore x) := by
  refine (Keeps.of_touches (touches_withStore s x) (relay := fun _ hc hr => ?_)).produces rfl rfl
  have hnone : s.copy = none := hc.2 h
  simpa [RelayFollowsFlags, enabledCauses, recordInForce, hnone] using hr

theorem relayFollowsFlags_refreshRelay (s : State) : RelayFollowsFlags (refreshRelay s) := rfl

theorem eraseStore_produces (s : State) : Produces s (eraseStore s) :=
  (Keeps.of_touches (eraseStore_touches s) (relay := fun _ _ _ => relayFollowsFlags_refreshRelay _)
    (travel := fun _ h => causeIn_and_not _ .configInvalid _ h)).produces rfl rfl

theorem finishDeparture_produces (d : Departure) (s : State) : Produces s (finishDeparture d s) := by
  cases d
  · exact respondWith_produces _ _ _ _
  · exact (eraseStore_produces _).trans (respondWith_produces _ _ _ _)

theorem endDeparture_produces (s : State) : Produces s (endDeparture s) := by
  have hhalt : Produces s (s.withLink { s.link with halted := true }) := .of_receiver rfl rfl rfl rfl fun h => h.2.2.2
  unfold endDeparture
  dsimp only
  split
  · exact hhalt
  · exact hhalt.trans (finishDeparture_produces _ _)

theorem beginDeparture_produces (d : Departure) {s : State} (h : s.start.phase = .ready) :
    Produces s (beginDeparture d s) := by
  have hstart : Produces s (s.withStart { s.start with departure := some d }) := .of_start rfl
  refine ((hstart.trans (.of_req _)).trans (dropClaiming_produces _ _)).trans (requestFinal_produces ?_)
  rw [show (dropClaiming _ _).start = _ from dropClaiming_touches _ _ .start (by decide)]
  simp [h, transmits]

theorem answerReadObject_produces (k : Nat) (s : State) : Produces s (answerReadObject k s) := by
  unfold answerReadObject
  split <;> exact respondWith_produces _ _ _ _

theorem writeConfig_produces (record : List Byte) (s : State) : Produces s (writeConfig record s) := by
  unfold writeConfig
  split
  · exact respondWith_produces _ _ _ _
  · rename_i hphase
    split
    · exact respondWith_produces _ _ _ _
    · exact ((withStore_produces (.inr (not_not.1 hphase))).trans (endCondition_produces _ _)).trans
        (respondWith_produces _ _ _ _)

theorem eraseConfig_produces (s : State) : Produces s (eraseConfig s) := by
  unfold eraseConfig
  split
  · exact respondWith_produces _ _ _ _
  · split
    · exact beginDeparture_produces _ (by assumption)
    · exact finishDeparture_produces _ _

theorem restartNode_produces (s : State) : Produces s (restartNode s) := by
  unfold restartNode
  split
  · exact respondWith_produces _ _ _ _
  · split
    · exact beginDeparture_produces _ (by assumption)
    · exact finishDeparture_produces _ _

theorem receive_nil : receive [] = .gathering [] := rfl

/-- What the receiver keeps of bytes in which it has found something keeps the gap's moment with it (R170). -/
theorem setGathered_of_receive {kept bytes : List Byte} {s : State}
    (h : kept ≠ [] → receive (gatheredNow s ++ bytes) ≠ .gathering []) : Produces s (setGathered kept bytes s) := by
  refine setGathered_produces fun hk hb => gathered_of_gatheredNow (fun hnil => h hk ?_) hb
  rw [hnil, receive_nil]

theorem portFrame_produces (takes : Byte → Bool) (ok : List Byte → Bool) (act : Byte → List Byte → State → State)
    (h : ∀ code args s, Produces s (act code args s)) (bytes : List Byte) (s : State) :
    Produces s (portFrame takes ok act bytes s) := by
  unfold portFrame
  split
  · rename_i hr
    exact setGathered_of_receive fun hk => by simpa [hr] using hk
  · rename_i hr
    split
    · exact (setGathered_of_receive fun _ => by simp [hr]).trans (portCommand_produces _ _ _ (h _ _) _)
    · exact .refl _
  · exact .refl _
  · exact .refl _

/-! ### Resets and the entry to LISTEN -/

/-- The laws between two commands: those of `Keeps`, the coherence of the link, and the current frame's wait. -/
structure Lawful (s t : State) : Prop extends Keeps s t where
  link : LinkCoherent s → LinkCoherent t ∧ KeepsWait s.link t.link

theorem Produces.lawful {s t : State} (h : Produces s t) : Lawful s t where
  toKeeps := h.toKeeps
  link hs := ⟨(h.link hs).1, (h.link hs).2.wait⟩

/-- A link without a current frame has no wait to keep. -/
theorem keepsWait_of_current_eq_none {l m : Link} (h : m.current = none) : KeepsWait l m := by
  intro _ _ _ _ _ hd
  simp [h] at hd

theorem countersBounded_zero : CountersBounded Counters.zero := by
  simp [CountersBounded, Counters.zero]

/-- A reset satisfies every law but that of the counters, which it sets to 0 or leaves (R39, R59, R77, R119, R171). -/
theorem resetNode_lawful (cause : ResetCause) (s : State) : Lawful s (resetNode cause s) where
  positions _ k := by simp [resetObj]
  copy _ := by simp [CopyFollowsPhase, resetNode]
  relay _ _ := by simp [RelayFollowsFlags, resetNode, Faults.clear, relayFor]
  travel _ := by simp [NoTravelCondition, resetNode, Faults.clear, causeIn]
  tables := fun ⟨_, _, _, ho, hs⟩ => ⟨.nil, .nil, .nil, ho.map _, hs.map _⟩
  queues _ := by simp [QueuesBounded, resetNode, Link.empty]
  counters h := by
    simp only [resetNode, resetCounters]
    split
    · exact countersBounded_zero
    · exact h
  gap _ := by simp [GapFollowsBytes, resetNode, Port.idle]
  promises _ := nofun
  link _ := ⟨by simp [LinkCoherent, ChosenClass, resetNode, Link.empty], keepsWait_of_current_eq_none rfl⟩

theorem kicked_produces {s : State} {p : Port} (hg : p.gathered = s.port.gathered)
    (hl : p.lastByte = s.port.lastByte) : Produces s (s.withPort p.kick) :=
  .of_port fun h => gapFollowsBytes_kick (by rw [GapFollowsBytes, hg, hl]; exact h)

theorem responseEnded_lawful (s : State) : Lawful s (responseEnded s) := by
  unfold responseEnded
  split
  · split
    · exact resetNode_lawful _ _
    · exact (kicked_produces (s := s) (p := { s.port with outstanding := none, response := none, sending := none })
        rfl rfl).lawful
  · exact (kicked_produces (s := s) (p := { s.port with outstanding := none, sending := none }) rfl rfl).lawful

theorem busyEnded_produces (s : State) : Produces s (busyEnded s) := kicked_produces rfl rfl

@[simp] theorem recordInForce_refreshRelay (s : State) : recordInForce (refreshRelay s) = recordInForce s := rfl

theorem storeInForce_produces {s : State} (h : s.start.phase = .selfTest) : Produces s (storeInForce s) :=
  withStore_produces (.inl h)

/-- The entry to LISTEN before the inputs qualify: the copy held, the relay taking its state anew, and the own content
afresh (R14, R64, R164). -/
def listening (r : BayRecord) (s : State) : State :=
  refreshRelay { s with
    copy := some r
    objects := tableMap (startObj s.now) s.objects
    sensors := tableMap (startSensor s.now) s.sensors
    start := { s.start with phase := .listen, listen := some (s.now + Config.listenTime) }
    view := { s.view with counter := 0, joining := false }
    req := { s.req with lastLocal := none } }

theorem enterListen_eq (r : BayRecord) (s : State) :
    enterListen r s = qualifyRipeMeasures (qualifyRipeSingles (listening r s)) := rfl

theorem objIn_listening (r : BayRecord) (s : State) (k : Nat) :
    objIn (listening r s) k = ((tableGet s.objects k).map (startObj s.now)).getD {} := by
  simp only [objIn, listening, refreshRelay, State.withFaults, tableGet_map]

theorem listening_contactsStay (r : BayRecord) (s : State) (k : Nat) : ContactsStay k s (listening r s) := by
  unfold ContactsStay positionOf
  rw [objIn_listening, objIn]
  cases tableGet s.objects k <;> exact ⟨rfl, rfl⟩

theorem listening_produces (r : BayRecord) {s : State} (h : s.start.phase = .selfTest) :
    Produces s (listening r s) where
  positions := positions_of_contactsStay (listening_contactsStay r s)
  copy _ := by simp [CopyFollowsPhase, listening, refreshRelay]
  relay _ _ := relayFollowsFlags_refreshRelay _
  travel := id
  tables := fun ⟨h1, h2, h3, h4, h5⟩ => ⟨h1, h2, h3, h4.map _, h5.map _⟩
  queues := id
  counters := id
  gap := id
  promises := id
  free := fun ⟨ha, hk, he⟩ => ⟨ha, hk, fun _ => he (by simp [h, transmits])⟩
  link := by
    rintro ⟨h1, h2, h3, h4, h5⟩
    have hoff : transmits s.start.phase = false := by simp [h, transmits]
    refine ⟨⟨h1, h2, fun a ha _ => h3 a ha (by simp [h]), fun _ => h4 hoff, fun ha => ?_⟩, .refl _⟩
    rcases h5 ha with hon | hsil
    · simp [hoff] at hon
    · simp [h] at hsil

theorem endSelfTest_produces {s : State} (h : s.start.phase = .selfTest) : Produces s (endSelfTest s) := by
  unfold endSelfTest
  split
  · exact enterUnconfigured_produces h
  · exact enterUnconfigured_produces h
  · split
    · exact ((storeInForce_produces h).trans (listening_produces _ h)).trans
        ((qualifyRipeSingles_produces _).trans (qualifyRipeMeasures_produces _))
    · rename_i p _
      have hrej : Produces s (storeRejected p s) := withStore_produces (.inl h)
      exact (hrej.trans (enterUnconfigured_produces h)).trans (beginCondition_produces (by decide) _)

/-! ### The address conflict -/

/-- The phase SILENT entered, with the outbound and inbound queues emptied (R58). -/
def silenced (s : State) : State := silenceLink (enterPhase .silent s)

theorem silenced_touches (s : State) : Touches [.start, .view, .link] s (silenced s) :=
  ((enterPhase_touches _ _).trans (silenceLink_touches _)).mono (by decide)

theorem silenced_phase (s : State) : (silenced s).start.phase = .silent :=
  congrArg StartUp.phase (ownChanged_touches (s.withStart { s.start with phase := .silent }) .start (by decide))

theorem silenced_keeps {s : State} (h : receives s.start.phase = true) : Keeps s (silenced s) := by
  have hview : (silenced s).view.entries = s.view.entries := by
    simp [silenced, enterPhase, silenceLink, ownChanged_view]
  refine .of_touches (silenced_touches s) (copy := fun _ hc => ?_) (tables := fun _ ⟨h1, h2⟩ => ?_)
    (queues := fun _ _ => ?_)
  · have hlistens : ¬ (s.start.phase = .selfTest ∨ s.start.phase = .unconfigured) := by
      rintro (hp | hp) <;> simp [receives, hp] at h
    have hsome : s.copy ≠ none := fun hnone => hlistens (hc.1 hnone)
    rw [CopyFollowsPhase, silenced_phase, show (silenced s).copy = _ from silenced_touches s .copy (by decide)]
    simpa using hsome
  · rw [TablesOk, hview, show (silenced s).claims = _ from silenced_touches s .claims (by decide),
      show (silenced s).objects = _ from silenced_touches s .objects (by decide),
      show (silenced s).sensors = _ from silenced_touches s .sensors (by decide)]
    exact ⟨h1, h2⟩
  · simp [QueuesBounded, silenced, silenceLink]

theorem linkCoherent_silenced (s : State) : LinkCoherent (silenced s) := by
  have hp := silenced_phase s
  refine ⟨fun _ => ?_, ?_, fun _ _ hne => absurd hp hne, fun _ => ?_, fun _ => .inr hp⟩
  · simp [ChosenClass, silenced, silenceLink]
  · simp [silenced, silenceLink]
  · exact ⟨rfl, rfl, rfl⟩

theorem conflictDeparture_produces (d : Option Departure) (ended : Bool) (s : State) :
    Produces s (conflictDeparture d ended s) := by
  unfold conflictDeparture
  split
  · exact .refl _
  · exact (Produces.refl s).ifElse fun _ => finishDeparture_produces _ _

/-- An address conflict after the entry to SILENT (R168). -/
theorem goSilent_eq (s : State) : goSilent s =
    conflictDeparture s.start.departure s.link.halted (silenceView (silenceRequests (dropClaiming .silenced
      (beginCondition .addressConflict
        (silenced (s.withStart { s.start with listen := none, announce := none, departure := none })))))) := rfl

theorem silenceView_produces (s : State) : Produces s (silenceView s) := by
  have hview : Produces s (s.withView { s.view with silence := none }) := .of_view rfl
  exact hview.trans (endCondition_produces _ _)

/-- What follows the entry to SILENT in an address conflict (R168). -/
theorem afterSilenced_produces (d : Option Departure) (ended : Bool) (u : State) :
    Produces u (conflictDeparture d ended (silenceView (silenceRequests (dropClaiming .silenced
      (beginCondition .addressConflict u))))) :=
  ((((beginCondition_produces (by decide) u).trans (dropClaiming_produces _ _)).trans (.of_req _)).trans
    (silenceView_produces _)).trans (conflictDeparture_produces _ _ _)

theorem afterSilenced_touches (d : Option Departure) (ended : Bool) (u : State) :
    Touches [.req, .link, .counters, .claims, .view, .faults, .store, .port] u
      (conflictDeparture d ended (silenceView (silenceRequests (dropClaiming .silenced
        (beginCondition .addressConflict u))))) :=
  (((((beginCondition_touches _ u).trans (dropClaiming_touches _ _)).trans (silenceRequests_touches _)).trans
    (silenceView_touches _)).trans (conflictDeparture_touches _ _ _)).mono (by decide)

theorem goSilent_phase (s : State) : (goSilent s).start.phase = .silent := by
  rw [goSilent_eq, show State.start (conflictDeparture _ _ _) = _ from afterSilenced_touches _ _ _ .start (by decide)]
  exact silenced_phase _

theorem goSilent_lawful {s : State} (h : receives s.start.phase = true) : Lawful s (goSilent s) := by
  set u := s.withStart { s.start with listen := none, announce := none, departure := none }
  have hstart : Produces s u := .of_start rfl
  have hafter := afterSilenced_produces s.start.departure s.link.halted (silenced u)
  rw [← goSilent_eq] at hafter
  refine ⟨(hstart.toKeeps.trans (silenced_keeps h)).trans hafter.toKeeps, fun _ => ?_⟩
  have hcoh : LinkCoherent (goSilent s) := (hafter.link (linkCoherent_silenced u)).1
  obtain ⟨_, _, _, hempty, _⟩ := id hcoh
  obtain ⟨_, _, hnone⟩ := hempty (by simp [goSilent_phase, transmits])
  exact ⟨hcoh, keepsWait_of_current_eq_none hnone⟩

/-! ### Attempts -/

/-- A frame taken from its queue, or put back with its count, once its attempt has ended: the link stays free. -/
theorem LinkFree.dequeue {s : State} {m : Link} (h : LinkFree s) (hne : s.link.urgent ≠ [] ∨ s.link.normal ≠ [])
    (ha : m.attempt = s.link.attempt) (hc : m.current = s.link.current) : LinkFree (s.withLink m) := by
  obtain ⟨hatt, hk, he⟩ := h
  refine ⟨ha.trans hatt, by simpa [hc] using hk, fun ht => ?_⟩
  obtain ⟨hu, hn, _⟩ := he ht
  exact absurd hne (by simp [hu, hn])

@[simp] theorem clearAttempt_urgent (s : State) : (clearAttempt s).link.urgent = s.link.urgent := rfl
@[simp] theorem clearAttempt_normal (s : State) : (clearAttempt s).link.normal = s.link.normal := rfl

theorem Keeps.of_link {s : State} {m : Link} (h : QueuesBounded s.link → QueuesBounded m) : Keeps s (s.withLink m) :=
  .of_touches (touches_withLink s m) (queues := fun _ => h)

theorem linkFree_clearAttempt {s : State} (h : LinkCoherent s) : LinkFree (clearAttempt s) := by
  obtain ⟨_, _, _, hempty, _⟩ := h
  exact ⟨rfl, nofun, fun ht => ⟨(hempty ht).1, (hempty ht).2.1, rfl⟩⟩

/-- The choice of the current frame of a free link makes it coherent (R47). -/
theorem LinkFree.pick {s : State} (h : LinkFree s) : LinkCoherent s.pick := by
  obtain ⟨ha, hk, he⟩ := h
  have hatt : s.pick.link.attempt = none := by simpa using ha
  refine ⟨fun _ => chosenClass_pick ha, pick_k_le hk, fun a hs => ?_, fun ht => ?_, fun hs => absurd hatt hs⟩
  · exact absurd (hatt.symm.trans hs) (by simp)
  · obtain ⟨hu, hn, hc⟩ := he ht
    exact ⟨by simpa using hu, by simpa using hn, pick_current_eq_none hu hn hc⟩

theorem pick_keeps (s : State) : Keeps s s.pick := .of_link (queuesBounded_pick _).2

theorem clearAttempt_keeps (s : State) : Keeps s (clearAttempt s) := .of_link id

/-- What the owner of a frame does once its attempt has ended and it has left its queue, and the choice after it. -/
theorem lawful_of_ended {s u t : State} {a : Attempt} (ha : s.link.attempt = some a) (hk : Keeps (clearAttempt s) u)
    (hf : LinkFree (clearAttempt s) → LinkFree u) (h : Produces u t) : Lawful s t.pick where
  toKeeps := ((clearAttempt_keeps s).trans hk).trans (h.toKeeps.trans (pick_keeps t))
  link hs := ⟨(h.free (hf (linkFree_clearAttempt hs))).pick, fun hn => by simp [ha] at hn⟩


theorem markerEnded_produces (b : Bool) (s : State) : Produces s (markerEnded b s) := .of_view rfl

theorem countAbandoned_produces (s : State) : Produces s (countAbandoned s) :=
  .of_counters fun ⟨h1, h2, h3, h4, h5⟩ => ⟨h1, h2, h3, bump_le h4, h5⟩

theorem claimSent_produces (id : Byte) (s : State) : Produces s (claimSent id s) := by
  unfold claimSent
  split
  · exact .refl _
  · exact (Produces.refl s).ifThen fun _ => .of_claims_same (fun h => h.2.1) rfl fun c hc => ⟨c, hc, rfl⟩

theorem claimAbandoned_produces (id : Byte) (s : State) : Produces s (claimAbandoned id s) := by
  unfold claimAbandoned
  split
  · exact .refl _
  · exact (Produces.refl s).ifThen fun _ => judgeWindow_produces _

/-- What the sending of a marker does once the marker has left its queue (R45, R62 to R64, R165 to R167). -/
theorem afterMarkerSent_produces (inReady ends : Bool) (u : State) :
    Produces u (let v := markerEnded inReady u
      let w := if v.start.phase = .announce then enterReady v else v
      if ends then endDeparture w else w) := by
  have h := markerEnded_produces inReady u
  exact (h.ifThen fun hp => enterReady_produces hp).ifThen fun _ => endDeparture_produces _

/-- What the abandonment of a marker does once the marker has left its queue (R45, R49, R165, R167). -/
theorem afterMarkerAbandoned_produces (final : Bool) (u : State) :
    Produces u (let v := markerEnded false (countAbandoned u)
      let w := if v.start.phase = .announce then requestStatus v else v
      if final then endDeparture w else w) := by
  have h := (countAbandoned_produces u).trans (markerEnded_produces false _)
  exact (h.ifThen fun _ => requestStatus_produces _).ifThen fun _ => endDeparture_produces _

/-- At most one item follows a marker that has left its queue, and it is a marker. -/
theorem followingMarker_cases (renew final sent : Bool) :
    followingMarker renew final sent = [] ∨ ∃ f, followingMarker renew final sent = [.marker false f 0] := by
  cases renew <;> cases final <;> cases sent <;> simp [followingMarker]

theorem queuesBounded_following {l : Link} {renew final sent : Bool} {m : NormalItem} {rest : List NormalItem}
    (hn : l.normal = m :: rest) (hm : isMarker m = true) (h : QueuesBounded l) :
    QueuesBounded { l with normal := rest ++ followingMarker renew final sent } := by
  obtain ⟨hu, hmk, hc, hi⟩ := h
  rw [hn] at hmk hc
  simp only [List.filter_cons, hm, if_true, List.length_cons, Bool.not_true, Bool.false_eq_true, if_false] at hmk hc
  rcases followingMarker_cases renew final sent with h | ⟨f, h⟩ <;> rw [h]
  · exact ⟨hu, by simp; omega, by simpa using hc, hi⟩
  · refine ⟨hu, ?_, ?_, hi⟩
    · have hnone : (rest.filter isMarker).length = 0 := by omega
      rw [List.filter_append, List.length_append, hnone]
      exact le_refl 1
    · simpa [List.filter_append, isMarker] using hc

/-- An item put back in its place, with its count or without it. -/
theorem queuesBounded_same {l : Link} {m m' : NormalItem} {rest : List NormalItem} (hn : l.normal = m :: rest)
    (hm : isMarker m' = isMarker m) (h : QueuesBounded l) : QueuesBounded { l with normal := m' :: rest } := by
  obtain ⟨hu, hmk, hc, hi⟩ := h
  rw [hn] at hmk hc
  refine ⟨hu, ?_, ?_, hi⟩
  · simpa [List.filter_cons, hm, apply_ite List.length] using hmk
  · simpa [List.filter_cons, hm, apply_ite List.length] using hc

theorem queuesBounded_rest {l : Link} {m : NormalItem} {rest : List NormalItem} (hn : l.normal = m :: rest)
    (h : QueuesBounded l) : QueuesBounded { l with normal := rest } := by
  obtain ⟨hu, hmk, hc, hi⟩ := h
  rw [hn] at hmk hc
  exact ⟨hu, le_trans ((List.sublist_cons_self _ _).filter _).length_le hmk,
    le_trans ((List.sublist_cons_self _ _).filter _).length_le hc, hi⟩

theorem queuesBounded_urgent {l : Link} {q : List UrgentItem} (hq : q.length ≤ l.urgent.length) (h : QueuesBounded l) :
    QueuesBounded { l with urgent := q } :=
  ⟨hq.trans h.1, h.2⟩

/-- An attempt that ends where its frame no longer waits ends in SILENT (R58): nothing waits. -/
theorem clearAttempt_lawful {s : State} {a : Attempt} (ha : s.link.attempt = some a)
    (hgone : ¬ AtHead s.link a) : Lawful s (clearAttempt s) where
  toKeeps := clearAttempt_keeps s
  link := by
    rintro ⟨_, _, hhead, hempty, hrun⟩
    have hs : s.start.phase = .silent := by
      by_contra hs
      exact hgone (hhead a ha hs).1
    obtain ⟨hu, hn, _⟩ := hempty (by simp [hs, transmits])
    refine ⟨⟨fun _ => ?_, nofun, nofun, fun _ => ⟨hu, hn, rfl⟩, fun h => absurd rfl h⟩,
      fun hnone => by simp [ha] at hnone⟩
    simp [ChosenClass, clearAttempt, hu, hn]

/-- No attempt whose class has nothing waiting has its frame at the head of a queue. -/
theorem notAtHead_of_gone {l : Link} {a : Attempt} {u : List UrgentItem} {n : List NormalItem} (hu : l.urgent = u)
    (hn : l.normal = n) (h1 : ∀ i rest, a.cls = .urgent → u = i :: rest → False)
    (h2 : ∀ renew final k rest, a.cls = .normal → n = .marker renew final k :: rest → False)
    (h3 : ∀ id f k r rest, a.cls = .normal → n = .claim id f k r :: rest → False) : ¬ AtHead l a := by
  unfold AtHead
  split
  · rename_i hcls
    cases u with
    | nil => simp [hu]
    | cons i rest => exact (h1 i rest hcls rfl).elim
  · rename_i hcls
    cases n with
    | nil => simp [hn]
    | cons i rest =>
      cases i with
      | marker => exact (h2 _ _ _ _ hcls rfl).elim
      | claim => exact (h3 _ _ _ _ _ hcls rfl).elim

theorem lawful_of_urgent_taken {s t : State} {a : Attempt} {i : UrgentItem} {q rest : List UrgentItem}
    (ha : s.link.attempt = some a) (hu : s.link.urgent = i :: rest) (hq : q.length ≤ s.link.urgent.length)
    (h : Produces ((clearAttempt s).withLink { (clearAttempt s).link with urgent := q }) t) : Lawful s t.pick :=
  lawful_of_ended ha (.of_link (queuesBounded_urgent hq)) (fun hf => hf.dequeue (.inl (by simp [hu])) rfl rfl) h

theorem lawful_of_normal_taken {s t : State} {a : Attempt} {i : NormalItem} {q rest : List NormalItem}
    (ha : s.link.attempt = some a) (hn : s.link.normal = i :: rest)
    (hq : QueuesBounded (clearAttempt s).link → QueuesBounded { (clearAttempt s).link with normal := q })
    (h : Produces ((clearAttempt s).withLink { (clearAttempt s).link with normal := q }) t) : Lawful s t.pick :=
  lawful_of_ended ha (.of_link hq) (fun hf => hf.dequeue (.inr (by simp [hn])) rfl rfl) h

theorem execFrameSent_lawful {s t : State} (h : execFrameSent s = .next t) : Lawful s t := by
  unfold execFrameSent at h
  cases ha : s.link.attempt with
  | none =>
    simp only [ha, Host.Outcome.next.injEq] at h
    exact h ▸ (Produces.refl s).lawful
  | some a =>
    simp only [ha, Host.Outcome.next.injEq] at h
    subst h
    split
    · rename_i hu
      exact lawful_of_urgent_taken ha hu (by rw [show s.link.urgent = _ from hu]; simp) (.refl _)
    · rename_i hn
      exact lawful_of_normal_taken ha hn (queuesBounded_following hn rfl) (afterMarkerSent_produces _ _ _)
    · rename_i hn
      exact lawful_of_normal_taken ha hn (queuesBounded_rest hn) (claimSent_produces _ _)
    · rename_i h1 h2 h3
      exact clearAttempt_lawful ha (notAtHead_of_gone rfl rfl h1 h2 h3)

/-- An urgent frame that collided, at its place with one attempt more or abandoned (R48, R49). -/
theorem urgentCollided_lawful {s : State} {a : Attempt} {i : UrgentItem} {rest : List UrgentItem}
    (ha : s.link.attempt = some a) (hu : s.link.urgent = i :: rest) :
    Lawful s (urgentCollided i rest (clearAttempt s)).pick := by
  unfold urgentCollided
  split
  · exact lawful_of_urgent_taken ha hu (by simp [hu]) (.refl _)
  · exact lawful_of_urgent_taken ha hu (by simp [hu]) (countAbandoned_produces _)

theorem markerCollided_lawful {s : State} {a : Attempt} {renew final : Bool} {n : Nat} {rest : List NormalItem}
    (ha : s.link.attempt = some a) (hn : s.link.normal = .marker renew final n :: rest) :
    Lawful s (markerCollided renew final n rest (clearAttempt s)).pick := by
  unfold markerCollided
  split
  · exact lawful_of_normal_taken (q := .marker false final (n + 1) :: rest) ha hn (queuesBounded_same hn rfl) (.refl _)
  · exact lawful_of_normal_taken ha hn (queuesBounded_following hn rfl) (afterMarkerAbandoned_produces _ _)

theorem claimCollided_lawful {s : State} {a : Attempt} {id : Byte} {f : Frame} {n : Nat} {removed : Bool}
    {rest : List NormalItem} (ha : s.link.attempt = some a) (hn : s.link.normal = .claim id f n removed :: rest) :
    Lawful s (claimCollided id f n removed rest (clearAttempt s)).pick := by
  unfold claimCollided
  split
  · exact lawful_of_normal_taken ha hn (queuesBounded_rest hn) (.refl _)
  · split
    · exact lawful_of_normal_taken (q := .claim id f (n + 1) removed :: rest) ha hn (queuesBounded_same hn rfl)
        (.refl _)
    · exact lawful_of_normal_taken ha hn (queuesBounded_rest hn)
        ((countAbandoned_produces _).trans (claimAbandoned_produces _ _))

theorem collide_lawful {s : State} {a : Attempt} (ha : s.link.attempt = some a) : Lawful s (collide a s) := by
  unfold collide
  dsimp only
  split
  · rename_i hu
    exact urgentCollided_lawful ha hu
  · rename_i hn
    exact markerCollided_lawful ha hn
  · rename_i hn
    exact claimCollided_lawful ha hn
  · rename_i h1 h2 h3
    exact clearAttempt_lawful ha (notAtHead_of_gone rfl rfl h1 h2 h3)

theorem Lawful.refl (s : State) : Lawful s s := (Produces.refl s).lawful

theorem execCollision_lawful {halfBit : Nat} {read : Level} {s t : State} (h : execCollision halfBit read s = .next t) :
    Lawful s t := by
  cases h
  split
  · exact .refl s
  · rename_i a ha
    split
    · exact .refl s
    · split
      · exact .refl s
      · exact collide_lawful ha

/-- The frame that the current frame stands for is at the head of its queue (R43 to R47). -/
theorem atHead_of_currentFrame {s : State} {cls : FrameClass} {f : Frame} (h : currentFrame s cls = some f)
    (symbols : List LineSym) (inReady : Bool) :
    AtHead s.link { cls := cls, frame := f, symbols := symbols, inReady := inReady } := by
  cases cls with
  | urgent =>
    cases hu : s.link.urgent with
    | nil => simp [currentFrame, hu] at h
    | cons i rest => simpa [currentFrame, AtHead, hu] using h
  | normal =>
    cases hn : s.link.normal with
    | nil => simp [currentFrame, hn] at h
    | cons i rest =>
      cases i with
      | claim id g n r =>
        exact ⟨.claim id g n r, by simp [hn], .inl (by simpa [currentFrame, hn, claimFrameOf] using h)⟩
      | marker renew final n =>
        simp only [currentFrame, hn, Option.map_eq_some_iff] at h
        obtain ⟨c, _, rfl⟩ := h
        exact ⟨.marker renew final n, by simp [hn], .inr ⟨rfl, rfl⟩⟩

theorem execAttemptStart_lawful {idle : Nat} {s t : State} (h : execAttemptStart idle s = .next t) : Lawful s t := by
  cases h
  split
  · rename_i c hnone hc
    split
    · rename_i hon
      split
      · exact .refl s
      · rename_i f hf
        refine ⟨.of_link id, fun ⟨h1, h2, _, h4, _⟩ => ⟨⟨nofun, h2, ?_, h4, fun _ => ?_⟩, fun _ ha => by simp at ha⟩⟩
        · rintro a ⟨⟩ _
          exact ⟨atHead_of_currentFrame hf _ _, by simp [hc]⟩
        · simp only [Bool.and_eq_true] at hon
          exact .inl hon.1.1
    · exact .refl s
  · exact .refl s

theorem ownSourceHeader_lawful {s : State} (h : receives s.start.phase = true) : Lawful s (ownSourceHeader s) := by
  have hrest : Produces s (s.withLink { s.link with header := none, ignoring := true }) :=
    .of_receiver rfl rfl rfl rfl fun h => h.2.2.2
  unfold ownSourceHeader
  dsimp only
  split
  · exact hrest.lawful
  · have hsil : Lawful (s.withLink { s.link with header := none, ignoring := true }) _ := goSilent_lawful h
    exact ⟨hrest.toKeeps.trans hsil.toKeeps, fun hs => hsil.link (hrest.link hs).1⟩

theorem execHeaderReceived_lawful {heard : HeardHeader} {s t : State} (h : execHeaderReceived heard s = .next t) :
    Lawful s t := by
  cases h
  split
  · rename_i hon
    split
    · exact (headerFailed_produces _ _).lawful
    · split
      · exact ownSourceHeader_lawful (Bool.and_eq_true_iff.1 hon).1
      · exact (headerPassed_produces _ _).lawful
  · exact .refl s

theorem execFrameEnd_produces {syms : List LineSym} {s t : State} (h : execFrameEnd syms s = .next t) :
    Produces s t := by
  have hend : Produces s (s.withLink { s.link with header := none }) := .of_receiver rfl rfl rfl rfl fun h => h.2.2.2
  cases h
  split
  · exact .refl s
  · split
    · dsimp only
      split
      · exact hend.trans (bodyFailed_produces _ _)
      · exact hend.trans (goodFrame_produces _ _)
    · exact .refl s

end Sys2Proof.Machine

namespace Sys2Proof.Machine

/-! ### The laws, command by command -/

theorem execSelfTestEnd_produces {s t : State} (h : execSelfTestEnd s = .next t) : Produces s t := by
  cases h
  exact (Produces.refl s).ifThen fun hp => endSelfTest_produces hp

theorem execListenExpiry_produces {s t : State} (h : execListenExpiry s = .next t) : Produces s t := by
  cases h
  split
  · exact .refl s
  · split
    · exact (reachTime_produces s _).trans (enterAnnounce_produces (by assumption))
    · exact .refl s

theorem execAnnounceExpiry_produces {s t : State} (h : execAnnounceExpiry s = .next t) : Produces s t := by
  cases h
  split
  · exact .refl s
  · rename_i d hd
    have hstop : Produces (s.reachTime d) ((s.reachTime d).withStart { (s.reachTime d).start with announce := none }) :=
      .of_start rfl
    exact (Produces.refl s).ifThen fun _ => ((reachTime_produces s d).trans hstop).trans (requestStatus_produces _)

theorem execRawCombinationChange_produces {slot : Nat} {o c : Bool} {s t : State}
    (h : execRawCombinationChange slot o c s = .next t) : Produces s t := by
  cases h
  exact (Produces.refl s).ifThen fun _ => putObj_produces rfl rfl

theorem execQualificationEvent_produces {slot : Nat} {s t : State} (h : execQualificationEvent slot s = .next t) :
    Produces s t := by
  cases h
  split
  · exact .refl s
  · exact (Produces.refl s).ifElse fun _ => (reachTime_produces s _).trans (qualifyObject_produces _ _ _)

/-- The one change of a position that is no qualification: from MOVING to FAULTY, which both agree with 00 (R21). -/
theorem limit_produces (slot : Nat) {s : State} (h : positionOf s slot = .moving) :
    Produces s (s.putObj slot { objIn s slot with position := .faulty, intermediate := none }) where
  toKeeps := by
    refine .of_touches (putObj_touches s slot _) (positions := fun _ hs k => ?_)
      (tables := fun _ ⟨h1, h2, h3, h4, h5⟩ => ⟨h1, h2, h3, h4.put _ _, h5⟩)
    by_cases hk : k = slot
    · subst hk
      have hq := hs k
      rw [show (objIn s k).position = _ from h] at hq
      rw [objIn_putObj_same]
      cases hc : (objIn s k).qualified with
      | none => simp [hc] at hq
      | some c => cases c <;> simp_all
    · rw [objIn_putObj_other s _ hk]
      exact hs k
  free := id
  link hs := ⟨hs, .refl _⟩

theorem execIntermediateLimitExpiry_produces {slot : Nat} {s t : State}
    (h : execIntermediateLimitExpiry slot s = .next t) : Produces s t := by
  cases h
  split
  · exact .refl s
  · rename_i d hd
    refine (Produces.refl s).ifThen fun hm => ?_
    exact ((reachTime_produces s d).trans (limit_produces (s := s.reachTime d) slot hm.1)).trans
      (handPosition_produces _ _)

theorem execReadyInputChange_produces {slot : Nat} {c : Bool} {s t : State}
    (h : execReadyInputChange slot c s = .next t) : Produces s t := by
  cases h
  exact (Produces.refl s).ifThen fun _ => putObj_produces rfl rfl

theorem execReadyQualification_produces {slot : Nat} {s t : State} (h : execReadyQualification slot s = .next t) :
    Produces s t := by
  cases h
  split
  · exact .refl s
  · exact (Produces.refl s).ifElse fun _ => (reachTime_produces s _).trans (putObj_produces rfl rfl)

theorem execSensorInputChange_produces {k : Nat} {p g : Bool} {s t : State}
    (h : execSensorInputChange k p g s = .next t) : Produces s t := by
  cases h
  exact (Produces.refl s).ifThen fun _ => .of_sensors fun h => h.put _ _

theorem execSensorQualification_produces {k : Nat} {s t : State} (h : execSensorQualification k s = .next t) :
    Produces s t := by
  cases h
  split
  · exact .refl s
  · exact (Produces.refl s).ifElse fun _ => (reachTime_produces s _).trans (qualifySensor_produces _ _ _)

theorem execSingleInputChange_produces {i : SingleInput} {c : Bool} {s t : State}
    (h : execSingleInputChange i c s = .next t) : Produces s t := by
  cases h
  exact (Produces.refl s).ifThen fun _ => .of_free ((putSingle_touches _ _ _).mono (by decide))

theorem execSingleInputQualification_produces {i : SingleInput} {s t : State}
    (h : execSingleInputQualification i s = .next t) : Produces s t := by
  cases h
  refine (Produces.refl s).ifThen fun _ => ?_
  exact (Produces.refl s).ifElse fun _ => (reachTime_produces s _).trans (qualifySingle_produces _ _)

theorem execMeasurementReading_produces {w : Measure} {r : Reading} {s t : State}
    (h : execMeasurementReading w r s = .next t) : Produces s t := by
  cases h
  exact .of_free ((putMeasure_touches _ _ _).mono (by decide))

theorem execMeasurementStateChange_produces {w : Measure} {s t : State}
    (h : execMeasurementStateChange w s = .next t) : Produces s t := by
  cases h
  exact (Produces.refl s).ifThen fun _ =>
    (reachTime_produces s _).trans (.of_free ((turnMeasure_touches _ _).mono (by decide)))

/-! ### The hand-overs between the blocks -/

theorem execLocalRequest_produces {s t : State} (h : execLocalRequest s = .next t) : Produces s t := by
  cases h
  split
  · exact .refl s
  · exact (Produces.of_handover { s.handover with locals := _ }).trans (takeLocal_produces _ _ _)

theorem execSelectorChange_produces {s t : State} (h : execSelectorChange s = .next t) : Produces s t := by
  cases h
  split
  · exact .refl s
  · exact (Produces.of_handover { s.handover with selectors := _ }).trans (takeSelector_produces _ _)

theorem execPositionChangeTaken_produces {s t : State} (h : execPositionChangeTaken s = .next t) : Produces s t := by
  cases h
  split
  · exact .refl s
  · exact (Produces.of_handover { s.handover with positions := _ }).trans (takePosition_produces _ _)

theorem execViewChange_produces {s t : State} (h : execViewChange s = .next t) : Produces s t := by
  cases h
  split
  · exact .refl s
  · exact (Produces.of_handover { s.handover with views := _ }).trans (takeViewReport_produces _ _)

/-! ### The frame under delivery -/

theorem execStatusTakenByView_produces {s t : State} (h : execStatusTakenByView s = .next t) : Produces s t := by
  cases h
  split
  · exact .refl s
  · refine (Produces.refl s).ifThen fun _ => ?_
    split
    · exact (markViewTaken_produces s).trans (suspectReport_produces _ _)
    · exact (markViewTaken_produces s).trans (takeStatus_produces _ _ _ _ _)

theorem execReleaseTakenByView_produces {s t : State} (h : execReleaseTakenByView s = .next t) : Produces s t := by
  cases h
  split
  · exact .refl s
  · exact (Produces.refl s).ifThen fun _ => (markViewTaken_produces s).trans (takeRelease_produces _ _ _)

theorem execStatusClaimPart_produces {s t : State} (h : execStatusClaimPart s = .next t) : Produces s t := by
  cases h
  split
  · exact .refl s
  · exact (Produces.refl s).ifThen fun _ => (finishDelivery_produces s).trans (takeStatusClaim_produces _ _)

theorem execReleaseTakenByClaims_produces {s t : State} (h : execReleaseTakenByClaims s = .next t) : Produces s t := by
  cases h
  split
  · exact .refl s
  · exact (Produces.refl s).ifThen fun _ => (finishDelivery_produces s).trans (takeReleaseClaim_produces _ _)

theorem execClaim_produces {s t : State} (h : execClaim s = .next t) : Produces s t := by
  cases h
  split
  · exact .refl s
  · exact (Produces.refl s).ifThen fun _ => (finishDelivery_produces s).trans (takeClaim_produces _ _)

theorem execAssent_produces {s t : State} (h : execAssent s = .next t) : Produces s t := by
  cases h
  split
  · exact .refl s
  · exact (Produces.refl s).ifThen fun _ => (finishDelivery_produces s).trans (takeAssent_produces _ _)

theorem execObject_produces {s t : State} (h : execObject s = .next t) : Produces s t := by
  cases h
  split
  · exact .refl s
  · exact (Produces.refl s).ifThen fun _ => (finishDelivery_produces s).trans (takeObject_produces _ _)

theorem execRequest_produces {s t : State} (h : execRequest s = .next t) : Produces s t := by
  cases h
  split
  · exact .refl s
  · exact (Produces.refl s).ifThen fun _ => (finishDelivery_produces s).trans (takeRequest_produces _ _)

theorem execCheck_produces {s t : State} (h : execCheck s = .next t) : Produces s t := by
  cases h
  split
  · exact .refl s
  · exact (Produces.refl s).ifThen fun _ => (finishDelivery_produces s).trans (takeCheck_produces _ _)

theorem execCancel_produces {s t : State} (h : execCancel s = .next t) : Produces s t := by
  cases h
  split
  · exact .refl s
  · exact (Produces.refl s).ifThen fun _ => (finishDelivery_produces s).trans (takeCancel_produces _ _)

/-! ### Timers -/

theorem execHeartbeatExpiry_produces {s t : State} (h : execHeartbeatExpiry s = .next t) : Produces s t := by
  cases h
  split
  · exact .refl s
  · rename_i d _
    have hstop : Produces (s.reachTime d) ((s.reachTime d).withView { (s.reachTime d).view with heartbeat := none }) :=
      .of_view rfl
    exact ((reachTime_produces s d).trans hstop).ifThen fun _ => requestStatus_produces _

theorem execAgeingDeadline_produces {k : Nat} {s t : State} (h : execAgeingDeadline k s = .next t) : Produces s t := by
  cases h
  split
  · exact .refl s
  · exact (Produces.refl s).ifElse fun _ =>
      ((reachTime_produces s _).trans (putEntry_produces _ _ _)).trans (raiseView_produces _ _ _)

theorem execSilenceTimerExpiry_produces {s t : State} (h : execSilenceTimerExpiry s = .next t) : Produces s t := by
  cases h
  split
  · exact .refl s
  · rename_i d _
    have hstop : Produces (s.reachTime d) ((s.reachTime d).withView { (s.reachTime d).view with silence := none }) :=
      .of_view rfl
    exact (Produces.refl s).ifThen fun _ =>
      ((reachTime_produces s d).trans hstop).trans (beginCondition_produces (by decide) _)

theorem execWindowExpiry_produces {s t : State} (h : execWindowExpiry s = .next t) : Produces s t := by
  cases h
  split
  · exact (Produces.refl s).ifElse fun _ =>
      ((reachTime_produces s _).trans (stopWindow_produces _)).trans (judgeWindow_produces _)
  · exact .refl s

theorem execHoldExpiry_produces {k : Nat} {s t : State} (h : execHoldExpiry k s = .next t) : Produces s t := by
  cases h
  split
  · exact .refl s
  · exact (reachTime_produces s _).trans (removeForeign_produces _ _)

theorem execDeferExpiry_produces {s t : State} (h : execDeferExpiry s = .next t) : Produces s t := by
  cases h
  split
  · exact (Produces.refl s).ifThen fun _ =>
      ((reachTime_produces s _).trans (stopDeferTimer_produces _)).trans (nextHead_produces _)
  · exact .refl s

theorem execDepartureExpiry_produces {s t : State} (h : execDepartureExpiry s = .next t) : Produces s t := by
  cases h
  split
  · exact .refl s
  · split
    · exact .refl s
    · exact (Produces.refl s).ifElse fun _ => endUndeparted_produces _ _

theorem execTravelExpiry_produces {s t : State} (h : execTravelExpiry s = .next t) : Produces s t := by
  cases h
  split
  · exact .refl s
  · split
    · exact .refl s
    · exact (Produces.refl s).ifElse fun _ => endOverdue_produces _ _ _

theorem execCoilPulseExpiry_produces {s t : State} (h : execCoilPulseExpiry s = .next t) : Produces s t := by
  cases h
  split
  · exact .refl s
  · split
    · exact .refl s
    · exact (Produces.refl s).ifElse fun _ => (reachTime_produces s _).trans (endPulse_produces _ _)

theorem execSettleExpiry_produces {s t : State} (h : execSettleExpiry s = .next t) : Produces s t := by
  cases h
  split
  · exact .refl s
  · split
    · exact .refl s
    · exact (Produces.refl s).ifThen fun _ => (reachTime_produces s _).trans (endDrive_produces _ _ _)

/-! ### The maintenance port -/

theorem execReadIdentity_produces {bytes : List Byte} {s t : State} (h : execReadIdentity bytes s = .next t) :
    Produces s t := by
  cases h
  exact portFrame_produces _ _ _ (fun _ _ _ => respondWith_produces _ _ _ _) _ _

theorem execReadConfig_produces {bytes : List Byte} {s t : State} (h : execReadConfig bytes s = .next t) :
    Produces s t := by
  cases h
  exact portFrame_produces _ _ _ (fun _ _ _ => respondWith_produces _ _ _ _) _ _

theorem execWriteConfig_produces {bytes : List Byte} {s t : State} (h : execWriteConfig bytes s = .next t) :
    Produces s t := by
  cases h
  exact portFrame_produces _ _ _ (fun _ _ _ => writeConfig_produces _ _) _ _

theorem execEraseConfig_produces {bytes : List Byte} {s t : State} (h : execEraseConfig bytes s = .next t) :
    Produces s t := by
  cases h
  exact portFrame_produces _ _ _ (fun _ _ _ => eraseConfig_produces _) _ _

theorem execReadView_produces {bytes : List Byte} {s t : State} (h : execReadView bytes s = .next t) :
    Produces s t := by
  cases h
  exact portFrame_produces _ _ _ (fun _ _ _ => respondWith_produces _ _ _ _) _ _

theorem execReadObject_produces {bytes : List Byte} {s t : State} (h : execReadObject bytes s = .next t) :
    Produces s t := by
  cases h
  exact portFrame_produces _ _ _ (fun _ _ _ => answerReadObject_produces _ _) _ _

theorem execReadClaims_produces {bytes : List Byte} {s t : State} (h : execReadClaims bytes s = .next t) :
    Produces s t := by
  cases h
  exact portFrame_produces _ _ _ (fun _ _ _ => respondWith_produces _ _ _ _) _ _

theorem execReadCounters_produces {bytes : List Byte} {s t : State} (h : execReadCounters bytes s = .next t) :
    Produces s t := by
  cases h
  exact portFrame_produces _ _ _ (fun _ _ _ => respondWith_produces _ _ _ _) _ _

theorem execClearCounters_produces {bytes : List Byte} {s t : State} (h : execClearCounters bytes s = .next t) :
    Produces s t := by
  cases h
  refine portFrame_produces _ _ _ (fun code _ u => ?_) _ _
  have hzero : Produces u (u.withCounters Counters.zero) := .of_counters fun _ => countersBounded_zero
  exact hzero.trans (respondWith_produces _ _ _ _)

theorem execRestart_produces {bytes : List Byte} {s t : State} (h : execRestart bytes s = .next t) :
    Produces s t := by
  cases h
  exact portFrame_produces _ _ _ (fun _ _ _ => restartNode_produces _) _ _

theorem execUnknownCommand_produces {code : Byte} {bytes : List Byte} {s t : State}
    (h : execUnknownCommand code bytes s = .next t) : Produces s t := by
  cases h
  exact portFrame_produces _ _ _ (fun _ _ _ => respondWith_produces _ _ _ _) _ _

theorem execPortByteTimeout_produces {s t : State} (h : execPortByteTimeout s = .next t) : Produces s t := by
  cases h
  split
  · exact .refl s
  · exact (reachTime_produces s _).trans (clearGathered_produces _)

theorem execPortCharacterError_produces {s t : State} (h : execPortCharacterError s = .next t) : Produces s t := by
  cases h
  exact clearGathered_produces s

theorem execPortFrameCheckFailed_produces {bytes : List Byte} {s t : State}
    (h : execPortFrameCheckFailed bytes s = .next t) : Produces s t := by
  cases h
  split
  · rename_i hr
    exact setGathered_of_receive fun hk => by simpa [hr] using hk
  · exact .refl s
  · rename_i hr
    exact setGathered_of_receive fun _ => by simp [hr]
  · exact .refl s

theorem execPortArgumentLengthExceeded_produces {bytes : List Byte} {s t : State}
    (h : execPortArgumentLengthExceeded bytes s = .next t) : Produces s t := by
  cases h
  split
  · rename_i hr
    exact setGathered_of_receive fun hk => by simpa [hr] using hk
  · exact .refl s
  · exact .refl s
  · rename_i hr
    exact setGathered_of_receive fun _ => by simp [hr]

theorem execResponseSent_lawful {s t : State} (h : execResponseSent s = .next t) : Lawful s t := by
  cases h
  split
  · exact .refl s
  · split
    · exact (busyEnded_produces s).lawful
    · exact responseEnded_lawful s

/-! ### Every command -/

theorem exec_lawful {c : Instr} {s t : State} (h : exec c s = .next t) : Lawful s t := by
  cases c with
  | powerOn => cases h; exact resetNode_lawful _ _
  | supplyDip => cases h; exact resetNode_lawful _ _
  | resetLine => cases h; exact resetNode_lawful _ _
  | selfTestEnd => exact (execSelfTestEnd_produces h).lawful
  | listenExpiry => exact (execListenExpiry_produces h).lawful
  | announceExpiry => exact (execAnnounceExpiry_produces h).lawful
  | rawCombinationChange => exact (execRawCombinationChange_produces h).lawful
  | qualificationEvent => exact (execQualificationEvent_produces h).lawful
  | intermediateLimitExpiry => exact (execIntermediateLimitExpiry_produces h).lawful
  | readyInputChange => exact (execReadyInputChange_produces h).lawful
  | readyQualification => exact (execReadyQualification_produces h).lawful
  | sensorInputChange => exact (execSensorInputChange_produces h).lawful
  | sensorQualification => exact (execSensorQualification_produces h).lawful
  | singleInputChange => exact (execSingleInputChange_produces h).lawful
  | singleInputQualification => exact (execSingleInputQualification_produces h).lawful
  | measurementReading => exact (execMeasurementReading_produces h).lawful
  | measurementStateChange => exact (execMeasurementStateChange_produces h).lawful
  | localRequest => exact (execLocalRequest_produces h).lawful
  | selectorChange => exact (execSelectorChange_produces h).lawful
  | positionChangeTaken => exact (execPositionChangeTaken_produces h).lawful
  | attemptStart => exact execAttemptStart_lawful h
  | collision => exact execCollision_lawful h
  | frameSent => exact execFrameSent_lawful h
  | headerReceived => exact execHeaderReceived_lawful h
  | frameEnd => exact (execFrameEnd_produces h).lawful
  | statusTakenByView => exact (execStatusTakenByView_produces h).lawful
  | statusClaimPart => exact (execStatusClaimPart_produces h).lawful
  | releaseTakenByView => exact (execReleaseTakenByView_produces h).lawful
  | releaseTakenByClaims => exact (execReleaseTakenByClaims_produces h).lawful
  | claim => exact (execClaim_produces h).lawful
  | assent => exact (execAssent_produces h).lawful
  | object => exact (execObject_produces h).lawful
  | request => exact (execRequest_produces h).lawful
  | check => exact (execCheck_produces h).lawful
  | cancel => exact (execCancel_produces h).lawful
  | viewChange => exact (execViewChange_produces h).lawful
  | heartbeatExpiry => exact (execHeartbeatExpiry_produces h).lawful
  | ageingDeadline => exact (execAgeingDeadline_produces h).lawful
  | silenceTimerExpiry => exact (execSilenceTimerExpiry_produces h).lawful
  | windowExpiry => exact (execWindowExpiry_produces h).lawful
  | holdExpiry => exact (execHoldExpiry_produces h).lawful
  | deferExpiry => exact (execDeferExpiry_produces h).lawful
  | departureExpiry => exact (execDepartureExpiry_produces h).lawful
  | travelExpiry => exact (execTravelExpiry_produces h).lawful
  | coilPulseExpiry => exact (execCoilPulseExpiry_produces h).lawful
  | settleExpiry => exact (execSettleExpiry_produces h).lawful
  | readIdentity => exact (execReadIdentity_produces h).lawful
  | readConfig => exact (execReadConfig_produces h).lawful
  | writeConfig => exact (execWriteConfig_produces h).lawful
  | eraseConfig => exact (execEraseConfig_produces h).lawful
  | readView => exact (execReadView_produces h).lawful
  | readObject => exact (execReadObject_produces h).lawful
  | readClaims => exact (execReadClaims_produces h).lawful
  | readCounters => exact (execReadCounters_produces h).lawful
  | clearCounters => exact (execClearCounters_produces h).lawful
  | restart => exact (execRestart_produces h).lawful
  | unknownCommand => exact (execUnknownCommand_produces h).lawful
  | portByteTimeout => exact (execPortByteTimeout_produces h).lawful
  | responseSent => exact execResponseSent_lawful h
  | portFrameCheckFailed => exact (execPortFrameCheckFailed_produces h).lawful
  | portCharacterError => exact (execPortCharacterError_produces h).lawful
  | portArgumentLengthExceeded => exact (execPortArgumentLengthExceeded_produces h).lawful

theorem tick_lawful (s : State) : Lawful s (tick s) :=
  (Produces.of_free ((touches_withNow s _).mono (by decide))).lawful

theorem Lawful.of_withPending {s t : State} (x : List Instr) (h : Lawful (s.withPending x) t) : Lawful s t where
  toKeeps := (Keeps.of_touches (touches_withPending s x)).trans h.toKeeps
  link := h.link

/-- Every step keeps the laws. -/
theorem step_lawful {s t : State} (h : step s = .next t) : Lawful s t :=
  step_rel Lawful.of_withPending tick_lawful exec_lawful h

/-- Settles O13: no operation puts a position without its combination. -/
theorem stepsKeepPositionsFollowingCombinations : Obligations.StepsKeepPositionsFollowingCombinations :=
  fun _ _ hs h => (step_lawful h).positions hs

/-- Settles O56: the copy goes with the phase, and every change of the flags, the store or the copy takes the relay
anew; no operation begins TRAVEL_FAIL as a condition. -/
theorem stepsKeepTheRelay : Obligations.StepsKeepTheRelay :=
  fun _ _ h => ⟨(step_lawful h).copy, (step_lawful h).relay, (step_lawful h).travel⟩

/-- Settles O58: an ASSENT is recorded over no node of the own claim, and a claim starts clear of the records. -/
theorem stepsKeepPromises : Obligations.StepsKeepPromises := fun _ _ hs h => (step_lawful h).promises hs

end Sys2Proof.Machine

namespace Sys2Proof.Machine

/-! ### States between two acts on the head

A claim or a drive that ends leaves the node for a moment with nothing claimed and nothing driven, and a head whose state
says otherwise; the head start or the deferral that follows brings the two together again. -/

/-- The Travel Supervisor is IDLE, and no object is under command. -/
structure Undriven (s : State) : Prop where
  drive : s.drive = Drive.idle
  commanded : ∀ k, (objIn s k).commanded = false

/-- Nothing is driven, and nothing is claimed. -/
structure Resting (s : State) : Prop extends Undriven s where
  own : s.claims.own = none
  answers : s.claims.answers = []
  window : s.claims.window = none

/-- The next head start may begin. -/
structure Startable (s : State) : Prop extends Resting s where
  queue : QueueOk s.req.queue
  timer : s.req.deferTimer = none

/-- The own claim is HELD for the head, and the grant is still to be handled (R130). -/
structure GrantHeld (s : State) (op : Operation) : Prop extends Undriven s where
  head : headOp s = some op
  held : heldFor s.claims.own op.object op.dir
  answers : s.claims.answers = []
  window : s.claims.window = none
  queue : QueueOk s.req.queue
  timer : s.req.deferTimer = none

/-- The laws of the head operation, the own claim and the drive. -/
def Sound (s : State) : Prop := DriveCoherent s ∧ TimersFollowStates s ∧ DriveFollowsContacts s

/-- What an act on the head leaves: a sound state, or, where the operation ended, a shorter queue to start from. -/
def Started (n : Nat) (r : State × Bool) : Prop :=
  (r.2 = false → Sound r.1) ∧ (r.2 = true → Startable r.1 ∧ r.1.req.queue.length < n)

/-! ### What each of them needs of the state -/

theorem Undriven.of_touches {ps : List Part} {s t : State} (h : Undriven s) (ht : Touches ps s t)
    (hd : Part.drive ∉ ps) (ho : Part.objects ∉ ps) : Undriven t :=
  ⟨Eq.trans (ht .drive hd) h.drive, fun k => by rw [objIn_congr (ht .objects ho)]; exact h.commanded k⟩

theorem Resting.of_touches {ps : List Part} {s t : State} (h : Resting s) (ht : Touches ps s t)
    (hd : Part.drive ∉ ps) (ho : Part.objects ∉ ps) (hc : Part.claims ∉ ps) : Resting t := by
  have hcl : t.claims = s.claims := ht .claims hc
  exact ⟨h.toUndriven.of_touches ht hd ho, hcl ▸ h.own, hcl ▸ h.answers, hcl ▸ h.window⟩

theorem Startable.of_touches {ps : List Part} {s t : State} (h : Startable s) (ht : Touches ps s t)
    (hd : Part.drive ∉ ps) (ho : Part.objects ∉ ps) (hc : Part.claims ∉ ps) (hr : Part.req ∉ ps) : Startable t := by
  have hrq : t.req = s.req := ht .req hr
  exact ⟨h.toResting.of_touches ht hd ho hc, hrq ▸ h.queue, hrq ▸ h.timer⟩

theorem outputsFollowRecord_idle : OutputsFollowRecord Drive.idle := rfl

theorem sound_of_undriven {s : State} (h : Undriven s) (hq : QueueOk s.req.queue)
    (hh : headAgrees (headOp s) s.claims.own none) (ht : TimersFollowStates s) : Sound s := by
  have hrec : s.drive.record = none := by rw [h.drive]; rfl
  refine ⟨⟨hq, hrec ▸ hh, h.drive ▸ outputsFollowRecord_idle, fun k => ?_⟩, ht, fun d hd => ?_⟩
  · simp [h.commanded k, hrec]
  · simp [hrec] at hd

/-! ### The queue of operations -/

theorem headOp_eq_some_iff {s : State} {op : Operation} :
    headOp s = some op ↔ ∃ rest, s.req.queue = op :: rest := by
  cases hq : s.req.queue <;> simp [headOp, hq]

theorem QueueOk.filter {q : List Operation} (h : QueueOk q) (p : Operation → Bool) : QueueOk (q.filter p) := by
  obtain ⟨htail, hnames⟩ := h
  refine ⟨fun op hop => htail op ?_, hnames.sublist List.filter_sublist⟩
  cases q with
  | nil => cases hop
  | cons x rest =>
    rw [List.filter_cons] at hop
    split at hop
    · exact (List.mem_filter.1 hop).1
    · exact (List.mem_filter.1 (List.mem_of_mem_tail hop)).1

theorem QueueOk.replace_head {op op' : Operation} {rest : List Operation} (h : QueueOk (op :: rest))
    (hr : op'.requester = op.requester) (ht : op'.tag = op.tag) : QueueOk (op' :: rest) := by
  obtain ⟨htail, hnames⟩ := h
  obtain ⟨hhead, hrest⟩ := List.pairwise_cons.1 hnames
  exact ⟨htail, List.pairwise_cons.2 ⟨fun x hx => by rw [namesDiffer, hr, ht]; exact hhead x hx, hrest⟩⟩

theorem setHead_queue {s : State} {op op' : Operation} {rest : List Operation} (h : s.req.queue = op :: rest) :
    (setHead op' s).req.queue = op' :: rest := by
  simp [setHead, h]

@[simp] theorem setHead_deferTimer (op : Operation) (s : State) :
    (setHead op s).req.deferTimer = s.req.deferTimer := rfl

@[simp] theorem setHead_claims (op : Operation) (s : State) : (setHead op s).claims = s.claims := rfl

theorem Undriven.setHead {s : State} (h : Undriven s) (op : Operation) : Undriven (setHead op s) :=
  h.of_touches (setHead_touches op s) (by decide) (by decide)

theorem Startable.setHead {s : State} {op op' : Operation} (h : Startable s) (hop : headOp s = some op)
    (hr : op'.requester = op.requester) (ht : op'.tag = op.tag) : Startable (setHead op' s) := by
  obtain ⟨rest, hq⟩ := headOp_eq_some_iff.1 hop
  refine ⟨h.toResting.of_touches (setHead_touches op' s) (by decide) (by decide) (by decide), ?_, h.timer⟩
  rw [setHead_queue hq]
  exact (hq ▸ h.queue).replace_head hr ht

@[simp] theorem headOp_setHead (op : Operation) (s : State) : headOp (setHead op s) = some op := rfl

theorem setHead_length {s : State} {op op' : Operation} (h : headOp s = some op) :
    (setHead op' s).req.queue.length = s.req.queue.length := by
  obtain ⟨rest, hq⟩ := headOp_eq_some_iff.1 h
  simp [setHead, hq]

/-! ### The ends of a claim and of an operation -/

theorem claimToIdle_claims (id : Byte) (cause : EndCause) (o : Option Objection) (s : State) :
    (claimToIdle id cause o s).claims =
      { s.claims with
        own := none, answers := [], window := none
        lastEnding := some { id := id, cause := cause, objection := o } } := by
  rw [claimToIdle, show (ownChanged _).claims = _ from ownChanged_touches _ .claims (by decide)]
  rfl

/-- The Claim Manager after the end of a HELD claim (R109). -/
theorem endHeldClaim_claims {s : State} {c : OwnClaim} (h : s.claims.own = some c) (driven : Bool) :
    (endHeldClaim driven s).claims =
      { s.claims with
        own := none, answers := [], window := none
        lastEnding := some
          { id := c.id, cause := if driven then .travelEnded else .notDriven, objection := none } } := by
  have hrel (form : Option (Nat × Position)) : (handRelease c.id form s).claims = s.claims :=
    handRelease_touches c.id form s .claims (by decide)
  simp only [endHeldClaim, h, claimToIdle_claims]
  split
  · rfl
  · rw [hrel]

/-- The Claim Manager after a withdrawal (R109). -/
theorem withdrawClaim_claims {s : State} {c : OwnClaim} (h : s.claims.own = some c) (cause : EndCause)
    (o : Option Objection) :
    (withdrawClaim cause o s).claims =
      { s.claims with
        own := none, answers := [], window := none
        lastEnding := some { id := c.id, cause := cause, objection := o } } := by
  have hrel (x : State) : (handRelease c.id none x).claims = x.claims :=
    handRelease_touches c.id none x .claims (by decide)
  have hrem : (removeClaim s).claims = s.claims := removeClaim_touches s .claims (by decide)
  simp only [withdrawClaim, h, claimToIdle_claims]
  rw [show (countWithdrawn (handRelease c.id none (removeClaim s))).claims = _ from hrel _, hrem]

theorem endHeldClaim_of_none {s : State} (h : s.claims.own = none) (driven : Bool) : endHeldClaim driven s = s := by
  simp [endHeldClaim, h]

theorem withdrawClaim_of_none {s : State} (h : s.claims.own = none) (cause : EndCause) (o : Option Objection) :
    withdrawClaim cause o s = s := by
  simp [withdrawClaim, h]

theorem Undriven.endHeldClaim {s : State} {c : OwnClaim} (h : Undriven s) (hown : s.claims.own = some c)
    (driven : Bool) : Resting (endHeldClaim driven s) := by
  have hcl := endHeldClaim_claims hown driven
  exact ⟨h.of_touches (endHeldClaim_touches driven s) (by decide) (by decide), by rw [hcl], by rw [hcl], by rw [hcl]⟩

theorem Undriven.withdrawClaim {s : State} {c : OwnClaim} (h : Undriven s) (hown : s.claims.own = some c)
    (cause : EndCause) (o : Option Objection) : Resting (withdrawClaim cause o s) := by
  have hcl := withdrawClaim_claims hown cause o
  exact ⟨h.of_touches (withdrawClaim_touches cause o s) (by decide) (by decide), by rw [hcl], by rw [hcl], by rw [hcl]⟩

/-- What an operation's end does after the end of its claim: the answer, the counter, and its leaving (R134). -/
def answeredEnd (op : Operation) (o : OpOutcome) (r : Reason) (s : State) : State :=
  let s := answerEnd op o r s
  leaveQueue op (s.withCounters (countEnd o s.counters))

theorem endOperation_eq (op : Operation) (o : OpOutcome) (r : Reason) (s : State) :
    endOperation op o r s = answeredEnd op o r (if isDriven op then endHeldClaim true s else s) := rfl

theorem answeredEnd_touches (op : Operation) (o : OpOutcome) (r : Reason) (s : State) :
    Touches [.link, .counters, .req, .view] s (answeredEnd op o r s) :=
  (((answerEnd_touches op o r s).trans (touches_withCounters _ _)).trans (leaveQueue_touches _ _)).mono (by decide)

theorem answerEnd_deferTimer (op : Operation) (o : OpOutcome) (r : Reason) (s : State) :
    (answerEnd op o r s).req.deferTimer = s.req.deferTimer := by
  unfold answerEnd
  split
  · rw [show (handUrgent _ s).req = s.req from handUrgent_touches _ s .req (by decide)]
  · unfold setLastLocal
    split
    · rfl
    · rw [show (ownChanged _).req = _ from ownChanged_touches _ .req (by decide)]
      rfl

/-- The defer timer after the end of an operation: stopped when it was DEFERRED (R132). -/
theorem endOperation_deferTimer (op : Operation) (o : OpOutcome) (r : Reason) (s : State) :
    (endOperation op o r s).req.deferTimer = if op.state = .deferred then none else s.req.deferTimer := by
  have hreq : (if isDriven op then endHeldClaim true s else s).req = s.req := by
    split
    · exact endHeldClaim_touches true s .req (by decide)
    · rfl
  rw [endOperation_eq, answeredEnd, leaveQueue]
  simp only [State.withReq_req, State.withCounters_req, answerEnd_deferTimer, hreq]

theorem endOperation_length_le (op : Operation) (o : OpOutcome) (r : Reason) (s : State) :
    (endOperation op o r s).req.queue.length ≤ s.req.queue.length := by
  rw [endOperation_queue]
  exact List.length_filter_le _ _

/-- The head that ends leaves a shorter queue. -/
theorem endOperation_length_lt {op op' : Operation} {s : State} (hop : headOp s = some op)
    (hr : op'.requester = op.requester) (ht : op'.tag = op.tag) (o : OpOutcome) (r : Reason) :
    (endOperation op' o r s).req.queue.length < s.req.queue.length := by
  obtain ⟨rest, hq⟩ := headOp_eq_some_iff.1 hop
  rw [endOperation_queue, hq, List.filter_cons]
  have hname : isNamed op'.requester op'.tag op = true := by simp [isNamed, hr, ht]
  simp only [hname, Bool.not_true, Bool.false_eq_true, if_false, List.length_cons]
  exact Nat.lt_succ_of_le (List.length_filter_le _ _)

theorem Resting.endOperation {s : State} (h : Resting s) (op : Operation) (o : OpOutcome) (r : Reason) :
    Resting (endOperation op o r s) := by
  rw [endOperation_eq, endHeldClaim_of_none h.own, ite_self]
  exact h.of_touches (answeredEnd_touches op o r s) (by decide) (by decide) (by decide)

theorem Undriven.endOperation {s : State} {c : OwnClaim} {op : Operation} (h : Undriven s)
    (hown : s.claims.own = some c) (hop : isDriven op = true) (o : OpOutcome) (r : Reason) :
    Resting (endOperation op o r s) := by
  rw [endOperation_eq, if_pos hop]
  exact (h.endHeldClaim hown true).of_touches (answeredEnd_touches op o r _) (by decide) (by decide) (by decide)

/-- The end of an operation while nothing is claimed or driven; the defer timer has stopped, or stops with it. -/
theorem Resting.startable {s : State} (h : Resting s) (hq : QueueOk s.req.queue) {op : Operation}
    (ht : op.state ≠ .deferred → s.req.deferTimer = none) (o : OpOutcome) (r : Reason) :
    Startable (Machine.endOperation op o r s) := by
  refine ⟨h.endOperation op o r, ?_, ?_⟩
  · rw [endOperation_queue]
    exact hq.filter _
  · rw [endOperation_deferTimer]
    split
    · rfl
    · exact ht ‹_›

theorem Startable.endOperation {s : State} (h : Startable s) (op : Operation) (o : OpOutcome) (r : Reason) :
    Startable (endOperation op o r s) := h.toResting.startable h.queue (fun _ => h.timer) o r

/-! ### The acts on the head -/

theorem started_ended {s : State} {op op' : Operation} (h : Startable s) (hop : headOp s = some op)
    (hr : op'.requester = op.requester) (ht : op'.tag = op.tag) (o : OpOutcome) (r : Reason) :
    Started s.req.queue.length (endOperation op' o r s, true) :=
  ⟨nofun, fun _ => ⟨h.endOperation op' o r, endOperation_length_lt hop hr ht o r⟩⟩

theorem timers_of_resting {s : State} (h : Resting s)
    (ht : s.req.deferTimer.isSome = true ↔ ∃ op, headOp s = some op ∧ op.state = .deferred) : TimersFollowStates s :=
  ⟨fun _ => ⟨h.answers, h.window⟩, ht⟩

/-- A deferral (R131) of a head of whom nothing is claimed: DEFERRED with its timer running, or ended. -/
theorem deferHead_started {s : State} {op : Operation} (h : Startable s) (hop : headOp s = some op) (r : Reason) :
    Started s.req.queue.length (deferHead r s) := by
  unfold deferHead
  simp only [hop]
  split
  · obtain ⟨rest, hq⟩ := headOp_eq_some_iff.1 hop
    refine ⟨fun _ => ?_, nofun⟩
    set op' : Operation := { op with state := .deferred, deferCount := op.deferCount + 1, lastDeferral := some r }
    have hrest : Resting ((setHead op' s).withReq { (setHead op' s).req with
        deferTimer := some ((setHead op' s).now + fieldOf (setHead op' s) (·.deferInterval)) }) :=
      (h.setHead hop rfl rfl).toResting.of_touches (touches_withReq _ _) (by decide) (by decide) (by decide)
    refine sound_of_undriven hrest.toUndriven ?_ ⟨hrest.own, rfl⟩ (timers_of_resting hrest ?_)
    · simpa [setHead_queue hq] using (hq ▸ h.queue).replace_head (op' := op') rfl rfl
    · simp [headOp, setHead, op']
  · exact started_ended h hop rfl rfl _ _

theorem heldFor_iff {own : Option OwnClaim} {k : Nat} {dir : Direction} :
    heldFor own k dir ↔ ∃ c, own = some c ∧ c.held = true ∧ c.object = k ∧ c.dir = dir := by
  cases own <;> simp [heldFor]

/-- A grant withdrawn before travel (R130): nothing is claimed any longer. -/
theorem GrantHeld.released {s : State} {op : Operation} (h : GrantHeld s op) : Startable (endHeldClaim false s) := by
  obtain ⟨c, hown, _⟩ := heldFor_iff.1 h.held
  have hreq : (endHeldClaim false s).req = s.req := endHeldClaim_touches false s .req (by decide)
  exact ⟨h.toUndriven.endHeldClaim hown false, hreq ▸ h.queue, hreq ▸ h.timer⟩

theorem GrantHeld.setHead {s : State} {op op' : Operation} (h : GrantHeld s op) (hr : op'.requester = op.requester)
    (ht : op'.tag = op.tag) (ho : op'.object = op.object) (hd : op'.dir = op.dir) : GrantHeld (setHead op' s) op' := by
  obtain ⟨rest, hq⟩ := headOp_eq_some_iff.1 h.head
  refine ⟨h.toUndriven.setHead op', headOp_setHead _ _, ?_, h.answers, h.window, ?_, h.timer⟩
  · rw [ho, hd]
    exact h.held
  · rw [setHead_queue hq]
    exact (hq ▸ h.queue).replace_head hr ht

theorem endHeldClaim_headOp (driven : Bool) (s : State) : headOp (endHeldClaim driven s) = headOp s := by
  rw [headOp, show (endHeldClaim driven s).req = s.req from endHeldClaim_touches driven s .req (by decide), headOp]

theorem endHeldClaim_queue (driven : Bool) (s : State) : (endHeldClaim driven s).req.queue = s.req.queue := by
  rw [show (endHeldClaim driven s).req = s.req from endHeldClaim_touches driven s .req (by decide)]

/-- A drive start under a HELD claim (R149). -/
theorem GrantHeld.drive_started {s : State} {op : Operation} (h : GrantHeld s op) (hst : op.state = .travelling)
    (d : ObjDesc) : Sound (startDrive d op s) := by
  have hreq : (startDrive d op s).req = s.req := startDrive_touches d op s .req (by decide)
  have hcl : (startDrive d op s).claims = s.claims := startDrive_touches d op s .claims (by decide)
  have hhead : headOp (startDrive d op s) = some op := by rw [headOp, hreq]; exact h.head
  have hrec : (startDrive d op s).drive.record = some (newDrive (setCommanded op.object s) d op) := by
    cases hd : op.dir <;> simp [startDrive, energize, hd]
  refine ⟨⟨hreq ▸ h.queue, ?_, ?_, fun k => ?_⟩, ⟨fun _ => ?_, ?_⟩, fun r hr => ?_⟩
  · rw [hhead, headAgrees, hst, hcl, hrec]
    exact ⟨h.held, rfl, rfl, rfl, nofun⟩
  · have hdrive : (setCommanded op.object s).drive = Drive.idle := h.drive
    cases hd : op.dir <;>
      simp [OutputsFollowRecord, startDrive, energize, hd, outputsOf, newDrive, hdrive, Drive.idle]
  · rw [hrec]
    have hobj : objIn (startDrive d op s) k = objIn (setCommanded op.object s) k := rfl
    rw [hobj, setCommanded]
    by_cases hk : k = op.object
    · simp [hk, newDrive]
    · simp [objIn_putObj_other s _ hk, h.commanded k, newDrive, Ne.symm hk]
  · exact hcl ▸ ⟨h.answers, h.window⟩
  · rw [hreq, hhead, h.timer]
    simp [hst]
  · cases Option.some.inj (hrec.symm.trans hr)
    exact ⟨rfl, rfl, fun _ => ⟨by simp [newDrive], nofun⟩, nofun⟩

/-- Grant handling (R130). -/
theorem grantHandling_started {s : State} {op : Operation} (h : GrantHeld s op) :
    Started s.req.queue.length (grantHandling s) := by
  unfold grantHandling
  simp only [h.head]
  split
  · have hend := started_ended (op' := op) h.released ((endHeldClaim_headOp false s).trans h.head) rfl rfl .refused
      (evaluate s op.object op.dir op.source).reason
    rwa [endHeldClaim_queue] at hend
  · set op₁ : Operation := { op with bypassReason := bypassReasonOf (evaluate s op.object op.dir op.source) }
    have h₁ : GrantHeld (setHead op₁ s) op₁ := h.setHead rfl rfl rfl rfl
    have hdefer := deferHead_started h₁.released ((endHeldClaim_headOp false _).trans h₁.head) .notReady
    rw [endHeldClaim_queue, setHead_length h.head] at hdefer
    split
    · exact hdefer
    · split
      · exact ⟨fun _ => (h₁.setHead (op' := { op₁ with state := .travelling }) rfl rfl rfl rfl).drive_started rfl _,
          nofun⟩
      · exact hdefer

/-- A claim taken up HELD or CLAIMING, with the parts that the queue and the drive leave alone. -/
theorem ownChanged_withClaims_claims (s : State) (x : Claims) : (ownChanged (s.withClaims x)).claims = x :=
  ownChanged_touches (s.withClaims x) .claims (by decide)

/-- The claim step of a head start (R128 step 4). -/
theorem claimStep_started {s : State} {op : Operation} (h : Startable s) (hop : headOp s = some op) (nodes : NodeSet) :
    Started s.req.queue.length (claimStep op nodes s) := by
  unfold claimStep startClaim
  dsimp only
  split_ifs with hempty hforeign hbusy
  · set u := countGranted (ownChanged (s.withClaims
      { s.claims with own := some (newClaim s op nodes), nextId := s.claims.nextId + 1 }))
    have hu : Touches [.claims, .view, .link, .counters] s u :=
      (((touches_withClaims s _).trans (ownChanged_touches _)).trans (countGranted_touches _)).mono (by decide)
    have hreq : u.req = s.req := hu .req (by decide)
    have hcl : u.claims = { s.claims with own := some (newClaim s op nodes), nextId := s.claims.nextId + 1 } :=
      ownChanged_withClaims_claims s _
    have hg : GrantHeld u op := by
      refine ⟨h.toUndriven.of_touches hu (by decide) (by decide), ?_, ?_, ?_, ?_, hreq ▸ h.queue, hreq ▸ h.timer⟩
      · rw [headOp, hreq]; exact hop
      · rw [hcl]; exact ⟨by simp [newClaim, hempty], rfl, rfl⟩
      · rw [hcl]; exact h.answers
      · rw [hcl]; exact h.window
    exact hreq ▸ grantHandling_started hg
  · exact deferHead_started h hop _
  · exact deferHead_started h hop _
  · set v := handClaim (newClaim s op nodes).id (claimFrame s (newClaim s op nodes)) s
    have hv : Touches [.link] s v := handClaim_touches _ _ s
    set u := ownChanged (v.withClaims
      { v.claims with
        own := some (newClaim s op nodes), nextId := v.claims.nextId + 1, answers := freshAnswers v nodes })
    have hu : Touches [.link, .claims, .view] s u :=
      (hv.trans ((touches_withClaims v _).trans (ownChanged_touches _))).mono (by decide)
    have hreq : u.req = s.req := hu .req (by decide)
    have hcl : u.claims.own = some (newClaim s op nodes) := by
      rw [show u.claims = _ from ownChanged_withClaims_claims v _]
    have hhead : headOp u = some op := by rw [headOp, hreq]; exact hop
    obtain ⟨rest, hq⟩ := headOp_eq_some_iff.1 hhead
    have hheld : (newClaim s op nodes).held = false := by simpa [newClaim] using hempty
    refine ⟨fun _ => sound_of_undriven ((h.toUndriven.of_touches hu (by decide) (by decide)).setHead _) ?_ ?_ ?_, nofun⟩
    · rw [setHead_queue hq]
      have hok : QueueOk (op :: rest) := by
        rw [← hq, hreq]
        exact h.queue
      exact hok.replace_head rfl rfl
    · rw [headOp_setHead, setHead_claims, hcl]
      exact ⟨⟨hheld, rfl, rfl⟩, rfl⟩
    · refine ⟨fun hno => ?_, ?_⟩
      · simp [ownHolds, hcl, hheld] at hno
      · rw [headOp_setHead, setHead_deferTimer, hreq, h.timer]
        simp

/-- The steps of a head start (R128). -/
theorem startHead_started {s : State} {op : Operation} (h : Startable s) (hop : headOp s = some op) :
    Started s.req.queue.length (startHead op s) := by
  unfold startHead
  dsimp only
  split
  · exact started_ended h hop rfl rfl _ _
  · split
    · exact started_ended h hop rfl rfl _ _
    · rename_i l _
      set op₁ : Operation := { op with travelLimit := some l }
      have h₁ : Startable (setHead op₁ s) := h.setHead hop rfl rfl
      have hlen := setHead_length (op' := op₁) hop
      split
      · exact hlen ▸ started_ended (op' := op₁) h₁ (headOp_setHead _ _) rfl rfl _ _
      · set op₂ : Operation :=
          { op₁ with bypassReason := bypassReasonOf (evaluate (setHead op₁ s) op.object op.dir op.source) }
        have h₂ : Startable (setHead op₂ (setHead op₁ s)) := h₁.setHead (headOp_setHead _ _) rfl rfl
        have hstep := claimStep_started (op := op₂) h₂ (headOp_setHead _ _) ‹_›
        rwa [setHead_length (headOp_setHead _ _), hlen] at hstep

theorem headStart_started {s : State} {op : Operation} (h : Startable s) (hop : headOp s = some op) :
    Started s.req.queue.length (headStart s) := by
  have hreq : (seePositions op s).req = s.req := seePositions_touches op s .req (by decide)
  have hsee : Startable (seePositions op s) :=
    h.of_touches (seePositions_touches op s) (by decide) (by decide) (by decide) (by decide)
  unfold headStart
  simp only [hop]
  have hstart := startHead_started hsee (op := op) (by rw [headOp, hreq]; exact hop)
  rwa [hreq] at hstart

/-- A queue with nothing in it, with nothing claimed or driven. -/
theorem Startable.sound_of_nil {s : State} (h : Startable s) (hnil : s.req.queue = []) : Sound s := by
  have hnone : headOp s = none := by simp [headOp, hnil]
  refine sound_of_undriven h.toUndriven h.queue ?_ (timers_of_resting h.toResting ?_)
  · rw [hnone]
    exact ⟨h.own, rfl⟩
  · simp [hnone, h.timer]

/-- Head starts, as many as the queue holds operations, end with a head that stands or an empty queue (R122, R128). -/
theorem runHeads_sound (n : Nat) {s : State} (h : Startable s) (hn : s.req.queue.length ≤ n) :
    Sound (runHeads n s) := by
  induction n generalizing s with
  | zero => exact h.sound_of_nil (List.length_eq_zero_iff.1 (Nat.le_zero.1 hn))
  | succ n ih =>
    unfold runHeads
    cases hop : headOp s with
    | none =>
      refine h.sound_of_nil ?_
      simpa [headOp] using hop
    | some op =>
      obtain ⟨hgo, hend⟩ := headStart_started h hop
      dsimp only
      split
      · rename_i hflag
        obtain ⟨hs, hlen⟩ := hend hflag
        exact ih hs (by omega)
      · rename_i hflag
        exact hgo (by simpa using hflag)

theorem nextHead_sound {s : State} (h : Startable s) : Sound (nextHead s) := runHeads_sound _ h (le_refl _)

theorem followUp_sound {n : Nat} {r : State × Bool} (h : Started n r) : Sound (followUp r) := by
  unfold followUp
  split
  · exact nextHead_sound (h.2 ‹_›).1
  · exact h.1 (by simpa using ‹¬ r.2 = true›)

end Sys2Proof.Machine

namespace Sys2Proof.Machine

/-! ### Changes that keep the head, the claim and the drive in agreement -/

/-- The laws of the head operation, the own claim and the drive, kept from one state to another. -/
def Steady (s t : State) : Prop :=
  DriveCoherent s → TimersFollowStates s →
    DriveCoherent t ∧ TimersFollowStates t ∧ (DriveFollowsContacts s → DriveFollowsContacts t)

theorem Steady.refl (s : State) : Steady s s := fun hd ht => ⟨hd, ht, id⟩

theorem Steady.trans {s t u : State} (h : Steady s t) (g : Steady t u) : Steady s u := by
  intro hd ht
  obtain ⟨hd', ht', hf⟩ := h hd ht
  obtain ⟨hd'', ht'', hf'⟩ := g hd' ht'
  exact ⟨hd'', ht'', hf' ∘ hf⟩

theorem Sound.steady {s t : State} (h : Sound t) : Steady s t := fun _ _ => ⟨h.1, h.2.1, fun _ => h.2.2⟩

theorem Steady.ifThen {c : Prop} [Decidable c] {s t : State} (h : c → Steady s t) : Steady s (if c then t else s) := by
  split
  · exact h ‹_›
  · exact .refl s

theorem Steady.ifElse {c : Prop} [Decidable c] {s t : State} (h : ¬ c → Steady s t) :
    Steady s (if c then s else t) := by
  split
  · exact .refl s
  · exact h ‹_›

/-- What the head operation and the drive know of the own claim: whether it is HELD, its object and its direction. -/
def claimKey (c : OwnClaim) : Bool × Nat × Direction := (c.held, c.object, c.dir)

theorem claimingFor_iff_key {own : Option OwnClaim} {k : Nat} {dir : Direction} :
    claimingFor own k dir ↔ own.map claimKey = some (false, k, dir) := by
  cases own <;> simp [claimingFor, claimKey]

theorem heldFor_iff_key {own : Option OwnClaim} {k : Nat} {dir : Direction} :
    heldFor own k dir ↔ own.map claimKey = some (true, k, dir) := by
  cases own <;> simp [heldFor, claimKey]

theorem headAgrees_congr {head : Option Operation} {own own' : Option OwnClaim} {record : Option DriveRecord}
    (h : own'.map claimKey = own.map claimKey) : headAgrees head own' record ↔ headAgrees head own record := by
  have hnone : own' = none ↔ own = none := by
    rw [← Option.map_eq_none_iff (f := claimKey), h, Option.map_eq_none_iff]
  have hc (k : Nat) (dir : Direction) : claimingFor own' k dir ↔ claimingFor own k dir := by
    rw [claimingFor_iff_key, h, claimingFor_iff_key]
  have hh (k : Nat) (dir : Direction) : heldFor own' k dir ↔ heldFor own k dir := by
    rw [heldFor_iff_key, h, heldFor_iff_key]
  cases head with
  | none => simp [headAgrees, hnone]
  | some op => cases hst : op.state <;> simp [headAgrees, hst, hnone, hc, hh]

theorem ownHolds_eq (s : State) (b : Bool) :
    ownHolds s b = ((s.claims.own.map claimKey).any fun key => key.1 == b) := by
  unfold ownHolds
  cases s.claims.own <;> rfl

/-- A change that keeps all that these laws speak of. -/
theorem Steady.of_same {s t : State} (hq : t.req.queue = s.req.queue) (ht : t.req.deferTimer = s.req.deferTimer)
    (hc : t.claims = s.claims) (hd : t.drive = s.drive) (hcom : ∀ k, (objIn t k).commanded = (objIn s k).commanded)
    (hqual : ∀ k, (objIn t k).qualified = (objIn s k).qualified) : Steady s t := by
  rintro ⟨hqueue, hh, hout, hcomm⟩ ⟨htimers, htimer⟩
  refine ⟨⟨hq ▸ hqueue, ?_, hd ▸ hout, fun k => ?_⟩, ⟨?_, ?_⟩, fun hf d hdt => ?_⟩
  · rw [headOp, hq, hc, hd]
    exact hh
  · rw [hcom, hd]
    exact hcomm k
  · rw [ownHolds, hc]
    exact htimers
  · rw [headOp, hq, ht]
    exact htimer
  · rw [hqual]
    exact hf d (hd ▸ hdt)

/-- A change of parts of which none of these laws speaks. -/
theorem Steady.of_touches {ps : List Part} {s t : State} (h : Touches ps s t) (hr : Part.req ∉ ps)
    (hc : Part.claims ∉ ps) (hd : Part.drive ∉ ps) (ho : Part.objects ∉ ps) : Steady s t := by
  have hreq : t.req = s.req := h .req hr
  have hobj (k : Nat) : objIn t k = objIn s k := objIn_congr (h .objects ho) k
  exact .of_same (by rw [hreq]) (by rw [hreq]) (h .claims hc) (h .drive hd) (fun k => by rw [hobj])
    fun k => by rw [hobj]

/-- A change of the Claim Manager that keeps what the head knows of the own claim. -/
theorem Steady.of_claims {s : State} {x : Claims} (hown : x.own.map claimKey = s.claims.own.map claimKey)
    (ht : TimersFollowStates s → ownHolds s false = false → x.answers = [] ∧ x.window = none) :
    Steady s (s.withClaims x) := by
  rintro ⟨hq, hh, hout, hcom⟩ htimers
  refine ⟨⟨hq, (headAgrees_congr hown).2 hh, hout, hcom⟩, ⟨fun hidle => ht htimers ?_, htimers.2⟩, id⟩
  rw [ownHolds_eq] at hidle ⊢
  rwa [← hown]

theorem Steady.of_foreign {s : State} (x : Table ForeignRec) :
    Steady s (s.withClaims { s.claims with foreign := x }) :=
  .of_claims rfl fun ⟨ht, _⟩ hidle => ht hidle

/-- A change of an object's state that leaves its combination and its commanded flag. -/
theorem Steady.of_putObj {s : State} {k : Nat} {o : ObjIn} (hc : o.commanded = (objIn s k).commanded)
    (hq : o.qualified = (objIn s k).qualified) : Steady s (s.putObj k o) := by
  refine .of_same rfl rfl rfl rfl (fun j => ?_) fun j => ?_
  · by_cases hj : j = k
    · simp [hj, hc]
    · rw [objIn_putObj_other s o hj]
  · by_cases hj : j = k
    · simp [hj, hq]
    · rw [objIn_putObj_other s o hj]

/-! ### The head of a coherent state -/

/-- While the Travel Supervisor is IDLE nothing is energized and no object is under command. -/
theorem undriven_of_record_none {s : State} (h : DriveCoherent s) (hrec : s.drive.record = none) : Undriven s := by
  obtain ⟨_, _, hout, hcom⟩ := h
  rw [OutputsFollowRecord, hrec, outputsOf, Prod.mk.injEq] at hout
  refine ⟨?_, fun k => ?_⟩
  · cases hd : s.drive
    simp_all [Drive.idle]
  · rw [← Bool.not_eq_true, hcom k]
    simp [hrec]

/-- A CLAIMING claim belongs to a CLAIMING head, and nothing is driven (R122). -/
theorem head_of_claiming {s : State} {c : OwnClaim} (h : DriveCoherent s) (hown : s.claims.own = some c)
    (hc : c.held = false) :
    ∃ op, headOp s = some op ∧ op.state = .claiming ∧ c.object = op.object ∧ c.dir = op.dir ∧ Undriven s := by
  obtain ⟨_, hh, _, _⟩ := id h
  cases hop : headOp s with
  | none => simp [hop, headAgrees, hown] at hh
  | some op =>
    cases hst : op.state <;> simp only [hop, headAgrees, hst, hown, heldFor, claimingFor, hc] at hh
    case claiming =>
      obtain ⟨⟨_, ho, hd⟩, hrec⟩ := hh
      exact ⟨op, rfl, hst, ho, hd, undriven_of_record_none h hrec⟩
    all_goals simp at hh

/-- A head that waits to be started again is DEFERRED or CLAIMING, and nothing is driven. -/
theorem undriven_of_waiting {s : State} {op : Operation} (h : DriveCoherent s) (hop : headOp s = some op)
    (hw : isDriven op = false) : Undriven s := by
  obtain ⟨_, hh, _, _⟩ := id h
  rw [hop] at hh
  refine undriven_of_record_none h ?_
  cases hst : op.state <;> simp [headAgrees, hst, isDriven] at hh hw
  · exact hh.2
  · exact hh.2

theorem own_none_of_deferred {s : State} {op : Operation} (h : DriveCoherent s) (hop : headOp s = some op)
    (hst : op.state = .deferred) : s.claims.own = none := by
  obtain ⟨_, hh, _, _⟩ := h
  rw [hop, headAgrees, hst] at hh
  exact hh.1

theorem own_of_claiming {s : State} {op : Operation} (h : DriveCoherent s) (hop : headOp s = some op)
    (hst : op.state = .claiming) : ∃ c, s.claims.own = some c ∧ c.held = false ∧ c.object = op.object := by
  obtain ⟨_, hh, _, _⟩ := h
  rw [hop, headAgrees, hst] at hh
  cases hown : s.claims.own with
  | none => simp [hown, claimingFor] at hh
  | some c =>
    rw [hown] at hh
    obtain ⟨⟨hheld, hobj, _⟩, _⟩ := hh
    exact ⟨c, rfl, hheld, hobj⟩

/-- No head of a coherent state is QUEUED (R122). -/
theorem head_not_queued {s : State} {op : Operation} (h : DriveCoherent s) (hop : headOp s = some op) :
    op.state ≠ .queued := by
  intro hst
  obtain ⟨_, hh, _, _⟩ := h
  rw [hop, headAgrees, hst] at hh
  exact hh

/-- A drive belongs to a driven head under a HELD claim (R122, R147). -/
theorem head_of_driving {s : State} {d : DriveRecord} (h : DriveCoherent s) (hrec : s.drive.record = some d) :
    ∃ op c, headOp s = some op ∧ isDriven op = true ∧ s.claims.own = some c ∧ c.held = true ∧
      op.state = (if d.settling then .settling else .travelling) ∧ d.object = op.object ∧ d.dir = op.dir ∧
      c.object = op.object ∧ c.dir = op.dir ∧ (d.settling = true → d.energized = false) := by
  obtain ⟨_, hh, _, _⟩ := h
  cases hop : headOp s with
  | none => simp [hop, headAgrees, hrec] at hh
  | some op =>
    cases hst : op.state <;> simp only [hop, headAgrees, hst, hrec, drivenFor, reduceCtorEq, and_false] at hh
    case travelling =>
      obtain ⟨hheld, hobj, hdir, hset, hen⟩ := hh
      obtain ⟨c, hown, hc, hco, hcd⟩ := heldFor_iff.1 hheld
      exact ⟨op, c, rfl, by simp [isDriven, hst], hown, hc, by simp [hset, hst], hobj, hdir, hco, hcd, hen⟩
    case settling =>
      obtain ⟨hheld, hobj, hdir, hset, hen⟩ := hh
      obtain ⟨c, hown, hc, hco, hcd⟩ := heldFor_iff.1 hheld
      exact ⟨op, c, rfl, by simp [isDriven, hst], hown, hc, by simp [hset, hst], hobj, hdir, hco, hcd, hen⟩

/-- The defer timer is stopped while the head is not DEFERRED (R132). -/
theorem timer_none {s : State} {op : Operation} (h : TimersFollowStates s) (hop : headOp s = some op)
    (hst : op.state ≠ .deferred) : s.req.deferTimer = none := by
  by_contra hne
  obtain ⟨op', hop', hst'⟩ := h.2.1 (Option.isSome_iff_ne_none.2 hne)
  cases hop.symm.trans hop'
  exact hst hst'

theorem resting_of_own_none {s : State} (h : Undriven s) (ht : TimersFollowStates s) (hown : s.claims.own = none) :
    Resting s := by
  obtain ⟨ha, hw⟩ := ht.1 (by simp [ownHolds, hown])
  exact ⟨h, hown, ha, hw⟩

/-- An empty queue has nothing claimed and nothing driven. -/
theorem startable_of_nil {s : State} (h : DriveCoherent s) (ht : TimersFollowStates s) (hnil : s.req.queue = []) :
    Startable s := by
  have hnone : headOp s = none := by simp [headOp, hnil]
  obtain ⟨hq, hh, _, _⟩ := id h
  rw [hnone] at hh
  obtain ⟨hown, hrec⟩ := hh
  refine ⟨resting_of_own_none (undriven_of_record_none h hrec) ht hown, hq, ?_⟩
  by_contra hne
  obtain ⟨op, hop, _⟩ := ht.2.1 (Option.isSome_iff_ne_none.2 hne)
  simp [hnone] at hop

/-! ### Claims -/

theorem takeReport_sound {s : State} {op : Operation} (h : Startable s) (hop : headOp s = some op) (rep : ClaimReport) :
    Sound (takeReport rep s) := by
  unfold takeReport
  simp only [hop]
  split
  · exact followUp_sound (deferHead_started h hop _)
  · exact nextHead_sound (h.endOperation _ _ _)
  · exact nextHead_sound (h.endOperation _ _ _)

/-- A CLAIMING claim withdrawn: nothing is claimed any longer, and its head is to be started, deferred or ended. -/
theorem startable_withdrawn {s : State} {c : OwnClaim} (h : DriveCoherent s) (ht : TimersFollowStates s)
    (hown : s.claims.own = some c) (hc : c.held = false) (cause : EndCause) (o : Option Objection) :
    Startable (withdrawClaim cause o s) ∧ headOp (withdrawClaim cause o s) = headOp s := by
  obtain ⟨op, hop, hst, _, _, hund⟩ := head_of_claiming h hown hc
  have hreq : (withdrawClaim cause o s).req = s.req := withdrawClaim_touches cause o s .req (by decide)
  refine ⟨⟨hund.withdrawClaim hown cause o, hreq ▸ h.1, ?_⟩, by rw [headOp, hreq, headOp]⟩
  rw [hreq]
  exact timer_none ht hop (by simp [hst])

theorem withdrawAndReport_sound {s : State} {c : OwnClaim} (h : DriveCoherent s) (ht : TimersFollowStates s)
    (hown : s.claims.own = some c) (hc : c.held = false) (rep : ClaimReport) (o : Option Objection) :
    Sound (withdrawAndReport rep o s) := by
  obtain ⟨hs, hhead⟩ := startable_withdrawn h ht hown hc (reportCause rep) o
  obtain ⟨op, hop, _⟩ := head_of_claiming h hown hc
  exact takeReport_sound hs (hhead.trans hop) rep

/-- The grant of a CLAIMING claim at a window expiry (R107). -/
theorem grantClaim_granted {s : State} {c : OwnClaim} (h : DriveCoherent s) (ht : TimersFollowStates s)
    (hown : s.claims.own = some c) (hc : c.held = false) : ∃ op, GrantHeld (grantClaim c s) op := by
  obtain ⟨op, hop, hst, ho, hd, hund⟩ := head_of_claiming h hown hc
  have htouch := grantClaim_touches c s
  have hreq : (grantClaim c s).req = s.req := htouch .req (by decide)
  have hcl : (grantClaim c s).claims =
      { s.claims with own := some { c with held := true, round := 0 }, answers := [], window := none } :=
    ownChanged_touches (countGranted _) .claims (by decide)
  refine ⟨op, hund.of_touches htouch (by decide) (by decide), ?_, ?_, by rw [hcl], by rw [hcl], hreq ▸ h.1, ?_⟩
  · rw [headOp, hreq]
    exact hop
  · rw [hcl]
    exact ⟨rfl, ho, hd⟩
  · rw [hreq]
    exact timer_none ht hop (by simp [hst])

theorem newRound_steady {s : State} {c : OwnClaim} (hown : s.claims.own = some c) (hc : c.held = false) :
    Steady s (newRound c s) := by
  have hclaims : Steady s (s.withClaims { s.claims with
      own := some { c with round := c.round + 1 }, answers := adjustedAnswers s c.nodes, window := none }) :=
    .of_claims (by simp [hown, claimKey]) fun _ hidle => by simp [ownHolds, hown, hc] at hidle
  exact hclaims.trans (.of_touches (handClaim_touches _ _ _) (by decide) (by decide) (by decide) (by decide))

theorem judgeWindow_steady (s : State) : Steady s (judgeWindow s) := by
  intro hd ht
  unfold judgeWindow
  split
  · exact Steady.refl s hd ht
  · rename_i c hown
    split
    · exact Steady.refl s hd ht
    · rename_i hheld
      have hc : c.held = false := by simpa using hheld
      obtain ⟨op, hg⟩ := grantClaim_granted hd ht hown hc
      split
      · exact (followUp_sound (grantHandling_started hg)).steady hd ht
      · split
        · exact newRound_steady hown hc hd ht
        · split
          · exact (followUp_sound (grantHandling_started hg)).steady hd ht
          · exact (withdrawAndReport_sound hd ht hown hc _ _).steady hd ht

/-- The bypass reason of the head says nothing of its claim or its drive. -/
theorem setBypassReason_steady (r : EvalResult) (s : State) : Steady s (setBypassReason r s) := by
  rintro ⟨hq, hh, hout, hcom⟩ ⟨ht, htimer⟩
  have hhead := setBypassReason_headOp r s
  refine ⟨⟨?_, ?_, hout, hcom⟩, ⟨ht, ?_⟩, id⟩
  · cases hrest : s.req.queue with
    | nil => simp [setBypassReason, hrest, QueueOk]
    | cons op rest =>
      rw [hrest] at hq
      simpa [setBypassReason, hrest] using
        hq.replace_head (op' := { op with bypassReason := bypassReasonOf r }) rfl rfl
  · rw [hhead]
    change headAgrees _ s.claims.own s.drive.record
    cases hop : headOp s with
    | none => simpa [hop] using hh
    | some op => simpa [hop, headAgrees] using hh
  · rw [hhead]
    change s.req.deferTimer.isSome = true ↔ _
    cases hop : headOp s with
    | none => simpa [hop] using htimer
    | some op => simpa [hop] using htimer

theorem reevaluate_steady {s : State} {c : OwnClaim} (hown : s.claims.own = some c) (hc : c.held = false) :
    Steady s (reevaluate c s) := by
  intro hd ht
  unfold reevaluate
  split
  · exact (withdrawAndReport_sound hd ht hown hc _ _).steady hd ht
  · dsimp only
    set u := setBypassReason (evaluate s c.object c.dir c.source) s
    have hu : Steady s u := setBypassReason_steady _ s
    obtain ⟨hdu, htu, _⟩ := hu hd ht
    have hownu : u.claims.own = some c := hown
    split
    · exact (withdrawAndReport_sound hdu htu hownu hc _ _).steady hd ht
    · split
      · exact (withdrawAndReport_sound hdu htu hownu hc _ _).steady hd ht
      · refine hu.trans (.of_claims rfl fun _ hidle => ?_) hd ht
        simp [ownHolds, hownu, hc] at hidle

theorem takeViewReport_steady (v : ViewReport) (s : State) : Steady s (takeViewReport v s) := by
  unfold takeViewReport
  have hrem : Steady s (if v.state = some .stale then removeForeign v.station s else s) :=
    .ifThen fun _ => .of_foreign _
  dsimp only
  split
  · exact hrem
  · rename_i c hown
    refine hrem.trans (.ifElse fun hheld => reevaluate_steady hown (by simpa using hheld))

theorem claiming_of_answerCounts {s : State} {f : Frame} (h : answerCounts s f = true) :
    ∃ c, s.claims.own = some c ∧ c.held = false := by
  unfold answerCounts at h
  split at h
  · rename_i c hown
    simp only [Bool.and_eq_true, Bool.not_eq_true'] at h
    exact ⟨c, hown, h.1.1⟩
  · simp at h

theorem takeAssent_steady (f : Frame) (s : State) : Steady s (takeAssent f s) := by
  refine .ifThen fun hcount => .of_claims rfl fun _ hidle => ?_
  obtain ⟨c, hown, hc⟩ := claiming_of_answerCounts (Bool.and_eq_true_iff.1 hcount).1
  simp [ownHolds, hown, hc] at hidle

theorem takeObject_steady (f : Frame) (s : State) : Steady s (takeObject f s) := by
  refine .ifThen fun hcount => ?_
  obtain ⟨c, hown, hc⟩ := claiming_of_answerCounts hcount
  have hkeep : Steady s (s.withClaims
      { s.claims with lastObjection := some { station := f.src, reason := byteAt f.body 1 } }) :=
    .of_claims rfl fun ⟨ht, _⟩ hidle => ht hidle
  intro hd ht
  obtain ⟨hd', ht', _⟩ := hkeep hd ht
  exact (withdrawAndReport_sound hd' ht' hown hc _ _).steady hd ht

theorem rejoinAnswer_steady (station : Nat) (s : State) : Steady s (rejoinAnswer station s) := by
  unfold rejoinAnswer
  split
  · rename_i c a _ hget
    refine .of_claims rfl fun ⟨ht, _⟩ hidle => ?_
    obtain ⟨hnil, _⟩ := ht hidle
    simp [hnil, tableGet] at hget
  · exact .refl s

theorem takeClaimPart_steady (station : Nat) (part : Option ClaimPart) (s : State) :
    Steady s (takeClaimPart station part s) := by
  unfold takeClaimPart
  split
  · exact .refl s
  · exact .of_foreign _
  · exact .of_foreign _
  · split <;> exact .of_foreign _

theorem takeStatusClaim_steady (f : Frame) (s : State) : Steady s (takeStatusClaim f s) := by
  unfold takeStatusClaim
  have hjoin : Steady s (if statusJoining f.body then takeJoining f.src s else s) :=
    .ifThen fun _ => Steady.trans (.of_foreign _) (rejoinAnswer_steady _ _)
  generalize (if statusJoining f.body then takeJoining f.src s else s) = u at hjoin ⊢
  dsimp only
  split
  · exact hjoin.trans (.of_foreign _)
  · split
    · exact hjoin.trans (takeClaimPart_steady _ _ _)
    · exact hjoin

theorem takeReleaseClaim_steady (f : Frame) (s : State) : Steady s (takeReleaseClaim f s) := by
  unfold takeReleaseClaim
  split
  · exact .refl s
  · exact .ifThen fun _ => .of_foreign _

theorem handUrgent_steady (f : Frame) (s : State) : Steady s (handUrgent f s) :=
  .of_touches (handUrgent_touches f s) (by decide) (by decide) (by decide) (by decide)

theorem assentIf_steady (b : Bool) (station : Nat) (id : Byte) (s : State) : Steady s (assentIf b station id s) :=
  .ifThen fun _ => handUrgent_steady _ s

theorem giveWay_claiming {s : State} {station : Nat} {c : ClaimPart} (h : claimResponse s station c = .giveWay) :
    ∃ own, s.claims.own = some own ∧ own.held = false := by
  unfold claimResponse at h
  dsimp only at h
  split at h
  · split at h <;> cases h
  · rename_i own hown
    split at h
    · split at h
      · cases h
      · rename_i hheld
        exact ⟨own, hown, by simpa using hheld⟩
    · split at h <;> cases h

theorem respondClaim_steady {r : ClaimResponse} {s : State}
    (h : r = .giveWay → ∃ own, s.claims.own = some own ∧ own.held = false) (concerned : Bool) (station : Nat)
    (c : ClaimPart) : Steady s (respondClaim r concerned station c s) := by
  cases r with
  | objectHeld => exact handUrgent_steady _ s
  | objectRank => exact handUrgent_steady _ s
  | giveWay =>
    obtain ⟨own, hown, hheld⟩ := h rfl
    intro hd ht
    exact ((withdrawAndReport_sound hd ht hown hheld _ _).steady.trans (assentIf_steady _ _ _ _)) hd ht
  | assent => exact handUrgent_steady _ s
  | silent => exact .refl s

theorem judgeClaim_steady (station : Nat) (c : ClaimPart) (s : State) : Steady s (judgeClaim station c s) := by
  have hrecord (a : Bool) : Steady s (recordForeign station c a s) := .of_foreign _
  unfold judgeClaim
  split
  · refine (hrecord (assentedBy (selfConcerned s c.nodes) (claimResponse s station c))).trans ?_
    exact respondClaim_steady giveWay_claiming _ _ _
  · exact hrecord false

theorem takeClaim_steady (f : Frame) (s : State) : Steady s (takeClaim f s) := by
  unfold takeClaim
  split
  · split
    · exact .refl s
    · split
      · unfold claimFromStale
        split
        · exact .refl s
        · exact .ifThen fun _ => handUrgent_steady _ s
      · exact judgeClaim_steady _ _ s
  · exact .refl s

/-! ### The drive -/

/-- The outputs after the output of the drive record has been de-energized (R148). -/
theorem deenergize_outputs {d : DriveRecord} {x : Drive} (hrec : x.record = some d) (h : OutputsFollowRecord x)
    (r : Option DriveRecord) :
    { deenergize d.object d.dir x with record := r } = { Drive.idle with record := r } := by
  obtain ⟨_, o, c⟩ := x
  obtain rfl : _ = _ := hrec
  simp only [OutputsFollowRecord, outputsOf] at h
  cases hd : d.dir <;> cases he : d.energized <;> simp_all [deenergize, Drive.idle]

/-- A drive stopped and its object's commanded flag cleared: nothing is driven (R157). -/
theorem stopDrive_undriven {s : State} {d : DriveRecord} (h : DriveCoherent s) (hrec : s.drive.record = some d) :
    Undriven (clearCommanded d.object (stopDrive d s)) := by
  obtain ⟨_, _, hout, hcom⟩ := h
  refine ⟨deenergize_outputs hrec hout none, fun k => ?_⟩
  by_cases hk : k = d.object
  · simp [clearCommanded, hk]
  · rw [clearCommanded, objIn_putObj_other _ _ hk]
    change (objIn s k).commanded = false
    have hno : ¬ (objIn s k).commanded = true := by
      rw [hcom k]
      rintro ⟨d', hd', rfl⟩
      cases hrec.symm.trans hd'
      exact hk rfl
    simpa using hno

/-- The end of a drive (R157): its operation ends, and the next head starts. -/
theorem endDrive_sound {s : State} {d : DriveRecord} (h : DriveCoherent s) (ht : TimersFollowStates s)
    (hrec : s.drive.record = some d) (o : OpOutcome) (r : Reason) : Sound (endDrive o r s) := by
  obtain ⟨op, c, hop, hdriven, hown, _, hst, _⟩ := head_of_driving h hrec
  set u := if o = .failed then reportEvent .travelFail (clearCommanded d.object (stopDrive d s))
    else clearCommanded d.object (stopDrive d s) with hu
  have htu : Touches [.faults, .view, .link] (clearCommanded d.object (stopDrive d s)) u :=
    (Touches.refl _ _).ifThen (reportEvent_touches _ _)
  have hund : Undriven u := (stopDrive_undriven h hrec).of_touches htu (by decide) (by decide)
  have hreq : u.req = s.req := htu .req (by decide)
  have hcl : u.claims = s.claims := htu .claims (by decide)
  have hhead : headOp u = some op := by rw [headOp, hreq]; exact hop
  have htimer : s.req.deferTimer = none := timer_none ht hop (by rw [hst]; split <;> simp)
  have hend : endDrive o r s = reportDriveEnd o r u := by simp only [endDrive, hrec, hu]
  rw [hend, reportDriveEnd]
  simp only [hhead]
  refine nextHead_sound ⟨hund.endOperation (hcl ▸ hown) hdriven _ _, ?_, ?_⟩
  · rw [endOperation_queue, hreq]
    exact h.1.filter _
  · rw [endOperation_deferTimer, hreq, htimer, ite_self]

theorem reachTime_steady (s : State) (e : Nat) : Steady s (s.reachTime e) :=
  .of_touches (reachTime_touches s e) (by decide) (by decide) (by decide) (by decide)

theorem endDrive_steady (o : OpOutcome) (r : Reason) (s : State) : Steady s (endDrive o r s) := by
  intro hd ht
  cases hrec : s.drive.record with
  | none =>
    rw [endDrive, hrec]
    exact Steady.refl s hd ht
  | some d => exact (endDrive_sound hd ht hrec o r).steady hd ht

theorem endOverdue_steady (d : DriveRecord) (e : Nat) (s : State) : Steady s (endOverdue d e s) := by
  unfold endOverdue
  split <;> exact (reachTime_steady s _).trans (endDrive_steady _ _ _)

/-- The end of a coil pulse: the output goes off, and the drive stays (R150). -/
theorem endPulse_steady {s : State} {d : DriveRecord} (hrec : s.drive.record = some d) : Steady s (endPulse d s) := by
  rintro ⟨hq, hh, hout, hcom⟩ ht
  have hdrive : (endPulse d s).drive = { Drive.idle with
      record := some { d with energized := false, coilPulse := none } } :=
    deenergize_outputs hrec hout _
  have hrec' : (endPulse d s).drive.record = some { d with energized := false, coilPulse := none } := rfl
  refine ⟨⟨hq, ?_, ?_, fun k => ?_⟩, ht, fun hf d' hd' => ?_⟩
  · rw [hrec']
    rw [hrec] at hh
    change headAgrees (headOp s) s.claims.own _
    cases hop : headOp s with
    | none => simp [hop, headAgrees] at hh
    | some op => cases hst : op.state <;> simp_all [headAgrees, drivenFor]
  · rw [hdrive]
    rfl
  · rw [hrec', show objIn (endPulse d s) k = objIn s k from rfl, hcom k, hrec]
    simp
  · cases hd'
    exact hf d hrec

/-! ### The events of the commanded object -/

/-- The combinations of a drive record, and whether its object's departure has been seen in its stage. -/
theorem arrive_sound {s : State} {d : DriveRecord} (h : DriveCoherent s) (ht : TimersFollowStates s)
    (hrec : s.drive.record = some d) :
    DriveCoherent (arrive d s) ∧ TimersFollowStates (arrive d s) ∧
      (d.start = startComb d.dir → d.target = targetComb d.dir → (objIn s d.object).qualified = some d.target →
        DriveFollowsContacts (arrive d s)) := by
  obtain ⟨op, c, hop, hdriven, hown, hheld, hst, ho, hdir, hco, hcd, -⟩ := head_of_driving h hrec
  obtain ⟨hq, _, hout, hcom⟩ := h
  obtain ⟨rest, hqueue⟩ := headOp_eq_some_iff.1 hop
  have htimer : s.req.deferTimer = none := timer_none ht hop (by rw [hst]; split <;> simp)
  set rec' : DriveRecord :=
    { d with
      departed := true, energized := false, travel := none, departure := none, coilPulse := none, settling := true
      settle := some (s.now + fieldOf s (·.settle)) }
  set u := s.withDrive { deenergize d.object d.dir s.drive with record := some rec' }
  have hu : arrive d s = setHead { op with state := .settling } u := by
    have : headOp u = some op := hop
    simp only [arrive, u, rec', this] at this ⊢
  have hdrive : u.drive = { Drive.idle with record := some rec' } := deenergize_outputs hrec hout _
  rw [hu]
  refine ⟨⟨?_, ?_, ?_, fun k => ?_⟩, ⟨fun _ => ?_, ?_⟩, fun hstart htarget hqual d' hd' => ?_⟩
  · rw [setHead_queue (s := u) hqueue]
    exact (hqueue ▸ hq).replace_head rfl rfl
  · rw [headOp_setHead]
    refine ⟨?_, ho, hdir, rfl, fun _ => rfl⟩
    exact heldFor_iff.2 ⟨c, hown, hheld, hco, hcd⟩
  · change OutputsFollowRecord u.drive
    rw [hdrive]
    rfl
  · change (objIn s k).commanded = true ↔ ∃ d', some rec' = some d' ∧ d'.object = k
    rw [hcom k, hrec]
    simp [rec']
  · exact ht.1 (by simp [ownHolds, hown, hheld])
  · rw [headOp_setHead, setHead_deferTimer]
    simp [u, htimer]
  · obtain rfl : rec' = d' := Option.some.inj hd'
    exact ⟨hstart, htarget, nofun, fun _ => hqual⟩

theorem depart_sound {s : State} {d : DriveRecord} (h : DriveCoherent s) (ht : TimersFollowStates s)
    (hrec : s.drive.record = some d) :
    DriveCoherent (depart d s) ∧ TimersFollowStates (depart d s) ∧
      (d.settling = false → d.start = startComb d.dir → d.target = targetComb d.dir →
        (objIn s d.object).qualified = some .c00 → DriveFollowsContacts (depart d s)) := by
  obtain ⟨hq, hh, hout, hcom⟩ := h
  refine ⟨⟨hq, ?_, ?_, fun k => ?_⟩, ht, fun hset hstart htarget hqual d' hd' => ?_⟩
  · rw [hrec] at hh
    change headAgrees (headOp s) s.claims.own (some { d with departed := true, departure := none })
    cases hop : headOp s with
    | none => simp [hop, headAgrees] at hh
    | some op => cases hst : op.state <;> simp_all [headAgrees, drivenFor]
  · simpa [OutputsFollowRecord, outputsOf, depart, hrec] using hout
  · change (objIn s k).commanded = true ↔ ∃ d',
      some { d with departed := true, departure := none } = some d' ∧ d'.object = k
    rw [hcom k, hrec]
    simp
  · cases hd'
    exact ⟨hstart, htarget, fun _ => ⟨⟨fun _ => rfl, fun _ => rfl⟩, fun _ => hqual⟩, fun hs => by simp [hset] at hs⟩

/-- A combination that is none of 11, the target and the start is 00. -/
theorem eq_c00 {c : Comb} {dir : Direction} (ht : c ≠ targetComb dir) (h11 : c ≠ .c11) (hs : c ≠ startComb dir) :
    c = .c00 := by
  cases dir <;> cases c <;> simp_all [targetComb, startComb]

/-- What the Travel Supervisor needs of the record before it takes a qualification event: the directions' combinations. -/
def RecordCombs (s : State) : Prop :=
  ∀ d, s.drive.record = some d → d.start = startComb d.dir ∧ d.target = targetComb d.dir

/-- The Travel Supervisor's act on an event of the commanded object (R151 to R156). -/
theorem superviseEvent_steady {s : State} (c : Comb) (h : DriveCoherent s) (ht : TimersFollowStates s)
    (hqual : ∀ d, s.drive.record = some d → (objIn s d.object).qualified = some c) :
    DriveCoherent (superviseEvent c s) ∧ TimersFollowStates (superviseEvent c s) ∧
      (RecordCombs s → DriveFollowsContacts (superviseEvent c s)) := by
  have hfail (d : DriveRecord) (hrec : s.drive.record = some d) (o : OpOutcome) (r : Reason) :
      DriveCoherent (endDrive o r s) ∧ TimersFollowStates (endDrive o r s) ∧
        (RecordCombs s → DriveFollowsContacts (endDrive o r s)) := by
    obtain ⟨h1, h2, h3⟩ := endDrive_sound h ht hrec o r
    exact ⟨h1, h2, fun _ => h3⟩
  unfold superviseEvent
  split
  · rename_i hnone
    exact ⟨h, ht, fun _ d hd => by simp [hnone] at hd⟩
  · rename_i d hrec
    split
    · rename_i hset
      split
      · rename_i htarget
        refine ⟨h, ht, fun hcombs d' hd' => ?_⟩
        cases hrec.symm.trans hd'
        obtain ⟨hs, htg⟩ := hcombs d hrec
        exact ⟨hs, htg, fun hno => by simp [hset] at hno, fun _ => htarget ▸ hqual d hrec⟩
      · exact hfail d hrec _ _
    · rename_i hset
      split
      · rename_i htarget
        obtain ⟨h1, h2, h3⟩ := arrive_sound h ht hrec
        refine ⟨h1, h2, fun hcombs => ?_⟩
        obtain ⟨hs, htg⟩ := hcombs d hrec
        exact h3 hs htg (htarget ▸ hqual d hrec)
      · split
        · exact hfail d hrec _ _
        · split
          · exact hfail d hrec _ _
          · rename_i hnt h11 hns
            obtain ⟨h1, h2, h3⟩ := depart_sound h ht hrec
            refine ⟨h1, h2, fun hcombs => ?_⟩
            obtain ⟨hs, htg⟩ := hcombs d hrec
            have h00 : c = .c00 := eq_c00 (htg ▸ hnt) h11 (hs ▸ hns)
            exact h3 (by simpa using hset) hs htg (h00 ▸ hqual d hrec)

/-- A qualification event (R20, R24): the object's new combination, then the Travel Supervisor. -/
theorem qualifyObject_steady (k : Nat) (c : Comb) (s : State) : Steady s (qualifyObject k c s) := by
  intro hd ht
  set u := s.putObj k (qualifiedObj s (objIn s k) c)
  set v := if (qualifiedObj s (objIn s k) c).position = (objIn s k).position then u else handPosition k u
  have hv : qualifyObject k c s = superviseIf (objIn s k).commanded c v := rfl
  have huv : Touches [.view, .link, .handover, .faults] u v :=
    ((Touches.refl _ u).ifElse (handPosition_touches k u)).mono (by decide)
  have hus : Touches [.objects] s u := putObj_touches s k _
  have hreq : v.req = s.req := Eq.trans (huv .req (by decide)) (hus .req (by decide))
  have hcl : v.claims = s.claims := Eq.trans (huv .claims (by decide)) (hus .claims (by decide))
  have hdr : v.drive = s.drive := Eq.trans (huv .drive (by decide)) (hus .drive (by decide))
  have hobj (j : Nat) : objIn v j = objIn u j := objIn_congr (huv .objects (by decide)) j
  have hcom (j : Nat) : (objIn v j).commanded = (objIn s j).commanded := by
    rw [hobj]
    by_cases hj : j = k
    · simp [u, hj, qualifiedObj]
    · rw [objIn_putObj_other s _ hj]
  have hdv : DriveCoherent v := by
    obtain ⟨hq, hh, hout, hc⟩ := hd
    refine ⟨hreq ▸ hq, ?_, hdr ▸ hout, fun j => ?_⟩
    · rw [headOp, hreq, hcl, hdr]
      exact hh
    · rw [hcom, hdr]
      exact hc j
  have htv : TimersFollowStates v := by
    rw [TimersFollowStates, ownHolds, headOp, hcl, hreq]
    exact ht
  rw [hv, superviseIf]
  split
  · rename_i hcommanded
    have hqual (d : DriveRecord) (hrec : v.drive.record = some d) : (objIn v d.object).qualified = some c := by
      obtain ⟨d', hrec', hk⟩ := (hd.2.2.2 k).1 hcommanded
      rw [hdr, hrec'] at hrec
      cases hrec
      rw [hobj, hk]
      simp [u, qualifiedObj]
    obtain ⟨h1, h2, h3⟩ := superviseEvent_steady c hdv htv hqual
    refine ⟨h1, h2, fun hf => h3 fun d hrec => ?_⟩
    obtain ⟨hs, htg, _⟩ := hf d (hdr ▸ hrec)
    exact ⟨hs, htg⟩
  · rename_i hcommanded
    refine ⟨hdv, htv, fun hf d hrec => ?_⟩
    have hk : d.object ≠ k := by
      rintro rfl
      exact hcommanded ((hd.2.2.2 d.object).2 ⟨d, hdr ▸ hrec, rfl⟩)
    rw [hobj, objIn_putObj_other s _ hk]
    exact hf d (hdr ▸ hrec)

end Sys2Proof.Machine

namespace Sys2Proof.Machine

/-! ### Operations that leave the queue, and operations that join it -/

theorem namesDiffer_symm {x y : Operation} (h : namesDiffer x y) : namesDiffer y x := by
  simp only [namesDiffer, isNamed, Bool.and_eq_false_iff, beq_eq_false_iff_ne] at h ⊢
  exact h.imp Ne.symm Ne.symm

theorem queueOk_nil : QueueOk [] := by simp [QueueOk]

/-- A name belongs to one operation of the queue alone (R125). -/
theorem QueueOk.eq_of_named {q : List Operation} (h : QueueOk q) {x y : Operation} (hx : x ∈ q) (hy : y ∈ q)
    (hn : isNamed x.requester x.tag y = true) : x = y := by
  by_contra hne
  have hsymm : Std.Symm namesDiffer := ⟨fun _ _ => namesDiffer_symm⟩
  have hd : namesDiffer x y := h.2.forall hx hy hne
  exact absurd hn (by simpa [namesDiffer] using hd)

theorem isHead_iff {s : State} {op h : Operation} (hop : headOp s = some h) :
    isHead s op = isNamed op.requester op.tag h := by
  simp [isHead, hop]

/-- An operation of the queue that is named as the head is the head. -/
theorem eq_head_of_isHead {s : State} {op : Operation} (hq : QueueOk s.req.queue) (hmem : op ∈ s.req.queue)
    (hhead : isHead s op = true) : headOp s = some op := by
  cases hop : headOp s with
  | none => simp [isHead, hop] at hhead
  | some h =>
    rw [isHead_iff hop] at hhead
    have hmem' : h ∈ s.req.queue := List.mem_of_head? hop
    rw [hq.eq_of_named hmem hmem' hhead]

/-- Behind the head every operation is QUEUED (R122). -/
theorem queued_of_not_isHead {s : State} {op : Operation} (hq : QueueOk s.req.queue) (hmem : op ∈ s.req.queue)
    (hhead : isHead s op = false) : op.state = .queued := by
  cases hrest : s.req.queue with
  | nil => simp [hrest] at hmem
  | cons h rest =>
    rw [hrest] at hmem hq
    rcases List.mem_cons.1 hmem with rfl | hmem
    · have hop : headOp s = some op := by simp [headOp, hrest]
      simp [isHead_iff hop, isNamed] at hhead
    · exact hq.1 op hmem

/-- The claim of a waiting head is withdrawn where it is CLAIMING; nothing is claimed from then on (R109, R129). -/
theorem withdrawFor_rests {s : State} {op : Operation} (h : DriveCoherent s) (ht : TimersFollowStates s)
    (hop : headOp s = some op) (hw : isDriven op = false) : Resting (withdrawFor op s) := by
  have hund := undriven_of_waiting h hop hw
  unfold withdrawFor
  split
  · rename_i hst
    obtain ⟨c, hown, _⟩ := own_of_claiming h hop hst
    exact hund.withdrawClaim hown _ _
  · rename_i hst
    have hdef : op.state = .deferred := by
      have hnq := head_not_queued h hop
      cases hs : op.state <;> simp_all [isDriven]
    exact resting_of_own_none hund ht (own_none_of_deferred h hop hdef)

theorem withdrawFor_req (op : Operation) (s : State) : (withdrawFor op s).req = s.req :=
  withdrawFor_touches op s .req (by decide)

/-- A waiting head that ends, after the acts in between: the next head start may begin. -/
theorem startable_of_waiting_ended {s u : State} {op : Operation} (h : DriveCoherent s) (ht : TimersFollowStates s)
    (hop : headOp s = some op) (hu : Resting u) (hreq : u.req = s.req) (o : OpOutcome) (r : Reason) :
    Startable (endOperation op o r u) :=
  hu.startable (hreq ▸ h.1) (fun hst => by rw [hreq]; exact timer_none ht hop hst) o r

/-- The end of an operation behind the head: the head stays. -/
theorem endOperation_behind {s : State} {op : Operation} (hhead : isHead s op = false) (hst : op.state = .queued)
    (o : OpOutcome) (r : Reason) :
    Steady s (endOperation op o r s) ∧ headOp (endOperation op o r s) = headOp s := by
  have hwait : isDriven op = false := by simp [isDriven, hst]
  have heq : endOperation op o r s = answeredEnd op o r s := by
    rw [endOperation_eq, hwait]
    rfl
  have htouch : Touches [.link, .counters, .req, .view] s (endOperation op o r s) := heq ▸ answeredEnd_touches op o r s
  have hcl : (endOperation op o r s).claims = s.claims := htouch .claims (by decide)
  have hdr : (endOperation op o r s).drive = s.drive := htouch .drive (by decide)
  have hobj (k : Nat) : objIn (endOperation op o r s) k = objIn s k := objIn_congr (htouch .objects (by decide)) k
  have htimer : (endOperation op o r s).req.deferTimer = s.req.deferTimer := by
    rw [endOperation_deferTimer, if_neg (by simp [hst])]
  have hheadOp : headOp (endOperation op o r s) = headOp s := by
    rw [headOp, endOperation_queue, headOp]
    cases hrest : s.req.queue with
    | nil => rfl
    | cons x rest =>
      have hx : headOp s = some x := by simp [headOp, hrest]
      rw [isHead_iff hx] at hhead
      simp [hhead]
  refine ⟨?_, hheadOp⟩
  rintro ⟨hq, hh, hout, hcom⟩ ⟨ht, hdt⟩
  refine ⟨⟨?_, ?_, hdr ▸ hout, fun k => ?_⟩, ⟨?_, ?_⟩, fun hf d hd => ?_⟩
  · rw [endOperation_queue]
    exact hq.filter _
  · rw [hheadOp, hcl, hdr]
    exact hh
  · rw [hobj, hdr]
    exact hcom k
  · rw [ownHolds, hcl]
    exact ht
  · rw [hheadOp, htimer]
    exact hdt
  · rw [hobj]
    exact hf d (hdr ▸ hd)

theorem withdrawFor_of_queued {op : Operation} (h : op.state = .queued) (s : State) : withdrawFor op s = s := by
  simp [withdrawFor, h]

theorem cancelOperation_steady {s : State} {op : Operation} (hmem : op ∈ s.req.queue) (hw : isDriven op = false)
    (station : Nat) (tag : Byte) : Steady s (cancelOperation op station tag s) := by
  intro hd ht
  unfold cancelOperation
  dsimp only
  cases hhead : isHead s op with
  | true =>
    have hop := eq_head_of_isHead hd.1 hmem hhead
    set u := handAccept station tag .cancelTaken (withdrawFor op s)
    have htu : Touches [.link, .counters] (withdrawFor op s) u := handUrgent_touches _ _
    have hreq : u.req = s.req := Eq.trans (htu .req (by decide)) (withdrawFor_req op s)
    have hu : Resting u :=
      (withdrawFor_rests hd ht hop hw).of_touches htu (by decide) (by decide) (by decide)
    exact (nextHead_sound (startable_of_waiting_ended hd ht hop hu hreq _ _)).steady hd ht
  | false =>
    have hst := queued_of_not_isHead hd.1 hmem hhead
    rw [withdrawFor_of_queued hst]
    have hacc : Steady s (handAccept station tag .cancelTaken s) := handUrgent_steady _ s
    have hreq : (handAccept station tag .cancelTaken s).req = s.req := handUrgent_touches _ s .req (by decide)
    have hhead' : isHead (handAccept station tag .cancelTaken s) op = false := by
      rw [isHead, headOp, hreq]
      exact hhead
    exact hacc.trans (endOperation_behind hhead' hst _ _).1 hd ht

theorem takeCancel_steady (f : Frame) (s : State) : Steady s (takeCancel f s) := by
  unfold takeCancel
  dsimp only
  refine .ifThen fun _ => ?_
  split
  · exact handUrgent_steady _ s
  · rename_i op hfind
    split
    · exact handUrgent_steady _ s
    · rename_i hdriven
      exact cancelOperation_steady (List.mem_of_find?_eq_some hfind) (by simpa using hdriven) _ _

theorem Startable.cancelBySelector {s : State} (h : Startable s) (op : Operation) :
    Startable (cancelBySelector s op) := by
  have hno : withdrawFor op s = s := by
    unfold withdrawFor
    rw [withdrawClaim_of_none h.own, ite_self]
  unfold Machine.cancelBySelector
  rw [hno]
  exact h.endOperation op _ _

theorem Startable.cancelAll {s : State} (h : Startable s) (ops : List Operation) :
    Startable (ops.foldl Machine.cancelBySelector s) := by
  induction ops generalizing s with
  | nil => exact h
  | cons op ops ih => exact ih (h.cancelBySelector op)

/-- Operations behind the head cancelled one by one (R138): the head stays. -/
theorem cancelBehind_steady {s : State} {ops : List Operation}
    (h : ∀ op ∈ ops, op.state = .queued ∧ isHead s op = false) : Steady s (ops.foldl cancelBySelector s) := by
  induction ops generalizing s with
  | nil => exact .refl s
  | cons op ops ih =>
    obtain ⟨hst, hhead⟩ := h op (List.mem_cons_self)
    obtain ⟨hsteady, hheadOp⟩ := endOperation_behind hhead hst .cancelled .selector
    have heq : cancelBySelector s op = endOperation op .cancelled .selector s := by
      rw [cancelBySelector, withdrawFor_of_queued hst]
    rw [List.foldl_cons, heq]
    refine hsteady.trans (ih fun x hx => ?_)
    obtain ⟨hstx, hx'⟩ := h x (List.mem_cons_of_mem _ hx)
    refine ⟨hstx, ?_⟩
    rw [isHead, hheadOp]
    exact hx'

theorem mem_mismatched {sel : Selector} {s : State} {op : Operation} (h : op ∈ mismatched sel s) :
    op ∈ s.req.queue ∧ isDriven op = false := by
  simp only [mismatched, List.mem_filter, isWaiting, Bool.and_eq_true, Bool.not_eq_true'] at h
  exact ⟨h.1, h.2.1⟩

/-- A head that a selector change cancels is the first of those it cancels (R138). -/
theorem mismatched_of_head {sel : Selector} {s : State} {op : Operation} (hop : headOp s = some op)
    (hmem : op ∈ mismatched sel s) : ∃ rest, mismatched sel s = op :: rest := by
  obtain ⟨rest, hq⟩ := headOp_eq_some_iff.1 hop
  have hp := (List.mem_filter.1 hmem).2
  exact ⟨rest.filter fun x => isWaiting x && !sourceMatches sel x.source,
    by simp only [mismatched, hq, List.filter_cons, hp, if_true]⟩

theorem takeSelector_steady (sel : Selector) (s : State) : Steady s (takeSelector sel s) := by
  intro hd ht
  unfold takeSelector
  dsimp only
  split
  · rename_i hany
    obtain ⟨op, hmem, hhead⟩ := List.any_eq_true.1 hany
    obtain ⟨hq, hw⟩ := mem_mismatched hmem
    have hop := eq_head_of_isHead hd.1 hq hhead
    obtain ⟨rest, hlist⟩ := mismatched_of_head hop hmem
    have hstart : Startable (cancelBySelector s op) :=
      startable_of_waiting_ended hd ht hop (withdrawFor_rests hd ht hop hw) (withdrawFor_req op s) _ _
    rw [hlist, List.foldl_cons]
    exact (nextHead_sound (hstart.cancelAll rest)).steady hd ht
  · rename_i hany
    refine cancelBehind_steady (fun op hmem => ?_) hd ht
    have hhead : isHead s op = false := by
      by_contra hh
      exact hany (List.any_eq_true.2 ⟨op, hmem, by simpa using hh⟩)
    exact ⟨queued_of_not_isHead hd.1 (mem_mismatched hmem).1 hhead, hhead⟩

theorem takePosition_steady (k : Nat) (s : State) : Steady s (takePosition k s) := by
  intro hd ht
  unfold takePosition
  split
  · exact Steady.refl s hd ht
  · rename_i op hop
    refine Steady.ifThen (fun hwait => ?_) hd ht
    have hw : isDriven op = false := by
      rcases hwait.2 with h | h <;> simp [isDriven, h]
    exact (nextHead_sound (startable_of_waiting_ended hd ht hop (withdrawFor_rests hd ht hop hw)
      (withdrawFor_req op s) _ _)).steady

/-! ### A new operation -/

theorem QueueOk.append {q : List Operation} (h : QueueOk q) {op : Operation} (hst : op.state = .queued)
    (hfresh : q.any (isNamed op.requester op.tag) = false) : QueueOk (q ++ [op]) := by
  obtain ⟨htail, hnames⟩ := h
  refine ⟨fun x hx => ?_, List.pairwise_append.2 ⟨hnames, List.pairwise_singleton _ _, fun x hx y hy => ?_⟩⟩
  · cases q with
    | nil => simp at hx
    | cons y rest =>
      rcases List.mem_append.1 (show x ∈ rest ++ [op] from hx) with hx | hx
      · exact htail x hx
      · rw [List.mem_singleton.1 hx]
        exact hst
  · rw [List.mem_singleton.1 hy]
    exact namesDiffer_symm (by simpa [namesDiffer] using List.any_eq_false.1 hfresh x hx)

theorem joinQueue_steady {s : State} {op : Operation} (hst : op.state = .queued)
    (hfresh : s.req.queue.any (isNamed op.requester op.tag) = false) : Steady s (joinQueue op s) := by
  intro hd ht
  have hqueue := hd.1.append hst hfresh
  unfold joinQueue
  dsimp only
  split
  · rename_i hempty
    have hs := startable_of_nil hd ht (List.isEmpty_iff.1 hempty)
    refine (nextHead_sound ⟨hs.toResting.of_touches (touches_withReq s _) (by decide) (by decide) (by decide), ?_,
      ?_⟩).steady
      hd ht
    · exact hqueue
    · exact hs.timer
  · rename_i hne
    obtain ⟨_, hh, hout, hcom⟩ := hd
    obtain ⟨htimers, htimer⟩ := ht
    have hhead : headOp (s.withReq { s.req with queue := s.req.queue ++ [op] }) = headOp s := by
      simp only [headOp, State.withReq_req]
      exact List.head?_append_of_ne_nil _ (by simpa using hne)
    refine ⟨⟨hqueue, ?_, hout, hcom⟩, ⟨htimers, ?_⟩, id⟩
    · rw [hhead]
      exact hh
    · rw [hhead]
      exact htimer

/-- A request that passes the checks of R124 has a name of its own and a place in the queue. -/
theorem fresh_of_requestChecks {s : State} {requester : Nat} {tag : Byte} {k : Nat} {dir : Direction}
    (h : requestChecks s requester tag k dir = none) :
    s.req.queue.any (isNamed requester tag) = false ∧ s.req.queue.length < fieldOf s (·.depth) := by
  unfold requestChecks at h
  split at h
  · cases h
  · split at h
    · cases h
    · split at h
      · cases h
      · split at h
        · cases h
        · rename_i hname hfull
          exact ⟨by simpa using hname, Nat.not_le.1 hfull⟩

theorem requestChecks_of_requestDisposition {s : State} {requester : Nat} {tag : Byte} {k : Nat} {dir : Direction}
    (h : requestDisposition s requester tag k dir = none) : requestChecks s requester tag k dir = none := by
  unfold requestDisposition at h
  split at h
  · cases h
  · exact h

theorem takeRequest_steady (f : Frame) (s : State) : Steady s (takeRequest f s) := by
  unfold takeRequest
  split
  · exact .refl s
  · rename_i tag k dir cls _
    split
    · exact handUrgent_steady _ s
    · rename_i hpass
      obtain ⟨hfresh, _⟩ := fresh_of_requestChecks (requestChecks_of_requestDisposition hpass)
      have hreq : (handAccept f.src tag .queued s).req = s.req := handUrgent_touches _ s .req (by decide)
      exact Steady.trans (handUrgent_steady _ s) (joinQueue_steady rfl (by rw [← hreq] at hfresh; exact hfresh))

theorem takeLocal_steady (slot : Nat) (dir : Direction) (s : State) : Steady s (takeLocal slot dir s) := by
  unfold takeLocal
  refine .ifThen fun _ => ?_
  split
  · unfold setLastLocal
    refine .ifElse fun _ => ?_
    have hres (x : Option LocalResult) : Steady s (s.withReq { s.req with lastLocal := x }) :=
      .of_same rfl rfl rfl rfl (fun _ => rfl) fun _ => rfl
    have hown (u : State) : Steady u (ownChanged u) :=
      .of_touches (ownChanged_touches u) (by decide) (by decide) (by decide) (by decide)
    exact (hres _).trans (hown _)
  · rename_i hpass
    exact joinQueue_steady rfl (fresh_of_requestChecks hpass).1

/-! ### Departures, silence and resets -/

/-- A claim that is not HELD dropped without a report (R109). -/
theorem dropClaiming_rests {s : State} (h : Undriven s) (ht : TimersFollowStates s)
    (hown : ∀ c, s.claims.own = some c → c.held = false) (cause : EndCause) : Resting (dropClaiming cause s) := by
  cases hc : s.claims.own with
  | none =>
    have heq : dropClaiming cause s = s := by simp [dropClaiming, hc]
    rw [heq]
    exact resting_of_own_none h ht hc
  | some c =>
    have heq : dropClaiming cause s = claimToIdle c.id cause none (countWithdrawn (removeClaim s)) := by
      simp [dropClaiming, hc, hown c hc]
    have hcl := claimToIdle_claims c.id cause none (countWithdrawn (removeClaim s))
    rw [← heq] at hcl
    exact ⟨h.of_touches (dropClaiming_touches cause s) (by decide) (by decide), by rw [hcl], by rw [hcl], by rw [hcl]⟩

/-- While the head is not driven the own claim is not HELD and nothing is driven (R122). -/
theorem undriven_of_headDriven {s : State} (h : DriveCoherent s) (hhead : headDriven s = false) :
    Undriven s ∧ ∀ c, s.claims.own = some c → c.held = false := by
  obtain ⟨_, hh, _, _⟩ := id h
  unfold headDriven at hhead
  cases hop : headOp s with
  | none =>
    rw [hop] at hh
    exact ⟨undriven_of_record_none h hh.2, fun c hc => by simp [hh.1] at hc⟩
  | some op =>
    simp only [hop] at hhead
    refine ⟨undriven_of_waiting h hop hhead, fun c hc => ?_⟩
    cases hst : op.state with
    | queued => exact absurd hst (head_not_queued h hop)
    | claiming =>
      obtain ⟨c', hc', hheld, _⟩ := own_of_claiming h hop hst
      cases hc.symm.trans hc'
      exact hheld
    | deferred => simp [own_none_of_deferred h hop hst] at hc
    | travelling => simp [isDriven, hst] at hhead
    | settling => simp [isDriven, hst] at hhead

theorem beginDeparture_eq (d : Departure) (s : State) : beginDeparture d s =
    requestFinal (dropClaiming .leaving ((s.withStart { s.start with departure := some d }).withReq
      { s.req with queue := [], deferTimer := none })) := rfl

/-- A departure (R167): the queue is emptied and a CLAIMING claim dropped, while nothing is driven. -/
theorem beginDeparture_sound {s : State} (h : DriveCoherent s) (ht : TimersFollowStates s)
    (hhead : headDriven s = false) (d : Departure) : Sound (beginDeparture d s) := by
  obtain ⟨hund, hown⟩ := undriven_of_headDriven h hhead
  rw [beginDeparture_eq]
  set u := (s.withStart { s.start with departure := some d }).withReq { s.req with queue := [], deferTimer := none }
  have htu : Touches [.start, .req] s u := (touches_withStart s _).trans (touches_withReq _ _)
  have hundu : Undriven u := hund.of_touches htu (by decide) (by decide)
  have htimers : TimersFollowStates u := ⟨ht.1, by simp [u, headOp]⟩
  have hrest := dropClaiming_rests hundu htimers hown .leaving
  have hreq : (dropClaiming .leaving u).req = u.req := dropClaiming_touches .leaving u .req (by decide)
  have hstart : Startable (dropClaiming .leaving u) := by
    refine ⟨hrest, ?_, congrArg Requests.deferTimer hreq⟩
    rw [hreq]
    exact queueOk_nil
  have hfinal := hstart.of_touches (requestFinal_touches _) (by decide) (by decide) (by decide) (by decide)
  have hreq' : (requestFinal (dropClaiming .leaving u)).req = u.req :=
    Eq.trans (requestFinal_touches _ .req (by decide)) hreq
  exact hfinal.sound_of_nil (congrArg Requests.queue hreq')

theorem filter_isDriven_of_queued {q : List Operation} (h : ∀ op ∈ q, op.state = .queued) : q.filter isDriven = [] := by
  refine List.filter_eq_nil_iff.2 fun op hop => ?_
  simp [isDriven, h op hop]

/-- What the Claim Manager and the Request Controller do at entry to SILENT (R109, R141): a driven head stays, with its
claim and its drive, and nothing else. -/
theorem silenceRequests_steady (s : State) : Steady s (silenceRequests (dropClaiming .silenced s)) := by
  intro hd ht
  have hreq : (dropClaiming .silenced s).req = s.req := dropClaiming_touches .silenced s .req (by decide)
  cases hhead : headDriven s with
  | false =>
    obtain ⟨hund, hown⟩ := undriven_of_headDriven hd hhead
    have hnil : s.req.queue.filter isDriven = [] := by
      cases hrest : s.req.queue with
      | nil => rfl
      | cons op rest =>
        have hop : isDriven op = false := by simpa [headDriven, headOp, hrest] using hhead
        have htail : rest.filter isDriven = [] := filter_isDriven_of_queued (by simpa [hrest] using hd.1.1)
        simp [hop, htail]
    have hrest := (dropClaiming_rests hund ht hown .silenced).of_touches (silenceRequests_touches _) (by decide)
      (by decide) (by decide)
    have hqueue : (silenceRequests (dropClaiming .silenced s)).req.queue = [] := by
      rw [silenceRequests, State.withReq_req, hreq]
      exact hnil
    refine (Startable.sound_of_nil ⟨hrest, ?_, rfl⟩ hqueue).steady hd ht
    rw [hqueue]
    exact queueOk_nil
  | true =>
    obtain ⟨op, hop, hdriven⟩ : ∃ op, headOp s = some op ∧ isDriven op = true := by
      cases hop : headOp s with
      | none => simp [headDriven, hop] at hhead
      | some op => exact ⟨op, rfl, by simpa [headDriven, hop] using hhead⟩
    obtain ⟨rest, hq⟩ := headOp_eq_some_iff.1 hop
    have hnone : s.req.deferTimer = none := timer_none ht hop fun hst => by simp [isDriven, hst] at hdriven
    obtain ⟨c, hown, hheld⟩ : ∃ c, s.claims.own = some c ∧ c.held = true := by
      obtain ⟨_, hh, _, _⟩ := hd
      rw [hop] at hh
      cases hst : op.state <;> simp [isDriven, hst] at hdriven <;> rw [headAgrees, hst] at hh <;>
        obtain ⟨hheldFor, _⟩ := hh <;> obtain ⟨c, hown, hheld, _⟩ := heldFor_iff.1 hheldFor <;> exact ⟨c, hown, hheld⟩
    have hdrop : dropClaiming .silenced s = s := by simp [dropClaiming, hown, hheld]
    have htail : rest.filter isDriven = [] := filter_isDriven_of_queued (by simpa [hq] using hd.1.1)
    have hqueue : (silenceRequests s).req.queue = [op] := by
      simp [silenceRequests, hq, hdriven, htail]
    rw [hdrop]
    obtain ⟨_, hh, hout, hcom⟩ := hd
    have hheadOp : headOp (silenceRequests s) = headOp s := by rw [headOp, hqueue, hop]; rfl
    refine ⟨⟨?_, ?_, hout, hcom⟩, ⟨ht.1, ?_⟩, id⟩
    · rw [hqueue]
      simp [QueueOk]
    · rw [hheadOp]
      exact hh
    · rw [hheadOp, ← ht.2, hnone]
      rfl

theorem goSilent_steady (s : State) : Steady s (goSilent s) := by
  rw [goSilent_eq]
  set u := beginCondition .addressConflict
    (silenced (s.withStart { s.start with listen := none, announce := none, departure := none }))
  have hu : Touches [.start, .view, .link, .faults] s u :=
    (((touches_withStart s _).trans (silenced_touches _)).trans (beginCondition_touches _ _)).mono (by decide)
  have hend := (silenceView_touches (silenceRequests (dropClaiming .silenced u))).trans
    (conflictDeparture_touches s.start.departure s.link.halted _)
  exact ((Steady.of_touches hu (by decide) (by decide) (by decide) (by decide)).trans (silenceRequests_steady u)).trans
    (.of_touches hend (by decide) (by decide) (by decide) (by decide))

theorem resetNode_sound (cause : ResetCause) (s : State) : Sound (resetNode cause s) := by
  have hund : Undriven (resetNode cause s) := ⟨rfl, fun k => by simp [resetObj]⟩
  have hstart : Startable (resetNode cause s) := ⟨⟨hund, rfl, rfl, rfl⟩, queueOk_nil, rfl⟩
  exact hstart.sound_of_nil rfl

theorem listening_steady (r : BayRecord) (s : State) : Steady s (listening r s) := by
  refine .of_same rfl rfl rfl rfl (fun k => ?_) fun k => ?_
  · rw [objIn_listening, objIn]
    cases tableGet s.objects k <;> rfl
  · rw [objIn_listening, objIn]
    cases tableGet s.objects k <;> rfl

theorem endSelfTest_steady (s : State) : Steady s (endSelfTest s) := by
  have hidle (u : State) : Steady u (enterUnconfigured u) :=
    .of_touches (touches_withStart u _) (by decide) (by decide) (by decide) (by decide)
  unfold endSelfTest
  split
  · exact hidle s
  · exact hidle s
  · split
    · rw [enterListen_eq]
      have hstore : Steady s (storeInForce s) :=
        .of_touches (touches_withStore s _) (by decide) (by decide) (by decide) (by decide)
      exact (hstore.trans (listening_steady _ _)).trans (.of_touches
        ((qualifyRipeSingles_touches _).trans (qualifyRipeMeasures_touches _)) (by decide) (by decide) (by decide)
        (by decide))
    · have hstore (p : Place) : Steady s (storeRejected p s) :=
        .of_touches (touches_withStore s _) (by decide) (by decide) (by decide) (by decide)
      exact ((hstore _).trans (hidle _)).trans
        (.of_touches (beginCondition_touches _ _) (by decide) (by decide) (by decide) (by decide))

/-! ### Frames on the line -/

theorem claimSent_steady (id : Byte) (s : State) : Steady s (claimSent id s) := by
  unfold claimSent
  split
  · exact .refl s
  · rename_i c hown
    refine .ifThen fun hclaiming => .of_claims rfl fun _ hidle => ?_
    simp [ownHolds, hown, hclaiming.1] at hidle

theorem Steady.of_link {s : State} (m : Link) : Steady s (s.withLink m) :=
  .of_touches (touches_withLink s m) (by decide) (by decide) (by decide) (by decide)

theorem Steady.of_counters {s : State} (m : Counters) : Steady s (s.withCounters m) :=
  .of_touches (touches_withCounters s m) (by decide) (by decide) (by decide) (by decide)

theorem pick_steady (s : State) : Steady s s.pick := .of_link _

theorem claimCollided_steady (id : Byte) (f : Frame) (n : Nat) (removed : Bool) (rest : List NormalItem) (s : State) :
    Steady s (claimCollided id f n removed rest s) := by
  unfold claimCollided
  split
  · exact .of_link _
  · split
    · exact .of_link _
    · refine Steady.trans (t := countAbandoned (s.withLink { s.link with normal := rest }))
        (Steady.trans (.of_link _) (.of_counters _)) ?_
      unfold claimAbandoned
      split
      · exact .refl _
      · exact .ifThen fun _ => judgeWindow_steady _

theorem collide_steady (a : Attempt) (s : State) : Steady s (collide a s) := by
  have hclear : Steady s (clearAttempt s) := .of_link _
  unfold collide
  dsimp only
  split
  · exact hclear.trans (.of_touches ((urgentCollided_touches _ _ _).trans (pick_touches _)) (by decide) (by decide)
      (by decide) (by decide))
  · exact hclear.trans (.of_touches ((markerCollided_touches _ _ _ _ _).trans (pick_touches _)) (by decide) (by decide)
      (by decide) (by decide))
  · exact (hclear.trans (claimCollided_steady _ _ _ _ _ _)).trans (pick_steady _)
  · exact hclear

theorem execFrameSent_steady {s t : State} (h : execFrameSent s = .next t) : Steady s t := by
  cases h
  split
  · exact .refl s
  · have hclear : Steady s (clearAttempt s) := .of_link _
    dsimp only
    split
    · exact (hclear.trans (.of_link _)).trans (pick_steady _)
    · exact hclear.trans (.of_touches ((markerSent_touches _ _ _ _ _).trans (pick_touches _)) (by decide) (by decide)
        (by decide) (by decide))
    · exact ((hclear.trans (.of_link _)).trans (claimSent_steady _ _)).trans (pick_steady _)
    · exact hclear

/-! ### The maintenance port -/

section PortRelations

variable {R : State → State → Prop}

/-- A relation that holds through every change of the port holds through a command that keeps it in its act. -/
theorem portCommand_rel (hport : ∀ s x, R s (s.withPort x)) (hrefl : ∀ s, R s s)
    (htrans : ∀ {s t u : State}, R s t → R t u → R s u) {act : State → State} (hact : ∀ s, R s (act s)) (code : Byte)
    (ok : Bool) (s : State) : R s (portCommand code ok act s) := by
  unfold portCommand
  split
  · unfold oweBusy
    split
    · exact hrefl s
    · exact hport s _
  · have htake : R s (takeExchange code s) := hport s _
    dsimp only
    split
    · exact htrans htake (hact _)
    · exact htrans htake (hport _ _)

/-- The same for the bytes of a command (R170). -/
theorem portFrame_rel (hport : ∀ s x, R s (s.withPort x)) (hrefl : ∀ s, R s s)
    (htrans : ∀ {s t u : State}, R s t → R t u → R s u) {act : Byte → List Byte → State → State}
    (hact : ∀ code args s, R s (act code args s)) (takes : Byte → Bool) (ok : List Byte → Bool) (bytes : List Byte)
    (s : State) : R s (portFrame takes ok act bytes s) := by
  have hgather (kept : List Byte) : R s (setGathered kept bytes s) := hport s _
  unfold portFrame
  split
  · exact hgather _
  · split
    · exact htrans (hgather _) (portCommand_rel hport hrefl htrans (hact _ _) _ _ _)
    · exact hrefl s
  · exact hrefl s
  · exact hrefl s

end PortRelations

theorem respondWith_steady (code status : Byte) (data : List Byte) (s : State) :
    Steady s (respondWith code status data s) :=
  .of_touches (respondWith_touches _ _ _ _) (by decide) (by decide) (by decide) (by decide)

theorem Steady.of_port (s : State) (x : Port) : Steady s (s.withPort x) :=
  .of_touches (touches_withPort s x) (by decide) (by decide) (by decide) (by decide)

theorem finishDeparture_steady (d : Departure) (s : State) : Steady s (finishDeparture d s) :=
  .of_touches (finishDeparture_touches d s) (by decide) (by decide) (by decide) (by decide)

theorem eraseConfig_steady (s : State) : Steady s (eraseConfig s) := by
  intro hd ht
  unfold eraseConfig
  split
  · exact respondWith_steady _ _ _ s hd ht
  · rename_i hno
    rw [not_or] at hno
    split
    · exact (beginDeparture_sound hd ht (by simpa using hno.2) _).steady hd ht
    · exact finishDeparture_steady _ s hd ht

theorem restartNode_steady (s : State) : Steady s (restartNode s) := by
  intro hd ht
  unfold restartNode
  split
  · exact respondWith_steady _ _ _ s hd ht
  · rename_i hno
    split
    · exact (beginDeparture_sound hd ht (by simpa using hno) _).steady hd ht
    · exact finishDeparture_steady _ s hd ht

theorem execResponseSent_steady {s t : State} (h : execResponseSent s = .next t) : Steady s t := by
  cases h
  split
  · exact .refl s
  · split
    · exact .of_port _ _
    · unfold responseEnded
      split
      · split
        · exact (resetNode_sound _ s).steady
        · exact .of_port _ _
      · exact .of_port _ _

end Sys2Proof.Machine

namespace Sys2Proof.Machine

/-! ### The head, the claim and the drive, command by command -/

/-- A command that reaches neither the Request Controller nor the Claim Manager nor the Travel Supervisor nor the object
slots, by its frame. -/
theorem steady_of_frame {c : Instr} {s t : State} (h : exec c s = .next t) (hr : Part.req ∉ mayChange c)
    (hc : Part.claims ∉ mayChange c) (hd : Part.drive ∉ mayChange c) (ho : Part.objects ∉ mayChange c) : Steady s t :=
  .of_touches (touches_of_exec h) hr hc hd ho

theorem execSelfTestEnd_steady {s t : State} (h : execSelfTestEnd s = .next t) : Steady s t := by
  cases h
  exact .ifThen fun _ => endSelfTest_steady s

theorem execRawCombinationChange_steady {slot : Nat} {o c : Bool} {s t : State}
    (h : execRawCombinationChange slot o c s = .next t) : Steady s t := by
  cases h
  exact .ifThen fun _ => .of_putObj rfl rfl

theorem execQualificationEvent_steady {slot : Nat} {s t : State} (h : execQualificationEvent slot s = .next t) :
    Steady s t := by
  cases h
  split
  · exact .refl s
  · exact .ifElse fun _ => (reachTime_steady s _).trans (qualifyObject_steady _ _ _)

theorem execIntermediateLimitExpiry_steady {slot : Nat} {s t : State}
    (h : execIntermediateLimitExpiry slot s = .next t) : Steady s t := by
  cases h
  split
  · exact .refl s
  · rename_i d _
    have hput : Steady (s.reachTime d) ((s.reachTime d).putObj slot
        { objIn s slot with position := .faulty, intermediate := none }) := .of_putObj rfl rfl
    exact .ifThen fun _ => ((reachTime_steady s d).trans hput).trans
      (.of_touches (handPosition_touches _ _) (by decide) (by decide) (by decide) (by decide))

theorem execReadyInputChange_steady {slot : Nat} {c : Bool} {s t : State}
    (h : execReadyInputChange slot c s = .next t) : Steady s t := by
  cases h
  exact .ifThen fun _ => .of_putObj rfl rfl

theorem execReadyQualification_steady {slot : Nat} {s t : State} (h : execReadyQualification slot s = .next t) :
    Steady s t := by
  cases h
  split
  · exact .refl s
  · exact .ifElse fun _ => (reachTime_steady s _).trans (.of_putObj rfl rfl)

theorem Steady.of_handover (s : State) (x : Handover) : Steady s (s.withHandover x) :=
  .of_touches (touches_withHandover s x) (by decide) (by decide) (by decide) (by decide)

theorem execLocalRequest_steady {s t : State} (h : execLocalRequest s = .next t) : Steady s t := by
  cases h
  split
  · exact .refl s
  · exact (Steady.of_handover s _).trans (takeLocal_steady _ _ _)

theorem execSelectorChange_steady {s t : State} (h : execSelectorChange s = .next t) : Steady s t := by
  cases h
  split
  · exact .refl s
  · exact (Steady.of_handover s _).trans (takeSelector_steady _ _)

theorem execPositionChangeTaken_steady {s t : State} (h : execPositionChangeTaken s = .next t) : Steady s t := by
  cases h
  split
  · exact .refl s
  · exact (Steady.of_handover s _).trans (takePosition_steady _ _)

theorem execViewChange_steady {s t : State} (h : execViewChange s = .next t) : Steady s t := by
  cases h
  split
  · exact .refl s
  · exact (Steady.of_handover s _).trans (takeViewReport_steady _ _)

theorem execCollision_steady {halfBit : Nat} {read : Level} {s t : State} (h : execCollision halfBit read s = .next t) :
    Steady s t := by
  cases h
  split
  · exact .refl s
  · split
    · exact .refl s
    · exact .ifElse fun _ => collide_steady _ s

theorem execHeaderReceived_steady {heard : HeardHeader} {s t : State} (h : execHeaderReceived heard s = .next t) :
    Steady s t := by
  cases h
  refine .ifThen fun _ => ?_
  split
  · exact .of_touches (headerFailed_touches _ s) (by decide) (by decide) (by decide) (by decide)
  · split
    · unfold ownSourceHeader
      have hrest : Steady s (s.withLink { s.link with header := none, ignoring := true }) := .of_link _
      dsimp only
      split
      · exact hrest
      · exact hrest.trans (goSilent_steady _)
    · exact .of_link _

theorem finishDelivery_steady (s : State) : Steady s (finishDelivery s) := .of_link _

theorem execStatusClaimPart_steady {s t : State} (h : execStatusClaimPart s = .next t) : Steady s t := by
  cases h
  split
  · exact .refl s
  · exact .ifThen fun _ => (finishDelivery_steady s).trans (takeStatusClaim_steady _ _)

theorem execReleaseTakenByClaims_steady {s t : State} (h : execReleaseTakenByClaims s = .next t) : Steady s t := by
  cases h
  split
  · exact .refl s
  · exact .ifThen fun _ => (finishDelivery_steady s).trans (takeReleaseClaim_steady _ _)

theorem execClaim_steady {s t : State} (h : execClaim s = .next t) : Steady s t := by
  cases h
  split
  · exact .refl s
  · exact .ifThen fun _ => (finishDelivery_steady s).trans (takeClaim_steady _ _)

theorem execAssent_steady {s t : State} (h : execAssent s = .next t) : Steady s t := by
  cases h
  split
  · exact .refl s
  · exact .ifThen fun _ => (finishDelivery_steady s).trans (takeAssent_steady _ _)

theorem execObject_steady {s t : State} (h : execObject s = .next t) : Steady s t := by
  cases h
  split
  · exact .refl s
  · exact .ifThen fun _ => (finishDelivery_steady s).trans (takeObject_steady _ _)

theorem execRequest_steady {s t : State} (h : execRequest s = .next t) : Steady s t := by
  cases h
  split
  · exact .refl s
  · exact .ifThen fun _ => (finishDelivery_steady s).trans (takeRequest_steady _ _)

theorem execCancel_steady {s t : State} (h : execCancel s = .next t) : Steady s t := by
  cases h
  split
  · exact .refl s
  · exact .ifThen fun _ => (finishDelivery_steady s).trans (takeCancel_steady _ _)

/-- The claim window stopped while the own claim is CLAIMING, to be judged. -/
theorem execWindowExpiry_steady {s t : State} (h : execWindowExpiry s = .next t) : Steady s t := by
  cases h
  split
  · rename_i c d hown _
    refine .ifElse fun hheld => ?_
    have hstop : Steady (s.reachTime d) (stopWindow (s.reachTime d)) :=
      .of_claims rfl fun _ hidle => by simp [ownHolds, State.reachTime, hown, hheld] at hidle
    exact ((reachTime_steady s d).trans hstop).trans (judgeWindow_steady _)
  · exact .refl s

theorem execHoldExpiry_steady {k : Nat} {s t : State} (h : execHoldExpiry k s = .next t) : Steady s t := by
  cases h
  split
  · exact .refl s
  · exact (reachTime_steady s _).trans (.of_foreign _)

/-- The defer timer stopped: the DEFERRED head may be started again (R132). -/
theorem execDeferExpiry_steady {s t : State} (h : execDeferExpiry s = .next t) : Steady s t := by
  cases h
  split
  · rename_i op d hop _
    refine .ifThen fun hst => fun hd ht => ?_
    set u := stopDeferTimer (s.reachTime d)
    have hu : Touches [.now, .req] s u := (reachTime_touches s d).trans (stopDeferTimer_touches _)
    have hrest : Resting s :=
      resting_of_own_none (undriven_of_waiting hd hop (by simp [isDriven, hst])) ht (own_none_of_deferred hd hop hst)
    have hstart : Startable u := ⟨hrest.of_touches hu (by decide) (by decide) (by decide), hd.1, rfl⟩
    exact (nextHead_sound hstart).steady hd ht
  · exact .refl s

theorem execDepartureExpiry_steady {s t : State} (h : execDepartureExpiry s = .next t) : Steady s t := by
  cases h
  split
  · exact .refl s
  · split
    · exact .refl s
    · exact .ifElse fun _ => (reachTime_steady s _).trans (endDrive_steady _ _ _)

theorem execTravelExpiry_steady {s t : State} (h : execTravelExpiry s = .next t) : Steady s t := by
  cases h
  split
  · exact .refl s
  · split
    · exact .refl s
    · exact .ifElse fun _ => endOverdue_steady _ _ s

theorem execCoilPulseExpiry_steady {s t : State} (h : execCoilPulseExpiry s = .next t) : Steady s t := by
  cases h
  split
  · exact .refl s
  · rename_i d hrec
    split
    · exact .refl s
    · exact .ifElse fun _ => (reachTime_steady s _).trans (endPulse_steady hrec)

theorem execSettleExpiry_steady {s t : State} (h : execSettleExpiry s = .next t) : Steady s t := by
  cases h
  split
  · exact .refl s
  · split
    · exact .refl s
    · exact .ifThen fun _ => (reachTime_steady s _).trans (endDrive_steady _ _ _)

theorem execEraseConfig_steady {bytes : List Byte} {s t : State} (h : execEraseConfig bytes s = .next t) :
    Steady s t := by
  cases h
  exact portFrame_rel Steady.of_port Steady.refl Steady.trans (fun _ _ => eraseConfig_steady) _ _ _ _

theorem execRestart_steady {bytes : List Byte} {s t : State} (h : execRestart bytes s = .next t) : Steady s t := by
  cases h
  exact portFrame_rel Steady.of_port Steady.refl Steady.trans (fun _ _ => restartNode_steady) _ _ _ _

theorem exec_steady {c : Instr} {s t : State} (h : exec c s = .next t) : Steady s t := by
  cases c with
  | powerOn => cases h; exact (resetNode_sound _ s).steady
  | supplyDip => cases h; exact (resetNode_sound _ s).steady
  | resetLine => cases h; exact (resetNode_sound _ s).steady
  | selfTestEnd => exact execSelfTestEnd_steady h
  | rawCombinationChange => exact execRawCombinationChange_steady h
  | qualificationEvent => exact execQualificationEvent_steady h
  | intermediateLimitExpiry => exact execIntermediateLimitExpiry_steady h
  | readyInputChange => exact execReadyInputChange_steady h
  | readyQualification => exact execReadyQualification_steady h
  | localRequest => exact execLocalRequest_steady h
  | selectorChange => exact execSelectorChange_steady h
  | positionChangeTaken => exact execPositionChangeTaken_steady h
  | collision => exact execCollision_steady h
  | frameSent => exact execFrameSent_steady h
  | headerReceived => exact execHeaderReceived_steady h
  | statusClaimPart => exact execStatusClaimPart_steady h
  | releaseTakenByClaims => exact execReleaseTakenByClaims_steady h
  | claim => exact execClaim_steady h
  | assent => exact execAssent_steady h
  | object => exact execObject_steady h
  | request => exact execRequest_steady h
  | cancel => exact execCancel_steady h
  | viewChange => exact execViewChange_steady h
  | windowExpiry => exact execWindowExpiry_steady h
  | holdExpiry => exact execHoldExpiry_steady h
  | deferExpiry => exact execDeferExpiry_steady h
  | departureExpiry => exact execDepartureExpiry_steady h
  | travelExpiry => exact execTravelExpiry_steady h
  | coilPulseExpiry => exact execCoilPulseExpiry_steady h
  | settleExpiry => exact execSettleExpiry_steady h
  | eraseConfig => exact execEraseConfig_steady h
  | restart => exact execRestart_steady h
  | responseSent => exact execResponseSent_steady h
  | measurementReading which =>
    cases which <;> exact steady_of_frame h (by simp [mayChange, measurePart]) (by simp [mayChange, measurePart])
      (by simp [mayChange, measurePart]) (by simp [mayChange, measurePart])
  | measurementStateChange which =>
    cases which <;> exact steady_of_frame h (by simp [mayChange, measurePart]) (by simp [mayChange, measurePart])
      (by simp [mayChange, measurePart]) (by simp [mayChange, measurePart])
  | _ => exact steady_of_frame h (by simp [mayChange]) (by simp [mayChange]) (by simp [mayChange]) (by simp [mayChange])

/-- Settles O59: every act on the head leaves it started, deferred or ended, its claim and its drive with it, and nothing
else touches what they agree on. -/
theorem stepsKeepDriveCoherent : Obligations.StepsKeepDriveCoherent := by
  intro s t hd ht h
  refine step_rel (R := Steady) (fun x hst => ?_) (fun u => ?_) exec_steady h hd ht
  · exact (Steady.of_touches (touches_withPending _ x) (by decide) (by decide) (by decide) (by decide)).trans hst
  · exact .of_touches (touches_withNow u _) (by decide) (by decide) (by decide) (by decide)

end Sys2Proof.Machine

namespace Sys2Proof.Machine

/-! ### The length of the request queue, and a queue in which nothing waits -/

/-- Nothing waits: no claim is CLAIMING, and the queue holds a driven operation alone, or none. -/
structure Quiet (s : State) : Prop where
  own : ∀ c, s.claims.own = some c → c.held = true
  queue : s.req.queue = [] ∨ ∃ op, s.req.queue = [op] ∧ isDriven op = true

/-- The queue grows no longer, and where nothing waits nothing comes to wait. -/
structure Fits (s t : State) : Prop where
  length : t.req.queue.length ≤ s.req.queue.length
  quiet : Quiet s → Quiet t

theorem Fits.refl (s : State) : Fits s s := ⟨le_refl _, id⟩

theorem Fits.trans {s t u : State} (h : Fits s t) (g : Fits t u) : Fits s u :=
  ⟨g.length.trans h.length, g.quiet ∘ h.quiet⟩

theorem Fits.ifThen {c : Prop} [Decidable c] {s t : State} (h : c → Fits s t) : Fits s (if c then t else s) := by
  split
  · exact h ‹_›
  · exact .refl s

theorem Fits.ifElse {c : Prop} [Decidable c] {s t : State} (h : ¬ c → Fits s t) : Fits s (if c then s else t) := by
  split
  · exact .refl s
  · exact h ‹_›

theorem Fits.of_same {s t : State} (hq : t.req.queue = s.req.queue) (hc : t.claims.own = s.claims.own) : Fits s t :=
  ⟨hq ▸ le_refl _, fun ⟨hown, hqueue⟩ => ⟨hc ▸ hown, hq ▸ hqueue⟩⟩

theorem Fits.of_touches {ps : List Part} {s t : State} (h : Touches ps s t) (hr : Part.req ∉ ps)
    (hc : Part.claims ∉ ps) : Fits s t :=
  .of_same (congrArg Requests.queue (h .req hr)) (congrArg Claims.own (h .claims hc))

/-- A CLAIMING claim is something that waits. -/
theorem Fits.of_claiming {s t : State} {c : OwnClaim} (hown : s.claims.own = some c) (hc : c.held = false)
    (hlen : t.req.queue.length ≤ s.req.queue.length) : Fits s t :=
  ⟨hlen, fun hs => by simp [hs.own c hown] at hc⟩

theorem Fits.of_waiting {s t : State} {op : Operation} (hmem : op ∈ s.req.queue) (hw : isDriven op = false)
    (hlen : t.req.queue.length ≤ s.req.queue.length) : Fits s t := by
  refine ⟨hlen, fun hs => ?_⟩
  rcases hs.queue with hnil | ⟨op', hone, hdriven⟩
  · simp [hnil] at hmem
  · rw [hone, List.mem_singleton] at hmem
    simp [hmem, hdriven] at hw

/-! ### No act on the head makes the queue longer -/

theorem ne_nil_of_headOp {s : State} {op : Operation} (h : headOp s = some op) : s.req.queue ≠ [] := by
  obtain ⟨rest, hq⟩ := headOp_eq_some_iff.1 h
  simp [hq]

theorem setHead_ne_nil (op : Operation) (s : State) : (setHead op s).req.queue ≠ [] := by
  simp [setHead]

theorem setHead_length_of_ne_nil {s : State} (h : s.req.queue ≠ []) (op : Operation) :
    (setHead op s).req.queue.length = s.req.queue.length := by
  cases hq : s.req.queue with
  | nil => exact absurd hq h
  | cons x rest => simp [setHead, hq]

theorem deferHead_length_le (r : Reason) (s : State) : (deferHead r s).1.req.queue.length ≤ s.req.queue.length := by
  unfold deferHead
  split
  · exact le_refl _
  · rename_i op hop
    split
    · exact (setHead_length_of_ne_nil (ne_nil_of_headOp hop) _).le
    · exact endOperation_length_le _ _ _ _

theorem grantHandling_length_le (s : State) : (grantHandling s).1.req.queue.length ≤ s.req.queue.length := by
  unfold grantHandling
  split
  · exact le_refl _
  · rename_i op hop
    dsimp only
    have hset (x : Operation) : (setHead x s).req.queue.length = s.req.queue.length :=
      setHead_length_of_ne_nil (ne_nil_of_headOp hop) x
    have hdefer (x : Operation) :
        (deferHead .notReady (endHeldClaim false (setHead x s))).1.req.queue.length ≤ s.req.queue.length := by
      refine (deferHead_length_le _ _).trans ?_
      rw [endHeldClaim_queue, hset]
    split
    · exact (endOperation_length_le _ _ _ _).trans (by rw [endHeldClaim_queue])
    · split
      · exact hdefer _
      · split
        · rw [show (startDrive _ _ _).req = _ from startDrive_touches _ _ _ .req (by decide),
            setHead_length_of_ne_nil (setHead_ne_nil _ _), hset]
        · exact hdefer _

theorem startClaim_req (op : Operation) (nodes : NodeSet) (s : State) : (startClaim op nodes s).1.req = s.req :=
  startClaim_touches op nodes s .req (by decide)

theorem claimStep_length_le (op : Operation) (nodes : NodeSet) {s : State} (hne : s.req.queue ≠ []) :
    (claimStep op nodes s).1.req.queue.length ≤ s.req.queue.length := by
  have hreq := startClaim_req op nodes s
  unfold claimStep
  split <;> rename_i u h <;> rw [h] at hreq
  · rw [setHead_length_of_ne_nil (by rw [show u.req = s.req from hreq]; exact hne), show u.req = s.req from hreq]
  · exact (grantHandling_length_le u).trans (by rw [show u.req = s.req from hreq])
  · exact (deferHead_length_le _ u).trans (by rw [show u.req = s.req from hreq])
  · exact (deferHead_length_le _ u).trans (by rw [show u.req = s.req from hreq])

theorem startHead_length_le (op : Operation) {s : State} (hne : s.req.queue ≠ []) :
    (startHead op s).1.req.queue.length ≤ s.req.queue.length := by
  have hset (x : Operation) : (setHead x s).req.queue.length = s.req.queue.length := setHead_length_of_ne_nil hne x
  unfold startHead
  split
  · exact endOperation_length_le _ _ _ _
  · split
    · exact endOperation_length_le _ _ _ _
    · dsimp only
      split
      · exact (endOperation_length_le _ _ _ _).trans (hset _).le
      · refine (claimStep_length_le _ _ (setHead_ne_nil _ _)).trans ?_
        rw [setHead_length_of_ne_nil (setHead_ne_nil _ _), hset]

theorem headStart_length_le (s : State) : (headStart s).1.req.queue.length ≤ s.req.queue.length := by
  unfold headStart
  split
  · exact le_refl _
  · rename_i op hop
    have hreq : (seePositions op s).req = s.req := seePositions_touches op s .req (by decide)
    exact (startHead_length_le op (by rw [hreq]; exact ne_nil_of_headOp hop)).trans (by rw [hreq])

theorem runHeads_length_le (n : Nat) (s : State) : (runHeads n s).req.queue.length ≤ s.req.queue.length := by
  induction n generalizing s with
  | zero => exact le_refl _
  | succ n ih =>
    unfold runHeads
    split
    · exact le_refl _
    · dsimp only
      split
      · exact (ih _).trans (headStart_length_le s)
      · exact headStart_length_le s

theorem nextHead_length_le (s : State) : (nextHead s).req.queue.length ≤ s.req.queue.length := runHeads_length_le _ s

theorem nextHead_of_nil {s : State} (h : s.req.queue = []) : nextHead s = s := by
  rw [nextHead, h]
  rfl

theorem followUp_length_le (r : State × Bool) : (followUp r).req.queue.length ≤ r.1.req.queue.length := by
  unfold followUp
  split
  · exact nextHead_length_le _
  · exact le_refl _

theorem takeReport_length_le (rep : ClaimReport) (s : State) :
    (takeReport rep s).req.queue.length ≤ s.req.queue.length := by
  unfold takeReport
  split
  · exact le_refl _
  · split
    · exact (followUp_length_le _).trans (deferHead_length_le _ _)
    · exact (nextHead_length_le _).trans (endOperation_length_le _ _ _ _)
    · exact (nextHead_length_le _).trans (endOperation_length_le _ _ _ _)

theorem withdrawAndReport_length_le (rep : ClaimReport) (o : Option Objection) (s : State) :
    (withdrawAndReport rep o s).req.queue.length ≤ s.req.queue.length := by
  refine (takeReport_length_le _ _).trans ?_
  rw [show (withdrawClaim (reportCause rep) o s).req = s.req from withdrawClaim_touches _ _ s .req (by decide)]

/-! ### Claims -/

theorem judgeWindow_length_le (s : State) : (judgeWindow s).req.queue.length ≤ s.req.queue.length := by
  have hgrant (c : OwnClaim) : (followUp (grantHandling (grantClaim c s))).req.queue.length ≤ s.req.queue.length := by
    refine (followUp_length_le _).trans ((grantHandling_length_le _).trans ?_)
    rw [show (grantClaim c s).req = s.req from grantClaim_touches c s .req (by decide)]
  unfold judgeWindow
  split
  · exact le_refl _
  · split
    · exact le_refl _
    · split
      · exact hgrant _
      · split
        · rw [show (newRound _ s).req = s.req from newRound_touches _ s .req (by decide)]
        · split
          · exact hgrant _
          · exact withdrawAndReport_length_le _ _ _

theorem judgeWindow_fits (s : State) : Fits s (judgeWindow s) := by
  refine ⟨judgeWindow_length_le s, fun hs => ?_⟩
  unfold judgeWindow
  split
  · exact hs
  · rename_i c hown
    rw [if_pos (hs.own c hown)]
    exact hs

theorem reevaluate_length_le (c : OwnClaim) (s : State) : (reevaluate c s).req.queue.length ≤ s.req.queue.length := by
  have hset (r : EvalResult) : (setBypassReason r s).req.queue.length = s.req.queue.length := by
    simp [setBypassReason]
  unfold reevaluate
  split
  · exact withdrawAndReport_length_le _ _ _
  · dsimp only
    split
    · exact (withdrawAndReport_length_le _ _ _).trans (hset _).le
    · split
      · exact (withdrawAndReport_length_le _ _ _).trans (hset _).le
      · exact (hset _).le

theorem takeViewReport_fits (v : ViewReport) (s : State) : Fits s (takeViewReport v s) := by
  have hrem : Fits s (if v.state = some .stale then removeForeign v.station s else s) :=
    .ifThen fun _ => .of_same rfl rfl
  unfold takeViewReport
  generalize (if v.state = some .stale then removeForeign v.station s else s) = u at hrem ⊢
  dsimp only
  split
  · exact hrem
  · rename_i c hown
    exact hrem.trans (.ifElse fun hheld => .of_claiming hown (by simpa using hheld) (reevaluate_length_le c u))

theorem takeObject_fits (f : Frame) (s : State) : Fits s (takeObject f s) := by
  refine .ifThen fun hcount => ?_
  obtain ⟨c, hown, hc⟩ := claiming_of_answerCounts hcount
  exact .of_claiming hown hc (withdrawAndReport_length_le _ _ _)

theorem respondClaim_fits {r : ClaimResponse} {s : State}
    (h : r = .giveWay → ∃ own, s.claims.own = some own ∧ own.held = false) (concerned : Bool) (station : Nat)
    (c : ClaimPart) : Fits s (respondClaim r concerned station c s) := by
  have hurgent (f : Frame) (u : State) : Fits u (handUrgent f u) :=
    .of_touches (handUrgent_touches f u) (by decide) (by decide)
  cases r with
  | objectHeld => exact hurgent _ s
  | objectRank => exact hurgent _ s
  | giveWay =>
    obtain ⟨own, hown, hheld⟩ := h rfl
    have hwithdraw : Fits s (withdrawAndReport (.defer .conflict) none s) :=
      .of_claiming hown hheld (withdrawAndReport_length_le _ _ _)
    exact hwithdraw.trans (.ifThen fun _ => hurgent _ _)
  | assent => exact hurgent _ s
  | silent => exact .refl s

theorem takeClaim_fits (f : Frame) (s : State) : Fits s (takeClaim f s) := by
  have hrecord (station : Nat) (c : ClaimPart) (a : Bool) : Fits s (recordForeign station c a s) := .of_same rfl rfl
  unfold takeClaim
  split
  · split
    · exact .refl s
    · split
      · exact .of_touches (claimFromStale_touches _ _ s) (by decide) (by decide)
      · unfold judgeClaim
        split
        · exact (hrecord _ _ _).trans (respondClaim_fits giveWay_claiming _ _ _)
        · exact hrecord _ _ _
  · exact .refl s

/-! ### The queue's own events -/

theorem takePosition_fits (k : Nat) (s : State) : Fits s (takePosition k s) := by
  unfold takePosition
  split
  · exact .refl s
  · rename_i op hop
    refine .ifThen fun hwait => ?_
    have hw : isDriven op = false := by
      rcases hwait.2 with h | h <;> simp [isDriven, h]
    refine .of_waiting (List.mem_of_head? hop) hw ((nextHead_length_le _).trans ?_)
    exact (endOperation_length_le _ _ _ _).trans (by rw [withdrawFor_req])

theorem cancelOperation_length_le (op : Operation) (station : Nat) (tag : Byte) (s : State) :
    (cancelOperation op station tag s).req.queue.length ≤ s.req.queue.length := by
  have hend : (endOperation op .cancelled .requested
      (handAccept station tag .cancelTaken (withdrawFor op s))).req.queue.length ≤ s.req.queue.length := by
    refine (endOperation_length_le _ _ _ _).trans ?_
    rw [show (handAccept station tag .cancelTaken _).req = _ from handUrgent_touches _ _ .req (by decide),
      withdrawFor_req]
  unfold cancelOperation
  dsimp only
  split
  · exact (nextHead_length_le _).trans hend
  · exact hend

theorem takeCancel_fits (f : Frame) (s : State) : Fits s (takeCancel f s) := by
  have hurgent (tag : Byte) (d : Disposition) : Fits s (handAccept f.src tag d s) :=
    .of_touches (handUrgent_touches _ s) (by decide) (by decide)
  unfold takeCancel
  dsimp only
  refine .ifThen fun _ => ?_
  split
  · exact hurgent _ _
  · rename_i op hfind
    split
    · exact hurgent _ _
    · rename_i hdriven
      exact .of_waiting (List.mem_of_find?_eq_some hfind) (by simpa using hdriven) (cancelOperation_length_le _ _ _ _)

theorem cancelBySelector_length_le (ops : List Operation) (s : State) :
    (ops.foldl cancelBySelector s).req.queue.length ≤ s.req.queue.length := by
  induction ops generalizing s with
  | nil => exact le_refl _
  | cons op ops ih =>
    refine (ih _).trans ((endOperation_length_le _ _ _ _).trans ?_)
    rw [withdrawFor_req]

theorem takeSelector_fits (sel : Selector) (s : State) : Fits s (takeSelector sel s) := by
  cases hops : mismatched sel s with
  | nil =>
    have heq : takeSelector sel s = s := by simp [takeSelector, hops]
    rw [heq]
    exact .refl s
  | cons op ops =>
    obtain ⟨hmem, hw⟩ := mem_mismatched (sel := sel) (s := s) (op := op) (by simp [hops])
    refine .of_waiting hmem hw ?_
    unfold takeSelector
    dsimp only
    split
    · exact (nextHead_length_le _).trans (cancelBySelector_length_le _ _)
    · exact cancelBySelector_length_le _ _

/-! ### The drive -/

theorem endHeldClaim_own (driven : Bool) (s : State) : (endHeldClaim driven s).claims.own = none := by
  cases hown : s.claims.own with
  | none => rw [endHeldClaim_of_none hown, hown]
  | some c => rw [endHeldClaim_claims hown]

/-- A driven operation that ends while nothing waits leaves an empty queue. -/
theorem reportDriveEnd_fits (o : OpOutcome) (r : Reason) (s : State) : Fits s (reportDriveEnd o r s) := by
  unfold reportDriveEnd
  split
  · exact .refl s
  · rename_i op hop
    refine ⟨(nextHead_length_le _).trans (endOperation_length_le _ _ _ _), fun hs => ?_⟩
    rcases hs.queue with hnil | ⟨op', hone, hdriven⟩
    · exact absurd hnil (ne_nil_of_headOp hop)
    · obtain rfl : op' = op := by simpa [headOp, hone] using hop
      set v := endOperation op' o (if o = .done then doneReason op' else r) s
      have hqueue : v.req.queue = [] := by simp [v, endOperation_queue, hone, isNamed]
      have hown : v.claims.own = none := by
        have hcl : v.claims = (endHeldClaim true s).claims := by
          simp only [v, endOperation_eq, hdriven, if_true]
          exact answeredEnd_touches _ _ _ _ .claims (by decide)
        rw [hcl, endHeldClaim_own]
      rw [nextHead_of_nil hqueue]
      exact ⟨fun c hc => by simp [hown] at hc, .inl hqueue⟩

theorem endDrive_fits (o : OpOutcome) (r : Reason) (s : State) : Fits s (endDrive o r s) := by
  unfold endDrive
  split
  · exact .refl s
  · rename_i d hrec
    have hstop : Touches [.drive, .objects] s (clearCommanded d.object (stopDrive d s)) :=
      (stopDrive_touches d s).trans (clearCommanded_touches _ _)
    have hu := hstop.trans ((Touches.refl _ _).ifThen (c := o = .failed) (reportEvent_touches .travelFail _))
    exact Fits.trans (.of_touches hu (by decide) (by decide)) (reportDriveEnd_fits o r _)

theorem arrive_fits (d : DriveRecord) (s : State) : Fits s (arrive d s) := by
  unfold arrive
  dsimp only
  split
  · exact .of_same rfl rfl
  · rename_i op hop
    refine ⟨(setHead_length_of_ne_nil (ne_nil_of_headOp hop) _).le, fun hs => ⟨hs.own, .inr ?_⟩⟩
    refine ⟨{ op with state := .settling }, ?_, rfl⟩
    rcases hs.queue with hnil | ⟨op', hone, _⟩
    · exact absurd hnil (ne_nil_of_headOp hop)
    · simp [setHead, hone]

theorem superviseEvent_fits (c : Comb) (s : State) : Fits s (superviseEvent c s) := by
  unfold superviseEvent
  split
  · exact .refl s
  · split
    · exact .ifElse fun _ => endDrive_fits _ _ s
    · split
      · exact arrive_fits _ s
      · split
        · exact endDrive_fits _ _ s
        · split
          · exact endDrive_fits _ _ s
          · exact .of_same rfl rfl

theorem qualifyObject_fits (k : Nat) (c : Comb) (s : State) : Fits s (qualifyObject k c s) := by
  have hput : Fits s (s.putObj k (qualifiedObj s (objIn s k) c)) := .of_same rfl rfl
  have hhand (u : State) : Fits u (handPosition k u) :=
    .of_touches (handPosition_touches k u) (by decide) (by decide)
  unfold qualifyObject superviseIf
  dsimp only
  split
  · split
    · exact hput.trans (superviseEvent_fits c _)
    · exact (hput.trans (hhand _)).trans (superviseEvent_fits c _)
  · split
    · exact hput
    · exact hput.trans (hhand _)

end Sys2Proof.Machine

namespace Sys2Proof.Machine

/-! ### The request queue within its bounds (R122, R141, R167) -/

/-- The bounds of the request queue are kept. -/
def KeepsRoom (s t : State) : Prop := DriveCoherent s → QueueFits s → QueueFits t

theorem KeepsRoom.refl (s : State) : KeepsRoom s s := fun _ h => h

theorem KeepsRoom.ifThen {c : Prop} [Decidable c] {s t : State} (h : c → KeepsRoom s t) :
    KeepsRoom s (if c then t else s) := by
  split
  · exact h ‹_›
  · exact .refl s

/-- In SILENT nothing waits: the queue holds a driven head alone, and its claim is HELD (R141). -/
theorem quiet_of_driven {s : State} (h : DriveCoherent s) (hall : (s.req.queue.all isDriven) = true) : Quiet s := by
  refine ⟨fun c hown => ?_, ?_⟩
  · by_contra hc
    obtain ⟨op, hop, hst, _⟩ := head_of_claiming h hown (by simpa using hc)
    have hd := List.all_eq_true.1 hall op (List.mem_of_head? hop)
    simp [isDriven, hst] at hd
  · cases hq : s.req.queue with
    | nil => exact .inl rfl
    | cons op rest =>
      rw [hq, List.all_cons, Bool.and_eq_true] at hall
      refine .inr ⟨op, ?_, hall.1⟩
      cases rest with
      | nil => rfl
      | cons x rest =>
        have hx : x.state = .queued := h.1.1 x (by simp [hq])
        have hd : isDriven x = true := List.all_eq_true.1 hall.2 x (List.mem_cons_self)
        simp [isDriven, hx] at hd

theorem driven_of_quiet {s : State} (h : Quiet s) : (s.req.queue.all isDriven) = true := by
  rcases h.queue with hnil | ⟨op, hone, hd⟩
  · simp [hnil]
  · simp [hone, hd]

theorem Fits.keepsRoom {s t : State} (h : Fits s t) (hc : t.copy = s.copy) (hs : t.start = s.start) :
    KeepsRoom s t := by
  rintro hd ⟨h1, h2, h3, h4, h5⟩
  have hnil (hq : s.req.queue = []) : t.req.queue = [] := by
    have hlen := h.length
    rw [hq] at hlen
    exact List.length_eq_zero_iff.1 (Nat.le_zero.1 hlen)
  refine ⟨fun r hr => h.length.trans (h1 r (hc ▸ hr)), fun hr => hnil (h2 (hc ▸ hr)), fun hr hsil => ?_, fun hsil => ?_,
    fun hdep => ?_⟩
  · exact hnil (h3 (hs ▸ hr) (hs ▸ hsil))
  · exact driven_of_quiet (h.quiet (quiet_of_driven hd (h4 (hs ▸ hsil))))
  · exact hnil (h5 (hs ▸ hdep))

theorem queueFits_of_nil {s : State} (h : s.req.queue = []) : QueueFits s := by
  simp [QueueFits, h]

/-- Before READY the queue is empty (R141), and stays so through whatever leaves it alone. -/
theorem keepsRoom_before_ready {s t : State} (hq : t.req.queue = s.req.queue) (hr : s.start.phase ≠ .ready)
    (hs : s.start.phase ≠ .silent) : KeepsRoom s t :=
  fun _ ⟨_, _, h3, _, _⟩ => queueFits_of_nil (hq.trans (h3 hr hs))

theorem keepsRoom_of_touches {ps : List Part} {s t : State} (h : Touches ps s t) (hr : Part.req ∉ ps)
    (hc : Part.copy ∉ ps) (hs : Part.start ∉ ps) : KeepsRoom s t := by
  have hreq : t.req = s.req := h .req hr
  have hcopy : t.copy = s.copy := h .copy hc
  have hstart : t.start = s.start := h .start hs
  rintro - hf
  rw [QueueFits, hreq, hcopy, hstart]
  exact hf

/-- A command whose frame leaves the queue, the phase and the copy. -/
theorem keepsRoom_of_frame {c : Instr} {s t : State} (h : exec c s = .next t) (hr : Part.req ∉ mayChange c)
    (hc : Part.copy ∉ mayChange c) (hs : Part.start ∉ mayChange c) : KeepsRoom s t :=
  keepsRoom_of_touches (touches_of_exec h) hr hc hs

/-- A command whose frame leaves the phase and the copy. -/
theorem keepsRoom_of_fits {c : Instr} {s t : State} (h : exec c s = .next t) (hf : Fits s t)
    (hc : Part.copy ∉ mayChange c) (hs : Part.start ∉ mayChange c) : KeepsRoom s t :=
  hf.keepsRoom (touches_of_exec h .copy hc) (touches_of_exec h .start hs)

/-! ### Commands that reach the queue -/

theorem finishDelivery_fits (s : State) : Fits s (finishDelivery s) := .of_same rfl rfl
theorem reachTime_fits (s : State) (e : Nat) : Fits s (s.reachTime e) := .of_same rfl rfl
theorem stopWindow_fits (s : State) : Fits s (stopWindow s) := .of_same rfl rfl
theorem Fits.of_handover (s : State) (x : Handover) : Fits s (s.withHandover x) := .of_same rfl rfl

theorem execQualificationEvent_fits {slot : Nat} {s t : State} (h : execQualificationEvent slot s = .next t) :
    Fits s t := by
  cases h
  split
  · exact .refl s
  · exact .ifElse fun _ => (reachTime_fits s _).trans (qualifyObject_fits _ _ _)

theorem execSelectorChange_fits {s t : State} (h : execSelectorChange s = .next t) : Fits s t := by
  cases h
  split
  · exact .refl s
  · exact (Fits.of_handover s _).trans (takeSelector_fits _ _)

theorem execPositionChangeTaken_fits {s t : State} (h : execPositionChangeTaken s = .next t) : Fits s t := by
  cases h
  split
  · exact .refl s
  · exact (Fits.of_handover s _).trans (takePosition_fits _ _)

theorem execViewChange_fits {s t : State} (h : execViewChange s = .next t) : Fits s t := by
  cases h
  split
  · exact .refl s
  · exact (Fits.of_handover s _).trans (takeViewReport_fits _ _)

theorem execClaim_fits {s t : State} (h : execClaim s = .next t) : Fits s t := by
  cases h
  split
  · exact .refl s
  · exact .ifThen fun _ => (finishDelivery_fits s).trans (takeClaim_fits _ _)

theorem execObject_fits {s t : State} (h : execObject s = .next t) : Fits s t := by
  cases h
  split
  · exact .refl s
  · exact .ifThen fun _ => (finishDelivery_fits s).trans (takeObject_fits _ _)

theorem execCancel_fits {s t : State} (h : execCancel s = .next t) : Fits s t := by
  cases h
  split
  · exact .refl s
  · exact .ifThen fun _ => (finishDelivery_fits s).trans (takeCancel_fits _ _)

theorem execWindowExpiry_fits {s t : State} (h : execWindowExpiry s = .next t) : Fits s t := by
  cases h
  split
  · exact .ifElse fun _ => ((reachTime_fits s _).trans (stopWindow_fits _)).trans (judgeWindow_fits _)
  · exact .refl s

theorem execDeferExpiry_fits {s t : State} (h : execDeferExpiry s = .next t) : Fits s t := by
  cases h
  split
  · rename_i op d hop _
    refine .ifThen fun hst => .of_waiting (List.mem_of_head? hop) (by simp [isDriven, hst]) ?_
    exact nextHead_length_le (stopDeferTimer (s.reachTime d))
  · exact .refl s

theorem endDrive_reached_fits (o : OpOutcome) (r : Reason) (e : Nat) (s : State) :
    Fits s (endDrive o r (s.reachTime e)) :=
  (reachTime_fits s e).trans (endDrive_fits o r _)

theorem execDepartureExpiry_fits {s t : State} (h : execDepartureExpiry s = .next t) : Fits s t := by
  cases h
  split
  · exact .refl s
  · split
    · exact .refl s
    · exact .ifElse fun _ => endDrive_reached_fits _ _ _ s

theorem execTravelExpiry_fits {s t : State} (h : execTravelExpiry s = .next t) : Fits s t := by
  cases h
  split
  · exact .refl s
  · split
    · exact .refl s
    · refine .ifElse fun _ => ?_
      unfold endOverdue
      split <;> exact endDrive_reached_fits _ _ _ s

theorem execSettleExpiry_fits {s t : State} (h : execSettleExpiry s = .next t) : Fits s t := by
  cases h
  split
  · exact .refl s
  · split
    · exact .refl s
    · exact .ifThen fun _ => endDrive_reached_fits _ _ _ s

/-! ### New operations -/

theorem joinQueue_length_le (op : Operation) (s : State) :
    (joinQueue op s).req.queue.length ≤ s.req.queue.length + 1 := by
  unfold joinQueue
  dsimp only
  split
  · exact (nextHead_length_le _).trans (by simp)
  · simp

/-- In service the queue has room for one operation more than it holds, up to field 4. -/
theorem queueFits_of_joined {s t : State} (hserve : inService s = true)
    (hlen : s.req.queue.length < fieldOf s (·.depth))
    (hq : t.req.queue.length ≤ s.req.queue.length + 1) (hc : t.copy = s.copy) (hs : t.start = s.start) :
    QueueFits t := by
  obtain ⟨hphase, hdep⟩ := (inService_iff s).1 hserve
  refine ⟨fun r hr => ?_, fun hnone => ?_, fun hr => ?_, fun hsil => ?_, fun hd => ?_⟩
  · rw [hc] at hr
    simp only [fieldOf, hr] at hlen
    omega
  · rw [hc] at hnone
    simp [fieldOf, hnone] at hlen
  · exact absurd (hs ▸ hphase) hr
  · simp [hs, hphase] at hsil
  · exact absurd (hs ▸ hdep) hd

theorem joinQueue_keepsRoom {s : State} (hserve : inService s = true) (hlen : s.req.queue.length < fieldOf s (·.depth))
    (op : Operation) : QueueFits (joinQueue op s) :=
  queueFits_of_joined hserve hlen (joinQueue_length_le op s) (joinQueue_touches op s .copy (by decide))
    (joinQueue_touches op s .start (by decide))

theorem takeLocal_keepsRoom (slot : Nat) (dir : Direction) (s : State) : KeepsRoom s (takeLocal slot dir s) := by
  unfold takeLocal
  refine .ifThen fun hserve => ?_
  split
  · refine Fits.keepsRoom (.of_same ?_ ?_) (setLastLocal_touches _ s .copy (by decide))
      (setLastLocal_touches _ s .start (by decide))
    · unfold setLastLocal
      split
      · rfl
      · rw [show (ownChanged _).req = _ from ownChanged_touches _ .req (by decide)]
        rfl
    · exact congrArg Claims.own (setLastLocal_touches _ s .claims (by decide))
  · rename_i hpass
    exact fun _ _ => joinQueue_keepsRoom hserve (fresh_of_requestChecks hpass).2 _

theorem takeRequest_keepsRoom (f : Frame) (s : State) : KeepsRoom s (takeRequest f s) := by
  have hurgent (tag : Byte) (d : Disposition) : Touches [.link, .counters] s (handAccept f.src tag d s) :=
    handUrgent_touches _ s
  unfold takeRequest
  split
  · exact .refl s
  · rename_i tag k dir cls hscreen
    split
    · exact keepsRoom_of_touches (hurgent _ _) (by decide) (by decide) (by decide)
    · rename_i hpass
      have hserve : inService s = true := by
        by_contra hno
        simp [screenRequest, hno] at hscreen
      obtain ⟨_, hlen⟩ := fresh_of_requestChecks (requestChecks_of_requestDisposition hpass)
      have hacc := hurgent tag .queued
      have hreq : (handAccept f.src tag .queued s).req = s.req := hacc .req (by decide)
      have hcopy : (handAccept f.src tag .queued s).copy = s.copy := hacc .copy (by decide)
      have hstart : (handAccept f.src tag .queued s).start = s.start := hacc .start (by decide)
      refine fun _ _ => joinQueue_keepsRoom ?_ ?_ _
      · rw [inService, hstart]
        exact hserve
      · rw [hreq, fieldOf, hcopy]
        exact hlen

theorem execLocalRequest_keepsRoom {s t : State} (h : execLocalRequest s = .next t) : KeepsRoom s t := by
  cases h
  split
  · exact .refl s
  · exact fun hd hf => takeLocal_keepsRoom _ _ (s.withHandover _) hd hf

theorem execRequest_keepsRoom {s t : State} (h : execRequest s = .next t) : KeepsRoom s t := by
  cases h
  split
  · exact .refl s
  · exact .ifThen fun _ hd hf => takeRequest_keepsRoom _ (finishDelivery s) hd hf

/-! ### Phases -/

theorem resetNode_keepsRoom (cause : ResetCause) (s : State) : KeepsRoom s (resetNode cause s) :=
  fun _ _ => queueFits_of_nil rfl

theorem endSelfTest_queue (s : State) : (endSelfTest s).req.queue = s.req.queue := by
  unfold endSelfTest
  split
  · rfl
  · rfl
  · split
    · rw [enterListen_eq]
      have hend (u : State) : (qualifyRipeMeasures (qualifyRipeSingles u)).req = u.req :=
        ((qualifyRipeSingles_touches u).trans (qualifyRipeMeasures_touches _)) .req (by decide)
      rw [hend]
      rfl
    · exact congrArg Requests.queue (beginCondition_touches .configInvalid _ .req (by decide))

theorem execSelfTestEnd_keepsRoom {s t : State} (h : execSelfTestEnd s = .next t) : KeepsRoom s t := by
  cases h
  refine .ifThen fun hp => keepsRoom_before_ready (endSelfTest_queue s) (by simp [hp]) (by simp [hp])

theorem execListenExpiry_keepsRoom {s t : State} (h : execListenExpiry s = .next t) : KeepsRoom s t := by
  cases h
  split
  · exact .refl s
  · refine .ifThen fun hp => keepsRoom_before_ready ?_ (by simp [hp]) (by simp [hp])
    exact congrArg Requests.queue (((reachTime_touches s _).trans (enterAnnounce_touches _)) .req (by decide))

theorem execAnnounceExpiry_keepsRoom {s t : State} (h : execAnnounceExpiry s = .next t) : KeepsRoom s t := by
  cases h
  split
  · exact .refl s
  · refine .ifThen fun hp => keepsRoom_before_ready ?_ (by simp [hp]) (by simp [hp])
    exact congrArg Requests.queue (((reachTime_touches s _).trans
      ((touches_withStart _ _).trans (requestStatus_touches _))) .req (by decide))

theorem markerAbandoned_start (renew final : Bool) (rest : List NormalItem) (s : State) :
    (markerAbandoned renew final rest s).start = s.start := by
  set v := markerEnded false
    (countAbandoned (s.withLink { s.link with normal := rest ++ followingMarker renew final true }))
  have hv : Touches [.link, .counters, .view] s v :=
    ((touches_withLink s _).trans (countAbandoned_touches _)).trans (markerEnded_touches false _)
  have hask := (Touches.refl [.link] v).ifThen (c := v.start.phase = .announce) (requestStatus_touches v)
  have hend := (hv.trans hask).trans ((Touches.refl _ _).ifThen (c := final = true) (endDeparture_touches _))
  exact hend .start (by decide)

theorem claimCollided_fits (id : Byte) (f : Frame) (n : Nat) (removed : Bool) (rest : List NormalItem) (s : State) :
    Fits s (claimCollided id f n removed rest s) := by
  unfold claimCollided
  split
  · exact .of_same rfl rfl
  · split
    · exact .of_same rfl rfl
    · have hcount : Fits s (countAbandoned (s.withLink { s.link with normal := rest })) := .of_same rfl rfl
      refine hcount.trans ?_
      unfold claimAbandoned
      split
      · exact .refl _
      · exact .ifThen fun _ => judgeWindow_fits _

theorem collide_keepsRoom (a : Attempt) (s : State) : KeepsRoom s (collide a s) := by
  unfold collide
  dsimp only
  split
  · exact keepsRoom_of_touches ((clearAttempt_touches s).trans
      ((urgentCollided_touches _ _ _).trans (pick_touches _))) (by decide) (by decide) (by decide)
  · rename_i renew final n rest _ _
    set u := markerCollided renew final n rest (clearAttempt s)
    have hu : Touches markerParts s u := ((clearAttempt_touches s).trans (markerCollided_touches _ _ _ _ _)).mono
      (by decide)
    have hstart : u.start = s.start := by
      unfold u markerCollided
      split
      · rfl
      · exact markerAbandoned_start _ _ _ _
    exact Fits.keepsRoom (.of_same (congrArg Requests.queue (hu .req (by decide)))
      (congrArg Claims.own (hu .claims (by decide)))) (hu .copy (by decide)) hstart
  · rename_i id f n removed rest _ _
    set u := claimCollided id f n removed rest (clearAttempt s)
    have hu : Touches headParts s u := ((clearAttempt_touches s).trans (claimCollided_touches _ _ _ _ _ _)).mono
      (by decide)
    have hclear : Fits s (clearAttempt s) := .of_same rfl rfl
    have hfits : Fits s u := hclear.trans (claimCollided_fits id f n removed rest _)
    exact Fits.keepsRoom (hfits.trans (.of_same rfl rfl)) (hu .copy (by decide)) (hu .start (by decide))
  · exact keepsRoom_of_touches (clearAttempt_touches s) (by decide) (by decide) (by decide)

theorem execCollision_keepsRoom {halfBit : Nat} {read : Level} {s t : State}
    (h : execCollision halfBit read s = .next t) : KeepsRoom s t := by
  cases h
  split
  · exact .refl s
  · split
    · exact .refl s
    · split
      · exact .refl s
      · exact collide_keepsRoom _ s

/-- Outside ANNOUNCE the end of a marker leaves the phase and the departure (R166, R167). -/
theorem markerSent_start {s : State} (h : s.start.phase ≠ .announce) (renew final : Bool) (rest : List NormalItem)
    (a : Attempt) : (markerSent renew final rest a s).start = s.start := by
  set v := markerEnded a.inReady (s.withLink
    { s.link with normal := rest ++ followingMarker renew final a.frame.final })
  have hv : v.start = s.start := rfl
  have heq : markerSent renew final rest a s = if final && a.frame.final then endDeparture v else v := by
    have hphase : ¬ v.start.phase = .announce := h
    change (if final && a.frame.final then endDeparture (if v.start.phase = .announce then enterReady v else v)
      else if v.start.phase = .announce then enterReady v else v) = _
    rw [if_neg hphase]
  rw [heq]
  split
  · exact Eq.trans (endDeparture_touches v .start (by decide)) hv
  · exact hv

theorem markerSent_keepsRoom (renew final : Bool) (rest : List NormalItem) (a : Attempt) (s : State) :
    KeepsRoom s (markerSent renew final rest a s) := by
  have ht := markerSent_touches renew final rest a s
  have hq : (markerSent renew final rest a s).req.queue = s.req.queue := congrArg Requests.queue (ht .req (by decide))
  by_cases hp : s.start.phase = .announce
  · exact keepsRoom_before_ready hq (by simp [hp]) (by simp [hp])
  · exact Fits.keepsRoom (.of_same hq (congrArg Claims.own (ht .claims (by decide)))) (ht .copy (by decide))
      (markerSent_start hp _ _ _ _)

theorem execFrameSent_keepsRoom {s t : State} (h : execFrameSent s = .next t) : KeepsRoom s t := by
  cases h
  split
  · exact .refl s
  · dsimp only
    split
    · exact fun _ hf => hf
    · exact fun hd hf => markerSent_keepsRoom _ _ _ _ (clearAttempt s) hd hf
    · exact keepsRoom_of_touches ((clearAttempt_touches s).trans ((touches_withLink _ _).trans
        ((claimSent_touches _ _).trans (pick_touches _)))) (by decide) (by decide) (by decide)
    · exact fun _ hf => hf

/-- In SILENT the driven operations alone are left (R141). -/
theorem goSilent_keepsRoom (s : State) : KeepsRoom s (goSilent s) := by
  rintro - ⟨h1, h2, _, _, _⟩
  have hphase := goSilent_phase s
  have hcopy : (goSilent s).copy = s.copy := goSilent_touches s .copy (by decide)
  have hqueue : (goSilent s).req.queue = s.req.queue.filter isDriven := by
    rw [goSilent_eq]
    set u := beginCondition .addressConflict
      (silenced (s.withStart { s.start with listen := none, announce := none, departure := none }))
    have hu : Touches [.start, .view, .link, .faults] s u :=
      (((touches_withStart s _).trans (silenced_touches _)).trans (beginCondition_touches _ _)).mono (by decide)
    have hdrop : (dropClaiming .silenced u).req = s.req :=
      Eq.trans (dropClaiming_touches .silenced u .req (by decide)) (hu .req (by decide))
    have hend := (silenceView_touches (silenceRequests (dropClaiming .silenced u))).trans
      (conflictDeparture_touches s.start.departure s.link.halted _)
    rw [show (conflictDeparture _ _ _).req = _ from hend .req (by decide), silenceRequests, State.withReq_req, hdrop]
  have hdep : (goSilent s).start.departure = none := by
    rw [goSilent_eq, show State.start (conflictDeparture _ _ _) = _ from afterSilenced_touches _ _ _ .start (by decide)]
    exact congrArg StartUp.departure (ownChanged_touches (State.withStart _ _) .start (by decide))
  refine ⟨fun r hr => ?_, fun hnone => ?_, fun _ hsil => absurd hphase hsil, fun _ => ?_, fun hd => absurd hdep hd⟩
  · rw [hqueue]
    exact (List.length_filter_le _ _).trans (h1 r (hcopy ▸ hr))
  · simp [hqueue, h2 (hcopy ▸ hnone)]
  · simp [hqueue, List.all_filter]

theorem execHeaderReceived_keepsRoom {heard : HeardHeader} {s t : State} (h : execHeaderReceived heard s = .next t) :
    KeepsRoom s t := by
  cases h
  refine .ifThen fun _ => ?_
  split
  · exact fun _ hf => hf
  · split
    · unfold ownSourceHeader
      dsimp only
      split
      · exact fun _ hf => hf
      · exact fun hd hf => goSilent_keepsRoom (s.withLink _) hd hf
    · exact fun _ hf => hf

theorem beginDeparture_queue (d : Departure) (s : State) : (beginDeparture d s).req.queue = [] := by
  rw [beginDeparture_eq]
  exact congrArg Requests.queue (((dropClaiming_touches _ _).trans (requestFinal_touches _)) .req (by decide))

/-- A command of the port that restarts the node empties the queue, or leaves it (R167, R175). -/
def Departs (s t : State) : Prop :=
  t.req.queue = [] ∨ (t.req.queue = s.req.queue ∧ t.copy = s.copy ∧ t.start = s.start ∧ t.claims.own = s.claims.own)

theorem Departs.refl (s : State) : Departs s s := .inr ⟨rfl, rfl, rfl, rfl⟩

theorem Departs.trans {s t u : State} (h : Departs s t) (g : Departs t u) : Departs s u := by
  rcases g with g | ⟨hq, hc, hs, ho⟩
  · exact .inl g
  · rcases h with h | ⟨hq', hc', hs', ho'⟩
    · exact .inl (hq.trans h)
    · exact .inr ⟨hq.trans hq', hc.trans hc', hs.trans hs', ho.trans ho'⟩

theorem Departs.of_touches {s t : State} (h : Touches [.store, .faults, .port] s t) : Departs s t :=
  .inr ⟨congrArg Requests.queue (h .req (by decide)), h .copy (by decide), h .start (by decide),
    congrArg Claims.own (h .claims (by decide))⟩

theorem Departs.keepsRoom {s t : State} (h : Departs s t) : KeepsRoom s t := by
  rcases h with h | ⟨hq, hc, hs, ho⟩
  · exact fun _ _ => queueFits_of_nil h
  · exact (Fits.of_same hq ho).keepsRoom hc hs

theorem eraseConfig_departs (s : State) : Departs s (eraseConfig s) := by
  unfold eraseConfig
  split
  · exact .of_touches ((respondWith_touches _ _ _ s).mono (by decide))
  · split
    · exact .inl (beginDeparture_queue _ s)
    · exact .of_touches ((finishDeparture_touches _ s).mono (by decide))

theorem restartNode_departs (s : State) : Departs s (restartNode s) := by
  unfold restartNode
  split
  · exact .of_touches ((respondWith_touches _ _ _ s).mono (by decide))
  · split
    · exact .inl (beginDeparture_queue _ s)
    · exact .of_touches ((finishDeparture_touches _ s).mono (by decide))

theorem departs_of_port (s : State) (x : Port) : Departs s (s.withPort x) := .inr ⟨rfl, rfl, rfl, rfl⟩

theorem execEraseConfig_keepsRoom {bytes : List Byte} {s t : State} (h : execEraseConfig bytes s = .next t) :
    KeepsRoom s t := by
  cases h
  exact (portFrame_rel departs_of_port .refl .trans (fun _ _ => eraseConfig_departs) _ _ _ s).keepsRoom

theorem execRestart_keepsRoom {bytes : List Byte} {s t : State} (h : execRestart bytes s = .next t) :
    KeepsRoom s t := by
  cases h
  exact (portFrame_rel departs_of_port .refl .trans (fun _ _ => restartNode_departs) _ _ _ s).keepsRoom

theorem execResponseSent_keepsRoom {s t : State} (h : execResponseSent s = .next t) : KeepsRoom s t := by
  cases h
  split
  · exact .refl s
  · split
    · exact (departs_of_port s _).keepsRoom
    · unfold responseEnded
      split
      · split
        · exact resetNode_keepsRoom _ s
        · exact (departs_of_port s _).keepsRoom
      · exact (departs_of_port s _).keepsRoom

theorem exec_keepsRoom {c : Instr} {s t : State} (h : exec c s = .next t) : KeepsRoom s t := by
  cases c with
  | powerOn => cases h; exact resetNode_keepsRoom _ s
  | supplyDip => cases h; exact resetNode_keepsRoom _ s
  | resetLine => cases h; exact resetNode_keepsRoom _ s
  | selfTestEnd => exact execSelfTestEnd_keepsRoom h
  | listenExpiry => exact execListenExpiry_keepsRoom h
  | announceExpiry => exact execAnnounceExpiry_keepsRoom h
  | qualificationEvent k =>
    exact keepsRoom_of_fits h (execQualificationEvent_fits h) (by simp [mayChange, operationParts])
      (by simp [mayChange, operationParts])
  | localRequest => exact execLocalRequest_keepsRoom h
  | selectorChange => exact keepsRoom_of_fits h (execSelectorChange_fits h) (by decide) (by decide)
  | positionChangeTaken => exact keepsRoom_of_fits h (execPositionChangeTaken_fits h) (by decide) (by decide)
  | collision => exact execCollision_keepsRoom h
  | frameSent => exact execFrameSent_keepsRoom h
  | headerReceived => exact execHeaderReceived_keepsRoom h
  | claim => exact keepsRoom_of_fits h (execClaim_fits h) (by decide) (by decide)
  | object => exact keepsRoom_of_fits h (execObject_fits h) (by decide) (by decide)
  | request => exact execRequest_keepsRoom h
  | cancel => exact keepsRoom_of_fits h (execCancel_fits h) (by decide) (by decide)
  | viewChange => exact keepsRoom_of_fits h (execViewChange_fits h) (by decide) (by decide)
  | windowExpiry => exact keepsRoom_of_fits h (execWindowExpiry_fits h) (by decide) (by decide)
  | deferExpiry => exact keepsRoom_of_fits h (execDeferExpiry_fits h) (by decide) (by decide)
  | departureExpiry => exact keepsRoom_of_fits h (execDepartureExpiry_fits h) (by decide) (by decide)
  | travelExpiry => exact keepsRoom_of_fits h (execTravelExpiry_fits h) (by decide) (by decide)
  | settleExpiry => exact keepsRoom_of_fits h (execSettleExpiry_fits h) (by decide) (by decide)
  | eraseConfig => exact execEraseConfig_keepsRoom h
  | restart => exact execRestart_keepsRoom h
  | responseSent => exact execResponseSent_keepsRoom h
  | measurementReading which =>
    cases which <;> exact keepsRoom_of_frame h (by simp [mayChange, measurePart]) (by simp [mayChange, measurePart])
      (by simp [mayChange, measurePart])
  | measurementStateChange which =>
    cases which <;> exact keepsRoom_of_frame h (by simp [mayChange, measurePart]) (by simp [mayChange, measurePart])
      (by simp [mayChange, measurePart])
  | _ => exact keepsRoom_of_frame h (by simp [mayChange]) (by simp [mayChange]) (by simp [mayChange])

/-- Settles O57: the tables, the link, the counters and the gap are kept by `step_lawful`, the bounds of the request queue
by the acts that lengthen it, each of them in service and below field 4. -/
theorem stepsKeepTablesQueuesAndCounters : Obligations.StepsKeepTablesQueuesAndCounters := by
  intro s t h
  have hlaw := step_lawful h
  refine ⟨hlaw.tables, hlaw.queues, hlaw.link, hlaw.counters, hlaw.gap, ?_⟩
  exact step_rel (R := KeepsRoom) (fun _ hst => hst) (fun _ _ hf => hf) exec_keepsRoom h

end Sys2Proof.Machine


namespace Sys2Proof.Machine

/-! ### The markers and the CLAIM of the normal queue

`OwnEvents` speaks of the markers of the normal queue and `claimsQueued` of its CLAIM. A request of a STATUS adds or marks
markers alone; the claim operations leave the markers and whether one is on the line. -/

/-- The markers of a normal queue. -/
def markers (l : Link) : List NormalItem := l.normal.filter isMarker

theorem markRenew_markRenew (i : NormalItem) : markRenew (markRenew i) = markRenew i := by cases i <;> rfl

theorem markRenew_of_claim {i : NormalItem} (h : isMarker i = false) : markRenew i = i := by
  cases i
  · simp [isMarker] at h
  · rfl

theorem markFinal_of_claim {i : NormalItem} (h : isMarker i = false) : markFinal i = i := by
  cases i
  · simp [isMarker] at h
  · rfl

theorem markRemoved_of_marker {i : NormalItem} (h : isMarker i = true) : markRemoved i = i := by
  cases i
  · rfl
  · simp [isMarker] at h

/-- A marking that keeps the kind of an item commutes with taking the items of one kind. -/
theorem filter_map_of_kind (f : NormalItem → NormalItem) (hf : ∀ i, isMarker (f i) = isMarker i) (p : Bool → Bool)
    (q : List NormalItem) :
    (q.map f).filter (fun i => p (isMarker i)) = (q.filter fun i => p (isMarker i)).map f := by
  induction q with
  | nil => rfl
  | cons i q ih => simp only [List.map_cons, List.filter_cons, hf, ih]; split <;> rfl

theorem map_eq_self_of_forall {f : NormalItem → NormalItem} {q : List NormalItem} (h : ∀ i ∈ q, f i = i) :
    q.map f = q :=
  (List.map_congr_left h).trans (List.map_id q)

theorem markers_askedNormal (l : Link) :
    (askedNormal l).filter isMarker =
      if (markers l).isEmpty then [.marker false false 0]
      else if markerOnLine l then (markers l).map markRenew else markers l := by
  have hany : l.normal.any isMarker = !(markers l).isEmpty := by
    rw [Bool.eq_iff_iff]; simp [markers, List.filter_eq_nil_iff]
  unfold askedNormal
  rw [hany]
  split <;> rename_i he
  · simp only [Bool.not_eq_true', ] at he
    simp only [he, Bool.false_eq_true, if_false]
    split
    · exact filter_map_of_kind markRenew isMarker_markRenew id l.normal
    · rfl
  · have hnil : markers l = [] := by simpa [List.isEmpty_iff] using he
    have : l.normal.filter isMarker = [] := hnil
    simp [hnil, this, isMarker]

/-- No marker is on the line while none waits. -/
theorem markerOnLine_of_markers_nil {l : Link} (h : markers l = []) : markerOnLine l = false := by
  unfold markerOnLine
  split
  · rename_i i _ heq
    have hi : isMarker i = false := by
      have := List.filter_eq_nil_iff.1 h i (by simp [heq])
      simpa using this
    simp [hi]
  · simp

/-- The CLAIM that waits is not touched by a request of a STATUS (R45). -/
theorem askedNormal_claims (l : Link) : (askedNormal l).filter (fun i => !isMarker i) = claimsQueued l := by
  unfold askedNormal claimsQueued
  split
  · split
    · rw [filter_map_of_kind markRenew isMarker_markRenew not]
      exact map_eq_self_of_forall fun i hi => markRenew_of_claim (by simpa using (List.mem_filter.1 hi).2)
    · rfl
  · simp [isMarker]

/-! ### Requests of a STATUS and own-content events -/

theorem requestStatus_normal {s : State} (ht : transmits s.start.phase = true) :
    (requestStatus s).link.normal = askedNormal s.link := by
  unfold requestStatus askedNormal
  rw [if_pos ht]
  split
  · split <;> rfl
  · simp

/-- In READY an attempt of the normal queue has an item to be of (R47). -/
def LineHeld (s : State) : Prop := s.start.phase = .ready → normalOnLine s.link = true → s.link.normal ≠ []

/-- What a coherent link gives (R47): an attempt outside SILENT is of the head of its queue. -/
theorem LinkCoherent.lineHeld {s : State} (h : LinkCoherent s) : LineHeld s := by
  obtain ⟨-, -, hat, -, -⟩ := h
  intro hp hn hnil
  unfold normalOnLine at hn
  split at hn
  · rename_i a ha
    obtain ⟨hhead, -⟩ := hat a ha (by simp [hp])
    have hcls : a.cls = .normal := by simpa using hn
    simp [AtHead, hcls, hnil] at hhead
  · cases hn

/-- What an own-content event asks for hinges on the copy, the phase, and in READY on whether a marker is on the line
(R45, R61). -/
structure SameAsking (s t : State) : Prop where
  copy : t.copy = s.copy
  phase : t.start.phase = s.start.phase
  onLine : s.start.phase = .ready → markerOnLine t.link = markerOnLine s.link
  held : LineHeld s → LineHeld t

theorem SameAsking.trans {s t u : State} (h : SameAsking s t) (g : SameAsking t u) : SameAsking s u :=
  ⟨g.copy.trans h.copy, g.phase.trans h.phase, fun hp => (g.onLine (h.phase.trans hp)).trans (h.onLine hp),
    g.held ∘ h.held⟩

/-- A change that leaves the copy, the start-up controller and the link leaves what an own-content event asks for. -/
theorem Touches.sameAsking {ps : List Part} {s t : State} (h : Touches ps s t)
    (hp : Part.copy ∉ ps ∧ Part.start ∉ ps ∧ Part.link ∉ ps) : SameAsking s t := by
  obtain ⟨hc, hs, hl⟩ := hp
  have hstart : t.start = s.start := h .start hs
  have hlink : t.link = s.link := h .link hl
  exact ⟨h .copy hc, by rw [hstart], fun _ => by rw [hlink], fun hh => by simpa only [LineHeld, hstart, hlink] using hh⟩

theorem ownEvents_zero {s t : State} (hv : t.view = s.view) (hm : markers t.link = markers s.link) :
    OwnEvents s t 0 :=
  ⟨by simp [hv, countedFrom], hm⟩

/-- A change that leaves the view and the link is no own-content event. -/
theorem Touches.ownEvents {ps : List Part} {s t : State} (h : Touches ps s t)
    (hp : Part.view ∉ ps ∧ Part.link ∉ ps) : OwnEvents s t 0 :=
  ownEvents_zero (h .view hp.1) (congrArg markers (h .link hp.2))

theorem OwnEvents.markers {s t : State} {n : Nat} (h : OwnEvents s t n) :
    markers t.link = if asksStatus s n then (askedNormal s.link).filter isMarker else markers s.link := by
  refine Eq.trans h.2 ?_
  split <;> rfl

theorem asksStatus_add (s : State) (n m : Nat) : asksStatus s (n + m) = (asksStatus s n || asksStatus s m) := by
  unfold asksStatus
  cases n <;> cases m <;> simp

theorem asksStatus_ready {s : State} {n : Nat} (h : asksStatus s n = true) : s.start.phase = .ready := by
  simp only [asksStatus, Bool.and_eq_true, beq_iff_eq] at h
  exact h.2

theorem SameAsking.asksStatus {s t : State} (h : SameAsking s t) (n : Nat) : asksStatus t n = asksStatus s n := by
  simp [Machine.asksStatus, h.copy, h.phase]

/-- Markers asked for once stand as they are when one is asked for again. -/
theorem asked_again {l m : Link} (hm : markers m = (askedNormal l).filter isMarker)
    (ho : markerOnLine m = markerOnLine l) : (askedNormal m).filter isMarker = (askedNormal l).filter isMarker := by
  rw [markers_askedNormal m, hm, ho, markers_askedNormal l]
  by_cases he : markers l = []
  · simp [he, markerOnLine_of_markers_nil he]
  · cases markerOnLine l <;> simp [he, Function.comp_def, markRenew_markRenew]

/-- Own-content events add up (R61, R62). -/
theorem OwnEvents.add {s t u : State} {n m : Nat} (h : OwnEvents s t n) (k : SameAsking s t) (g : OwnEvents t u m) :
    OwnEvents s u (n + m) := by
  constructor
  · simp only [g.1, h.1, countedFrom, k.copy]
    split
    · simp [BitVec.ofNat_add, BitVec.add_assoc]
    · rfl
  · show Machine.markers u.link = _
    rw [g.markers, k.asksStatus, asksStatus_add]
    cases hn : Machine.asksStatus s n <;> cases hm : Machine.asksStatus s m <;>
      simp only [Bool.or_false, Bool.or_true, Bool.or_self, Bool.false_eq_true, if_true, if_false]
    · exact h.markers.trans (by simp [hn]; rfl)
    · have hml : Machine.markers t.link = Machine.markers s.link := by simpa [hn] using h.markers
      rw [markers_askedNormal, markers_askedNormal, hml, k.onLine (asksStatus_ready hm)]
    · simpa [hn] using h.markers
    · exact asked_again (by simpa [hn] using h.markers) (k.onLine (asksStatus_ready hm))

/-- A change after own-content events that is none. -/
theorem OwnEvents.then {s t u : State} {n : Nat} (h : OwnEvents s t n) (hv : u.view = t.view)
    (hm : Machine.markers u.link = Machine.markers t.link) : OwnEvents s u n :=
  ⟨hv.trans h.1, Eq.trans hm h.2⟩

/-- A change before own-content events that is none. -/
theorem OwnEvents.after {s t u : State} {n : Nat} (k : SameAsking s t) (hv : t.view = s.view)
    (hm : Machine.markers t.link = Machine.markers s.link) (g : OwnEvents t u n) : OwnEvents s u n := by
  simpa using (ownEvents_zero hv hm).add k g

theorem ownChanged_normal (s : State) :
    (ownChanged s).link.normal = if asksStatus s 1 then askedNormal s.link else s.link.normal := by
  unfold ownChanged asksStatus
  by_cases hc : s.copy.isSome = true
  · by_cases hp : s.start.phase = .ready
    · have ht (x : View) : transmits (s.withView x).start.phase = true := by simp [hp, transmits]
      simp [hc, hp, requestStatus_normal (ht _)]
    · simp [hc, hp]
  · simp [hc]

/-- An own-content event is one (R61, R62). -/
theorem ownChanged_ownEvents (s : State) : OwnEvents s (ownChanged s) 1 := by
  constructor
  · rw [ownChanged_view]
    rfl
  · rw [ownChanged_normal]

theorem ownChanged_claimsQueued (s : State) : claimsQueued (ownChanged s).link = claimsQueued s.link := by
  unfold claimsQueued
  rw [ownChanged_normal]
  split
  · exact askedNormal_claims s.link
  · rfl

/-- A request of a STATUS leaves whether a marker is on the line: it alters no head of the queue but by RENEW. -/
theorem markerOnLine_askedNormal {l m : Link} (hn : m.normal = askedNormal l) (ha : m.attempt = l.attempt)
    (hl : normalOnLine l = true → l.normal ≠ []) : markerOnLine m = markerOnLine l := by
  have hon : normalOnLine m = normalOnLine l := by unfold normalOnLine; rw [ha]
  cases hnl : normalOnLine l with
  | false => simp [markerOnLine, hon, hnl]
  | true =>
    obtain ⟨i, q, hq⟩ := List.exists_cons_of_ne_nil (hl hnl)
    have hhead : ∃ j q', m.normal = j :: q' ∧ isMarker j = isMarker i := by
      rw [hn]
      unfold askedNormal
      split
      · split
        · exact ⟨_, _, by rw [hq]; rfl, isMarker_markRenew i⟩
        · exact ⟨i, q, hq, rfl⟩
      · exact ⟨i, _, by rw [hq]; rfl, rfl⟩
    obtain ⟨j, q', hm, hj⟩ := hhead
    simp [markerOnLine, hon, hnl, hm, hq, hj]

theorem askedNormal_ne_nil (l : Link) : askedNormal l ≠ [] := by
  unfold askedNormal
  split
  · rename_i h
    have hne : l.normal ≠ [] := by rintro hnil; simp [hnil] at h
    split <;> simpa using hne
  · simp

/-- After an own-content event a further one asks as before (R45, R61). -/
theorem ownChanged_sameAsking {s : State} (h : LineHeld s) : SameAsking s (ownChanged s) := by
  have hcopy : (ownChanged s).copy = s.copy := ownChanged_touches s .copy (by decide)
  have hstart : (ownChanged s).start = s.start := ownChanged_touches s .start (by decide)
  obtain ⟨-, -, -, hatt, -⟩ := ownChanged_keeps s
  have hnorm := ownChanged_normal s
  have hon : normalOnLine (ownChanged s).link = normalOnLine s.link := by unfold normalOnLine; rw [hatt]
  refine ⟨hcopy, by rw [hstart], fun hp => ?_, fun _ hp hn => ?_⟩
  · split at hnorm
    · exact markerOnLine_askedNormal hnorm hatt (h hp)
    · unfold markerOnLine; rw [hon, hnorm]
  · rw [hnorm]
    split
    · exact askedNormal_ne_nil _
    · exact h (by rwa [hstart] at hp) (by rwa [hon] at hn)

end Sys2Proof.Machine


namespace Sys2Proof.Machine

/-! ### Urgent frames handed over -/

theorem handsOver_nil {s t : State} (hu : t.link.urgent = s.link.urgent)
    (hd : t.counters.txDropped = s.counters.txDropped) : HandsOver s t [] := by
  unfold HandsOver
  split <;> simp [hu, hd]

/-- Frames handed over one after the other (R43, R44). -/
theorem HandsOver.append {s t u : State} {fs gs : List Frame} (h : HandsOver s t fs)
    (hp : t.start.phase = s.start.phase) (g : HandsOver t u gs) : HandsOver s u (fs ++ gs) := by
  unfold HandsOver at *
  rw [hp] at g
  split at h <;> rename_i ht <;> simp only [ht, if_true, if_false, Bool.false_eq_true] at g ⊢
  · obtain ⟨hu, hd⟩ := h
    obtain ⟨gu, gd⟩ := g
    have hlen : 8 - t.link.urgent.length = (8 - s.link.urgent.length) - fs.length := by
      rw [hu]; simp only [List.length_append, List.length_map, List.length_take]; omega
    constructor
    · rw [gu, hlen, hu, List.take_append, List.map_append, List.append_assoc]
    · rw [gd, hlen, hd, ← Function.iterate_add_apply, List.length_append]
      congr 2
      omega
  · exact ⟨g.1.trans h.1, g.2.trans h.2⟩

/-- A further change that hands nothing over. -/
theorem HandsOver.then {s t u : State} {fs : List Frame} (h : HandsOver s t fs) (hu : u.link.urgent = t.link.urgent)
    (hd : u.counters.txDropped = t.counters.txDropped) : HandsOver s u fs := by
  unfold HandsOver at *
  rw [hu, hd]
  exact h

/-- A change before that hands nothing over. -/
theorem HandsOver.after {s t u : State} {fs : List Frame} (hp : t.start.phase = s.start.phase)
    (hu : t.link.urgent = s.link.urgent) (hd : t.counters.txDropped = s.counters.txDropped) (g : HandsOver t u fs) :
    HandsOver s u fs :=
  (handsOver_nil hu hd).append hp g

theorem handUrgent_handedOver (f : Frame) (s : State) : HandedOver s (handUrgent f s) [f] := by
  refine ⟨?_, ?_, ?_, handUrgent_touches f s⟩
  · unfold HandsOver handUrgent
    split
    · split <;> rename_i hlen <;> simp only [Config.urgentPlaces] at hlen
      · have : List.take (8 - s.link.urgent.length) [f] = [f] := List.take_of_length_le (by simp; omega)
        rw [this, show [f].length - (8 - s.link.urgent.length) = 0 by simp; omega]
        exact ⟨by simp, rfl⟩
      · rw [show 8 - s.link.urgent.length = 0 by omega]
        exact ⟨by simp, rfl⟩
    · exact ⟨rfl, rfl⟩
  · unfold handUrgent
    split
    · split <;> rfl
    · rfl
  · unfold handUrgent
    split
    · split
      · obtain ⟨c, n, h⟩ := pick_eq
          ({ s.link with urgent := s.link.urgent ++ [{ frame := f, attempts := 0 }] })
        simp [h]
      · rfl
    · rfl

theorem handUrgent_handsOver (f : Frame) (s : State) : HandsOver s (handUrgent f s) [f] := (handUrgent_handedOver f s).1

/-- A change that leaves the normal queue and the attempt leaves what an own-content event asks for. -/
theorem sameAsking_of_link {s t : State} (hc : t.copy = s.copy) (hp : t.start.phase = s.start.phase)
    (hn : t.link.normal = s.link.normal) (ha : t.link.attempt = s.link.attempt) : SameAsking s t := by
  have hon : normalOnLine t.link = normalOnLine s.link := by unfold normalOnLine; rw [ha]
  refine ⟨hc, hp, fun _ => ?_, fun h => ?_⟩
  · unfold markerOnLine; rw [hon, hn]
  · simpa only [LineHeld, hp, hn, hon] using h

theorem handUrgent_sameAsking (f : Frame) (s : State) : SameAsking s (handUrgent f s) := by
  obtain ⟨hn, -, -, ha, -⟩ := handUrgent_keeps f s
  have hstart : (handUrgent f s).start = s.start := handUrgent_touches f s .start (by decide)
  exact sameAsking_of_link (handUrgent_touches f s .copy (by decide)) (by rw [hstart]) hn ha

theorem handUrgent_ownEvents (f : Frame) (s : State) : OwnEvents s (handUrgent f s) 0 :=
  ownEvents_zero (handUrgent_touches f s .view (by decide)) (congrArg (List.filter isMarker) (handUrgent_keeps f s).1)

theorem handUrgent_claimsQueued (f : Frame) (s : State) : claimsQueued (handUrgent f s).link = claimsQueued s.link :=
  congrArg (List.filter fun i => !isMarker i) (handUrgent_keeps f s).1

/-! ### The CLAIM of the normal queue -/

theorem removeClaim_urgent (s : State) : (removeClaim s).link.urgent = s.link.urgent := by
  unfold removeClaim
  split <;> simp

theorem removeClaim_attempt (s : State) : (removeClaim s).link.attempt = s.link.attempt := by
  unfold removeClaim
  split <;> simp

theorem removeClaim_normal (s : State) :
    (removeClaim s).link.normal =
      if claimOnLine s.link then s.link.normal.map markRemoved else s.link.normal.filter isMarker := by
  unfold removeClaim
  split <;> simp

theorem removeClaim_markers (s : State) : markers (removeClaim s).link = markers s.link := by
  unfold markers
  rw [removeClaim_normal]
  split
  · refine (filter_map_of_kind markRemoved isMarker_markRemoved id _).trans ?_
    exact map_eq_self_of_forall fun i hi => markRemoved_of_marker (by simpa using (List.mem_filter.1 hi).2)
  · simp

theorem removeClaim_claimsQueued (s : State) :
    claimsQueued (removeClaim s).link = if claimOnLine s.link then (claimsQueued s.link).map markRemoved else [] := by
  unfold claimsQueued
  rw [removeClaim_normal]
  split
  · exact filter_map_of_kind markRemoved isMarker_markRemoved not _
  · simp [List.filter_filter]

/-- The removal of the CLAIM leaves whether a marker is on the line: a CLAIM on the line stays, and else a head whose
attempt is on the line is a marker. -/
theorem removeClaim_sameAsking (s : State) : SameAsking s (removeClaim s) := by
  have hstart : (removeClaim s).start = s.start := removeClaim_touches s .start (by decide)
  have hon : normalOnLine (removeClaim s).link = normalOnLine s.link := by
    unfold normalOnLine; rw [removeClaim_attempt]
  have hnorm := removeClaim_normal s
  refine ⟨removeClaim_touches s .copy (by decide), by rw [hstart], fun _ => ?_, fun h hp hn => ?_⟩
  · unfold markerOnLine claimOnLine at *
    rw [hon, hnorm]
    cases s.link.normal with
    | nil => simp
    | cons i q => cases hi : isMarker i <;> cases normalOnLine s.link <;> simp_all
  · rw [hstart] at hp
    rw [hon] at hn
    have hne := h hp hn
    unfold claimOnLine at hnorm
    rw [hnorm]
    cases hq : s.link.normal with
    | nil => exact absurd hq hne
    | cons i q => cases hi : isMarker i <;> simp_all

theorem handClaim_urgent (id : Byte) (f : Frame) (s : State) : (handClaim id f s).link.urgent = s.link.urgent := by
  unfold handClaim
  split <;> simp

theorem claimQueued_eq_false_iff {l : Link} : claimQueued l = false ↔ claimsQueued l = [] := by
  simp [claimQueued, claimsQueued]

/-- A CLAIM handed over while the node transmits and none waits is the one that waits (R46). -/
theorem handClaim_claimsQueued {s : State} (id : Byte) (f : Frame) (ht : transmits s.start.phase = true)
    (hq : claimsQueued s.link = []) : claimsQueued (handClaim id f s).link = [.claim id f 0 false] := by
  have hnil : s.link.normal.filter (fun i => !isMarker i) = [] := hq
  have : (transmits s.start.phase && !claimQueued s.link) = true := by simp [ht, claimQueued_eq_false_iff.2 hq]
  unfold handClaim
  rw [if_pos this]
  simp only [claimsQueued, State.pick_link, pick_normal, State.withLink_link, List.filter_append, hnil]
  rfl

theorem handClaim_markers (id : Byte) (f : Frame) (s : State) : markers (handClaim id f s).link = markers s.link := by
  unfold handClaim
  split <;> simp [markers, isMarker]

theorem handClaim_sameAsking (id : Byte) (f : Frame) (s : State) : SameAsking s (handClaim id f s) := by
  unfold handClaim
  split
  · refine ⟨rfl, rfl, fun _ => ?_, fun _ _ _ => by simp⟩
    unfold markerOnLine normalOnLine
    cases hq : s.link.normal with
    | nil => simp [isMarker]
    | cons i q => simp
  · exact ⟨rfl, rfl, fun _ => rfl, fun h => h⟩

/-! ### The pending set -/

/-- A change of the pending set is one own-content event (R36, R61). -/
theorem setPending_ownEvents (p : CauseSet) (s : State) :
    OwnEvents s (setPending p s) (if p = s.faults.pending then 0 else 1) := by
  unfold setPending
  split
  · exact ownEvents_zero rfl rfl
  · exact OwnEvents.after (sameAsking_of_link rfl rfl rfl rfl) rfl rfl (ownChanged_ownEvents _)

theorem setPending_urgent (p : CauseSet) (s : State) : (setPending p s).link.urgent = s.link.urgent := by
  unfold setPending
  split
  · rfl
  · exact (ownChanged_keeps _).1

theorem setPending_claimsQueued (p : CauseSet) (s : State) :
    claimsQueued (setPending p s).link = claimsQueued s.link := by
  unfold setPending
  split
  · rfl
  · exact ownChanged_claimsQueued _

theorem setPending_sameAsking (p : CauseSet) {s : State} (h : LineHeld s) : SameAsking s (setPending p s) := by
  unfold setPending
  split
  · exact ⟨rfl, rfl, fun _ => rfl, id⟩
  · exact SameAsking.trans (t := refreshRelay (s.withFaults { s.faults with pending := p }))
      (sameAsking_of_link rfl rfl rfl rfl) (ownChanged_sameAsking h)

end Sys2Proof.Machine


namespace Sys2Proof.Machine

/-! ### Listen and announce timers (R164, R165) -/

/-- Outside READY an own-content event counts and asks for nothing (R61). -/
theorem ownChanged_of_not_ready {s : State} (hc : s.copy.isSome = true) (hp : s.start.phase ≠ .ready) :
    ownChanged s = s.withView { s.view with counter := s.view.counter + 1 } := by
  simp [ownChanged, hc, hp]

/-- The end of the listen window (R164). -/
theorem enterAnnounce_eq {s : State} {r : BayRecord} (hr : s.copy = some r) :
    (enterAnnounce s).start =
        { s.start with phase := .announce, listen := none, announce := some (s.now + r.address * 20) } ∧
      (enterAnnounce s).view = { s.view with joining := true, counter := s.view.counter + 1 } ∧
      (enterAnnounce s).link = s.link := by
  have hown : enterPhase .announce (s.withView { s.view with joining := true }) =
      ((s.withView { s.view with joining := true }).withStart { s.start with phase := .announce }).withView
        { s.view with joining := true, counter := s.view.counter + 1 } :=
    ownChanged_of_not_ready (by simp [hr]) (by simp)
  unfold enterAnnounce
  dsimp only
  rw [hown]
  simp [ownAddress, hr, Config.announceStep]

theorem exec_listenExpiry {s : State} {d : Nat} (hp : s.start.phase = .listen) (hd : s.start.listen = some d) :
    exec .listenExpiry s = .next (enterAnnounce (s.reachTime d)) := by
  have harm : exec .listenExpiry s = execListenExpiry s := rfl
  simp [harm, execListenExpiry, hp, hd]

theorem exec_announceExpiry {s : State} {d : Nat} (hp : s.start.phase = .announce) (hd : s.start.announce = some d) :
    exec .announceExpiry s =
      .next (requestStatus ((s.reachTime d).withStart { s.start with announce := none })) := by
  have harm : exec .announceExpiry s = execAnnounceExpiry s := rfl
  simp [harm, execAnnounceExpiry, hp, hd, State.reachTime]

/-- Settles O7: in LISTEN and ANNOUNCE an own-content event asks for no STATUS; the announce timer's request does. -/
theorem listenAndAnnounceTimersLeadToTheStatus : Obligations.ListenAndAnnounceTimersLeadToTheStatus := by
  constructor
  · intro s hp d hd r hr
    obtain ⟨hstart, hview, hlink⟩ := enterAnnounce_eq (s := s.reachTime d) hr
    refine ⟨_, exec_listenExpiry hp hd, enterAnnounce_touches _ .now (by decide), hstart, hview, hlink, ?_⟩
    intro p hmem
    by_cases hpl : p = .link
    · subst hpl; exact hlink
    · exact ((reachTime_touches s d).trans (enterAnnounce_touches _)) p (by simpa [hpl] using hmem)
  · intro s hp d hd hm
    have htouch := requestStatus_touches ((s.reachTime d).withStart { s.start with announce := none })
    obtain ⟨hu, hi, -⟩ := requestStatus_keeps ((s.reachTime d).withStart { s.start with announce := none })
    refine ⟨_, exec_announceExpiry hp hd, htouch .now (by decide), htouch .start (by decide),
      requestStatus_joins (by simp [hp, transmits]) hm, hu, hi, ?_⟩
    exact ((reachTime_touches _ _).trans (touches_withStart _ _)).trans htouch

/-! ### Contact changes (R18, R19, R26 to R28) -/

theorem sensorIn_put_same (s : State) (k : Nat) (i : SensorIn) :
    sensorIn (s.withSensors (tablePut s.sensors k i)) k = i := by
  simp [sensorIn, tableGet_put_same]

theorem sensorIn_put_other (s : State) {k j : Nat} (i : SensorIn) (h : j ≠ k) :
    sensorIn (s.withSensors (tablePut s.sensors k i)) j = sensorIn s j := by
  simp [sensorIn, tableGet_put_other _ _ h]

theorem singleOf_putSingle_same (s : State) (i : SingleInput) (x : SingleIn) : singleOf (s.putSingle i x) i = x := by
  cases i with
  | localPush k dir => cases dir <;> simp [singleOf, State.putSingle, tableGet_put_same]
  | _ => rfl

theorem singleOf_putSingle_other (s : State) {i j : SingleInput} (x : SingleIn) (h : j ≠ i) :
    singleOf (s.putSingle i x) j = singleOf s j := by
  cases i with
  | localPush k dir =>
    cases j with
    | localPush k' dir' =>
      cases dir <;> cases dir' <;> simp only [singleOf, State.putSingle, State.withSingles_singles]
      all_goals
        have hk : k' ≠ k := fun hk => h (by rw [hk])
        rw [tableGet_put_other _ _ hk]
    | _ => cases dir <;> rfl
  | _ =>
    cases j with
    | localPush k' dir' => cases dir' <;> rfl
    | _ => first | rfl | exact absurd rfl h

theorem singleOf_congr {s t : State} (h : t.singles = s.singles) (i : SingleInput) : singleOf t i = singleOf s i := by
  unfold singleOf
  cases i <;> simp only [h]

/-- Settles O8: one update of the input's own slot. -/
theorem contactChangesRestartPersistence : Obligations.ContactChangesRestartPersistence := by
  refine ⟨fun s k o c hk => ?_, fun s k b hk => ?_, fun s k p h hk => ?_, fun s i b hi => ?_⟩
  · have harm : exec (.rawCombinationChange k o c) s = execRawCombinationChange k o c s := rfl
    refine ⟨_, by rw [harm, execRawCombinationChange, if_pos hk], objIn_putObj_same _ _ _, fun j hj => ?_,
      putObj_touches _ _ _⟩
    exact objIn_putObj_other s _ hj
  · have harm : exec (.readyInputChange k b) s = execReadyInputChange k b s := rfl
    refine ⟨_, by rw [harm, execReadyInputChange, if_pos hk], objIn_putObj_same _ _ _, fun j hj => ?_,
      putObj_touches _ _ _⟩
    exact objIn_putObj_other s _ hj
  · have harm : exec (.sensorInputChange k p h) s = execSensorInputChange k p h s := rfl
    refine ⟨_, by rw [harm, execSensorInputChange, if_pos hk], sensorIn_put_same _ _ _, fun j hj => ?_,
      touches_withSensors _ _⟩
    exact sensorIn_put_other s _ hj
  · have harm : exec (.singleInputChange i b) s = execSingleInputChange i b s := rfl
    refine ⟨_, by rw [harm, execSingleInputChange, if_pos hi], singleOf_putSingle_same _ _ _, fun j hj => ?_,
      putSingle_touches _ _ _⟩
    exact singleOf_putSingle_other s _ hj

/-! ### Mechanism-ready inputs and sensors (R26, R27) -/

theorem rawReady_eq (d : ObjDesc) (o : ObjIn) :
    rawReady d o = if Bool.xor d.readyInverted o.readyContact then .ready else .notReady := rfl

theorem indicationOf_rawPair (d : SensorDesc) (i : SensorIn) :
    indicationOf (rawPair d i) =
      if i.healthyContact = false then .unknown
      else if Bool.xor d.inverted i.presenceContact then .present else .absent := by
  unfold indicationOf rawPair indicates
  cases i.healthyContact <;> cases d.inverted <;> cases i.presenceContact <;> rfl

end Sys2Proof.Machine


namespace Sys2Proof.Machine

theorem copy_isSome_of_objDesc {s : State} {k : Nat} {d : ObjDesc} (h : objDesc s k = some d) :
    s.copy.isSome = true := by
  unfold objDesc at h
  split at h
  · rename_i hc; rw [hc]; rfl
  · cases h

theorem copy_isSome_of_sensorDesc {s : State} {k : Nat} {d : SensorDesc} (h : sensorDesc s k = some d) :
    s.copy.isSome = true := by
  unfold sensorDesc at h
  split at h
  · rename_i hc; rw [hc]; rfl
  · cases h

/-- The counter after an own-content event, from LISTEN on (R61). -/
theorem ownChanged_counter {s : State} (hc : s.copy.isSome = true) :
    (ownChanged s).view.counter = s.view.counter + 1 := by
  simp [ownChanged_view, hc]

theorem ownChanged_handover (s : State) : (ownChanged s).handover = s.handover :=
  ownChanged_touches s .handover (by decide)

theorem ownChanged_faults (s : State) : (ownChanged s).faults = s.faults := ownChanged_touches s .faults (by decide)

theorem raiseView_handover (station : Nat) (st : Option EntryState) (s : State) :
    (raiseView station st s).handover =
      { s.handover with views := s.handover.views ++ [{ station := station, state := st }] } := rfl

theorem ownAddress_ownChanged (s : State) : ownAddress (ownChanged s) = ownAddress s := by
  unfold ownAddress
  rw [show (ownChanged s).copy = s.copy from ownChanged_touches s .copy (by decide)]

/-! ### Mechanism-ready inputs and sensors -/

theorem exec_readyQualification {s : State} {k : Nat} {d : ObjDesc} (hd : objDesc s k = some d)
    (hr : (objIn s k).ready ≠ rawReady d (objIn s k)) :
    exec (.readyQualification k) s =
      .next ((s.reachTime ((objIn s k).readySince + qualificationTime s)).putObj k
        { objIn s k with ready := rawReady d (objIn s k) }) := by
  have harm : exec (.readyQualification k) s = execReadyQualification k s := rfl
  simp [harm, execReadyQualification, hd, hr]

theorem exec_sensorQualification {s : State} {k : Nat} {d : SensorDesc} (hd : sensorDesc s k = some d)
    (hq : (sensorIn s k).qualified ≠ some (rawPair d (sensorIn s k))) :
    exec (.sensorQualification k) s =
      .next (qualifySensor k (rawPair d (sensorIn s k))
        (s.reachTime ((sensorIn s k).since + qualificationTime s))) := by
  have harm : exec (.sensorQualification k) s = execSensorQualification k s := rfl
  simp [harm, execSensorQualification, hd, hq]

/-- A sensor after its pair has qualified (R27). -/
def qualifiedSensor (i : SensorIn) (p : RawPair) : SensorIn :=
  { i with qualified := some p, indication := indicationOf p }

theorem qualifySensor_sensors (k : Nat) (p : RawPair) (s : State) :
    (qualifySensor k p s).sensors = tablePut s.sensors k (qualifiedSensor (sensorIn s k) p) := by
  unfold qualifySensor
  dsimp only
  split
  · rfl
  · exact ownChanged_touches _ .sensors (by decide)

theorem qualifySensor_same {k : Nat} {p : RawPair} {s : State} (h : indicationOf p = (sensorIn s k).indication) :
    Touches [.sensors] s (qualifySensor k p s) := by
  unfold qualifySensor
  dsimp only
  rw [if_pos h]
  exact touches_withSensors _ _

theorem qualifySensor_changed {k : Nat} {p : RawPair} {s : State} (hc : s.copy.isSome = true)
    (h : indicationOf p ≠ (sensorIn s k).indication) :
    (qualifySensor k p s).view.counter = s.view.counter + 1 ∧
      (qualifySensor k p s).handover =
        { s.handover with views := s.handover.views ++ [{ station := ownAddress s, state := none }] } := by
  unfold qualifySensor
  dsimp only
  rw [if_neg h]
  refine ⟨ownChanged_counter hc, ?_⟩
  rw [raiseView_handover, ownChanged_handover]
  rfl

/-- Settles O15: one update of the input's own slot; the indication is a function of the pair (R27). -/
theorem readyAndSensorQualification : Obligations.ReadyAndSensorQualification := by
  constructor
  · intro s k d hd hr
    refine ⟨_, exec_readyQualification hd hr, rfl, ?_, fun j hj => objIn_putObj_other _ _ hj,
      (reachTime_touches _ _).trans (putObj_touches _ _ _)⟩
    rw [objIn_putObj_same, rawReady_eq]
  · intro s k d hd hq
    have hs := qualifySensor_sensors k (rawPair d (sensorIn s k))
      (s.reachTime ((sensorIn s k).since + qualificationTime s))
    have hself : sensorIn (qualifySensor k (rawPair d (sensorIn s k))
        (s.reachTime ((sensorIn s k).since + qualificationTime s))) k =
          qualifiedSensor (sensorIn s k) (rawPair d (sensorIn s k)) := by
      rw [sensorIn, hs, tableGet_put_same]
      rfl
    refine ⟨_, exec_sensorQualification hd hq, qualifySensor_touches _ _ _ .now (by decide), ?_, fun j hj => ?_,
      fun hi => ?_, fun hi => ?_, ?_⟩
    · rw [hself, ← indicationOf_rawPair]
      rfl
    · rw [sensorIn, hs, tableGet_put_other _ _ hj]
      rfl
    · rw [hself] at hi
      exact (reachTime_touches _ _).trans (qualifySensor_same hi)
    · rw [hself] at hi
      obtain ⟨hcount, hhand⟩ := qualifySensor_changed
        (s := s.reachTime ((sensorIn s k).since + qualificationTime s)) (copy_isSome_of_sensorDesc hd) hi
      rw [hhand]
      exact ⟨hcount, rfl, rfl, rfl, rfl⟩
    · exact (reachTime_touches _ _).trans (qualifySensor_touches _ _ _)

/-! ### Measurements (R33) -/

theorem measureOf_putMeasure (s : State) (w : Measure) (m : MeasureIn) : measureOf (s.putMeasure w m) w = m := by
  cases w <;> rfl

/-- A rounded reading is the exact multiple or one of its two neighbours (R33). -/
theorem roundedReading_near (w : Measure) (m : Int) :
    roundedReading w m * unitMilli w - unitMilli w < m ∧ m < roundedReading w m * unitMilli w + unitMilli w := by
  have hpos : 0 < unitMilli w := by cases w <;> decide
  have hdiv := Int.mul_ediv_add_emod m (unitMilli w)
  have hlt := Int.emod_lt_of_pos m hpos
  have hnn := Int.emod_nonneg m hpos.ne'
  unfold roundedReading
  split
  · constructor <;> nlinarith
  · rename_i hne
    have hrem : 0 < m % unitMilli w := lt_of_le_of_ne hnn (Ne.symm hne)
    split <;> constructor <;> nlinarith

/-- Settles O17: a reading writes the value only while it is in range (R33). -/
theorem measurementsFollowTheirReadings : Obligations.MeasurementsFollowTheirReadings := by
  refine ⟨fun s w m hlo hhi => ?_, fun s w r hr => ?_, fun s w hne => ?_⟩
  · have hin : readingInRange w (.value m) = true := by simp [readingInRange, hlo, hhi]
    refine ⟨_, rfl, ?_, ?_, ?_, ?_, putMeasure_touches_measurePart _ _ _⟩ <;>
      rw [measureOf_putMeasure] <;> simp only [takeReading, hin, if_true]
    · exact roundedReading_near w m
    · cases hi : (measureOf s w).inRange <;> simp
  · have hin : readingInRange w r = false := by
      rcases hr with rfl | ⟨m, rfl, hm⟩
      · rfl
      · simp only [readingInRange, Bool.and_eq_false_iff, decide_eq_false_iff_not]; omega
    refine ⟨_, rfl, ?_, ?_, ?_, ?_, putMeasure_touches_measurePart _ _ _⟩ <;>
      rw [measureOf_putMeasure] <;> simp only [takeReading, hin]
    · rcases hr with rfl | ⟨m, rfl, -⟩ <;> rfl
    · cases hi : (measureOf s w).inRange <;> simp
  · have hexec : exec (.measurementStateChange w) s =
        .next (turnMeasure w (s.reachTime ((measureOf s w).since + qualificationTime s))) := by
      have harm : exec (.measurementStateChange w) s = execMeasurementStateChange w s := rfl
      simp [harm, execMeasurementStateChange, measureTurns, hne]
    have htouch := (reachTime_touches s ((measureOf s w).since + qualificationTime s)).trans
      (putMeasure_touches_measurePart _ w
        { measureOf (s.reachTime ((measureOf s w).since + qualificationTime s)) w with
          valid := (measureOf (s.reachTime ((measureOf s w).since + qualificationTime s)) w).inRange })
    refine ⟨_, hexec, ?_, ?_, htouch⟩
    · unfold turnMeasure
      rw [measureOf_putMeasure]
      cases w <;> rfl
    · cases w <;> rfl

end Sys2Proof.Machine


namespace Sys2Proof.Machine

/-! ### Conditions and their flags (R35, R36) -/

theorem causeIn_or_self (set : CauseSet) (c : Cause) : causeIn (set ||| causeBit c) c = true := by
  revert set; cases c <;> decide

theorem causeIn_and_not_self (set : CauseSet) (c : Cause) : causeIn (set &&& ~~~ causeBit c) c = false := by
  revert set; cases c <;> decide

theorem beginCondition_of_holding {c : Cause} {s : State} (h : causeIn s.faults.holding c = true) :
    beginCondition c s = s := by
  unfold beginCondition
  rw [if_pos h]

theorem beginCondition_of_not_holding {c : Cause} {s : State} (h : causeIn s.faults.holding c = false) :
    beginCondition c s =
      setPending (s.faults.pending ||| causeBit c)
        (s.withFaults { s.faults with holding := s.faults.holding ||| causeBit c }) := by
  unfold beginCondition
  rw [if_neg (by simp [h])]
  rfl

theorem beginCondition_holds (c : Cause) (s : State) : causeIn (beginCondition c s).faults.holding c = true := by
  cases h : causeIn s.faults.holding c with
  | true => rwa [beginCondition_of_holding h]
  | false =>
    rw [beginCondition_of_not_holding h, setPending_holding]
    exact causeIn_or_self _ c

theorem beginCondition_pends {c : Cause} {s : State} (h : causeIn s.faults.holding c = false) :
    causeIn (beginCondition c s).faults.pending c = true := by
  rw [beginCondition_of_not_holding h, setPending_pending]
  exact causeIn_or_self _ c

/-- The beginning of a condition is one own-content event when its flag becomes pending (R36, R61). -/
theorem beginCondition_ownEvents (c : Cause) (s : State) :
    OwnEvents s (beginCondition c s) (if (beginCondition c s).faults.pending = s.faults.pending then 0 else 1) := by
  cases h : causeIn s.faults.holding c with
  | true =>
    rw [beginCondition_of_holding h, if_pos rfl]
    exact ownEvents_zero rfl rfl
  | false =>
    rw [beginCondition_of_not_holding h, setPending_pending]
    exact OwnEvents.after (sameAsking_of_link rfl rfl rfl rfl) rfl rfl (setPending_ownEvents _ _)

theorem someFaulty_congr {s t : State} (hc : t.copy = s.copy) (ho : t.objects = s.objects) :
    someFaulty t = someFaulty s := by
  unfold someFaulty objectCount positionOf
  simp only [hc, objIn_congr ho]

theorem Touches.someFaulty {ps : List Part} {s t : State} (h : Touches ps s t)
    (hp : Part.copy ∉ ps ∧ Part.objects ∉ ps) : someFaulty t = someFaulty s :=
  someFaulty_congr (h .copy hp.1) (h .objects hp.2)

theorem someFaulty_of_position {s : State} {k : Nat} (h1 : 1 ≤ k) (hk : k ≤ objectCount s)
    (hf : positionOf s k = .faulty) : someFaulty s = true := by
  simp only [someFaulty, List.any_eq_true, List.mem_range'_1]
  exact ⟨k, ⟨h1, by omega⟩, by simp [hf]⟩

/-- After a position has changed OBJECT_FAULTY holds exactly while some configured object is FAULTY (R24, R35). -/
theorem watchFaulty_holding (s : State) : causeIn (watchFaulty s).faults.holding .objectFaulty = someFaulty s := by
  unfold watchFaulty
  split <;> rename_i h
  · rw [h]; exact beginCondition_holds _ s
  · rw [Bool.eq_false_iff.2 h]; exact causeIn_and_not_self _ _

theorem watchFaulty_ownEvents (s : State) :
    OwnEvents s (watchFaulty s) (if (watchFaulty s).faults.pending = s.faults.pending then 0 else 1) := by
  unfold watchFaulty
  split
  · exact beginCondition_ownEvents _ s
  · rw [if_pos (show (endCondition .objectFaulty s).faults.pending = s.faults.pending from rfl)]
    exact ownEvents_zero rfl rfl

/-! ### A changed position handed over (R24) -/

/-- The state in which a changed position reaches the fault logic. -/
def positionHanded (k : Nat) (s : State) : State :=
  (raiseView (ownAddress (ownChanged s)) none (ownChanged s)).withHandover
    { s.handover with
      views := s.handover.views ++ [{ station := ownAddress s, state := none }]
      positions := s.handover.positions ++ [k] }

theorem handPosition_eq (k : Nat) (s : State) : handPosition k s = watchFaulty (positionHanded k s) := by
  unfold handPosition positionHanded
  simp only [raiseView_handover, ownChanged_handover, ownAddress_ownChanged]

theorem positionHanded_touches (k : Nat) (s : State) : Touches [.view, .link, .handover] s (positionHanded k s) :=
  ((ownChanged_touches s).trans (touches_withHandover _ _)).trans (touches_withHandover _ _) |>.mono (by decide)

theorem positionHanded_ownEvents (k : Nat) (s : State) : OwnEvents s (positionHanded k s) 1 :=
  (ownChanged_ownEvents s).then rfl rfl

theorem handPosition_handover (k : Nat) (s : State) :
    (handPosition k s).handover =
      { s.handover with
        views := s.handover.views ++ [{ station := ownAddress s, state := none }]
        positions := s.handover.positions ++ [k] } := by
  rw [handPosition_eq]
  exact watchFaulty_touches _ .handover (by decide)

theorem handPosition_holding (k : Nat) (s : State) :
    causeIn (handPosition k s).faults.holding .objectFaulty = someFaulty (handPosition k s) := by
  rw [(handPosition_touches k s).someFaulty (by decide), handPosition_eq, watchFaulty_holding,
    (positionHanded_touches k s).someFaulty (by decide)]

theorem handPosition_pends {k : Nat} {s : State} (h : someFaulty s = true)
    (hh : causeIn s.faults.holding .objectFaulty = false) :
    causeIn (handPosition k s).faults.pending .objectFaulty = true := by
  have hsome : someFaulty (positionHanded k s) = true := by
    rw [(positionHanded_touches k s).someFaulty (by decide)]; exact h
  have hfaults : (positionHanded k s).faults = s.faults := positionHanded_touches k s .faults (by decide)
  rw [handPosition_eq, watchFaulty, if_pos hsome]
  exact beginCondition_pends (by rw [hfaults]; exact hh)

theorem OwnEvents.counter {s t : State} {n : Nat} (h : OwnEvents s t n) (hc : s.copy.isSome = true) :
    t.view.counter = s.view.counter + BitVec.ofNat 8 n := by
  rw [h.1]
  simp [countedFrom, hc]

theorem handPosition_counter {k : Nat} {s : State} (hc : s.copy.isSome = true) :
    (handPosition k s).view.counter =
      s.view.counter + 1 + (if (handPosition k s).faults.pending = s.faults.pending then 0 else 1) := by
  have hfaults : (positionHanded k s).faults = s.faults := positionHanded_touches k s .faults (by decide)
  have hcopy : (positionHanded k s).copy = s.copy := positionHanded_touches k s .copy (by decide)
  have hw := (watchFaulty_ownEvents (positionHanded k s)).counter (by rw [hcopy]; exact hc)
  rw [handPosition_eq, hw, (positionHanded_ownEvents k s).counter hc, hfaults]
  split <;> rfl

/-! ### Qualification of an uncommanded object, and the intermediate limit -/

theorem positionTable_positionFor (c : Comb) (p : Position) : PositionTable c p (positionFor c p) := by
  cases c <;> simp +contextual [PositionTable, positionFor]

theorem qualifyObject_uncommanded {k : Nat} {c : Comb} {s : State} (h : (objIn s k).commanded = false) :
    qualifyObject k c s =
      if positionFor c (positionOf s k) = positionOf s k then s.putObj k (qualifiedObj s (objIn s k) c)
      else handPosition k (s.putObj k (qualifiedObj s (objIn s k) c)) := by
  simp [qualifyObject, superviseIf, h, qualifiedObj, positionOf]

theorem qualifyObject_uncommanded_objects {k : Nat} {c : Comb} {s : State} (h : (objIn s k).commanded = false) :
    (qualifyObject k c s).objects = tablePut s.objects k (qualifiedObj s (objIn s k) c) := by
  rw [qualifyObject_uncommanded h]
  split
  · rfl
  · exact handPosition_touches _ _ .objects (by decide)

theorem qualifyObject_uncommanded_touches {k : Nat} {c : Comb} {s : State} (h : (objIn s k).commanded = false) :
    Touches [.objects, .view, .link, .handover, .faults] s (qualifyObject k c s) := by
  rw [qualifyObject_uncommanded h]
  split
  · exact (putObj_touches _ _ _).mono (by decide)
  · exact ((putObj_touches _ _ _).trans (handPosition_touches _ _)).mono (by decide)

/-- The hand-overs of a changed position (R24). -/
theorem qualifyObject_changed {k : Nat} {c : Comb} {s : State} (h : (objIn s k).commanded = false)
    (hc : s.copy.isSome = true) (hp : positionFor c (positionOf s k) ≠ positionOf s k) :
    (qualifyObject k c s).handover.positions = s.handover.positions ++ [k] ∧
      (qualifyObject k c s).handover.views = s.handover.views ++ [{ station := ownAddress s, state := none }] ∧
      (qualifyObject k c s).view.counter =
        s.view.counter + 1 + (if (qualifyObject k c s).faults.pending = s.faults.pending then 0 else 1) ∧
      causeIn (qualifyObject k c s).faults.holding .objectFaulty = someFaulty (qualifyObject k c s) ∧
      (someFaulty (qualifyObject k c s) = true → causeIn s.faults.holding .objectFaulty = false →
        causeIn (qualifyObject k c s).faults.pending .objectFaulty = true) := by
  rw [qualifyObject_uncommanded h, if_neg hp, handPosition_handover]
  refine ⟨rfl, rfl, handPosition_counter hc, handPosition_holding _ _, fun hs hh => ?_⟩
  rw [(handPosition_touches _ _).someFaulty (by decide)] at hs
  exact handPosition_pends hs hh

theorem qualifiedObj_uncommanded {o : ObjIn} (h : o.commanded = false) (s : State) (c : Comb) :
    qualifiedObj s o c =
      { o with
        qualified := some c, position := positionFor c o.position
        intermediate :=
          if positionFor c o.position = .moving then some (s.now + fieldOf s (·.intermediate)) else none } := by
  simp only [qualifiedObj, intermediateFor, h, and_true]

/-- Settles O9: the event writes the slot by R20, and hands a changed position over (R24). -/
theorem uncommandedQualificationSetsThePosition : Obligations.UncommandedQualificationSetsThePosition := by
  intro s k d hd hun hq
  have hexec := exec_qualificationEvent hd hq
  set u := s.reachTime ((objIn s k).since + qualificationTime s) with hu
  set c := rawComb d (objIn s k)
  have hun' : (objIn u k).commanded = false := hun
  have hobjs := qualifyObject_uncommanded_objects (c := c) hun'
  have htouch := qualifyObject_uncommanded_touches (c := c) hun'
  have hnow : (qualifyObject k c u).now = u.now := htouch .now (by decide)
  have hpos : positionOf (qualifyObject k c u) k = positionFor c (positionOf s k) := qualifyObject_position k c u
  have hself : objIn (qualifyObject k c u) k = qualifiedObj u (objIn s k) c := by
    rw [objIn, hobjs, tableGet_put_same]; rfl
  refine ⟨_, hexec, hnow, ?_, ?_, fun j hj => ?_,
    ((reachTime_touches _ _).flagsStay (by decide)).trans (qualifyObject_flagsStay _ _ _), fun hp => ?_, fun hp => ?_,
    ((reachTime_touches _ _).trans htouch).mono (by decide)⟩
  · rw [hpos]
    exact positionTable_positionFor _ _
  · rw [hself, hpos, hnow, qualifiedObj_uncommanded hun]
    rfl
  · rw [objIn, hobjs, tableGet_put_other _ _ hj]
    rfl
  · have hp' : positionFor c (positionOf u k) = positionOf u k := hpos.symm.trans hp
    rw [qualifyObject_uncommanded hun', if_pos hp']
    exact (reachTime_touches _ _).trans (putObj_touches _ _ _)
  · exact qualifyObject_changed hun' (copy_isSome_of_objDesc hd) (hpos ▸ hp)

theorem exec_intermediateLimitExpiry {s : State} {k e : Nat} (he : (objIn s k).intermediate = some e)
    (hp : positionOf s k = .moving) (hun : (objIn s k).commanded = false) :
    exec (.intermediateLimitExpiry k) s =
      .next (handPosition k ((s.reachTime e).putObj k
        { objIn s k with position := .faulty, intermediate := none })) := by
  have harm : exec (.intermediateLimitExpiry k) s = execIntermediateLimitExpiry k s := rfl
  have hp' : (objIn s k).position = .moving := hp
  simp [harm, execIntermediateLimitExpiry, he, hp', hun]

/-- Settles O14: the limit writes the slot and hands the change over; the object itself makes some object FAULTY. -/
theorem intermediateLimitMakesFaulty : Obligations.IntermediateLimitMakesFaulty := by
  intro s k e he hp hun h1 hk hh
  have hexec := exec_intermediateLimitExpiry he hp hun
  set u := (s.reachTime e).putObj k { objIn s k with position := .faulty, intermediate := none }
    with hu
  have htouch := handPosition_touches k u
  have hobj (j : Nat) : objIn (handPosition k u) j = objIn u j := objIn_congr (htouch .objects (by decide)) j
  have hsome : someFaulty u = true :=
    someFaulty_of_position h1 hk (by rw [positionOf, hu, objIn_putObj_same])
  refine ⟨_, hexec, htouch .now (by decide), ?_, fun j hj => ?_, ?_, handPosition_pends hsome hh,
    handPosition_flagsStay k u, ?_, ?_, ?_, ?_,
    (((reachTime_touches _ _).trans (putObj_touches _ _ _)).trans htouch).mono (by decide)⟩
  · rw [hobj, hu, objIn_putObj_same]
  · rw [hobj, hu, objIn_putObj_other _ _ hj]
    rfl
  · rw [handPosition_holding, htouch.someFaulty (by decide), hsome]
  all_goals rw [handPosition_handover]; rfl

end Sys2Proof.Machine


namespace Sys2Proof.Machine

/-! ### Single inputs (R28 to R32, R37) -/

theorem exec_singleInputQualification {s : State} {i : SingleInput} (hi : singleInputOk i = true)
    (hq : (singleOf s i).qualified ≠ some (singleOf s i).contact) :
    exec (.singleInputQualification i) s =
      .next (singleQualified i (singleOf s i).qualified (singleOf s i).contact
        ((s.reachTime ((singleOf s i).since + qualificationTime s)).putSingle i
          { singleOf s i with qualified := some (singleOf s i).contact })) := by
  have harm : exec (.singleInputQualification i) s = execSingleInputQualification i s := rfl
  have hsame (d : Nat) : singleOf (s.reachTime d) i = singleOf s i := singleOf_congr rfl i
  simp [harm, execSingleInputQualification, hi, hq, qualifySingle, hsame]

theorem risingEdge_iff {previous : Option Bool} {contact : Bool} :
    risingEdge previous contact = true ↔ previous = some false ∧ contact = true := by
  simp [risingEdge]

theorem singleQualified_urgent (i : SingleInput) (previous : Option Bool) (contact : Bool) (s : State) :
    (singleQualified i previous contact s).link.urgent = s.link.urgent := by
  cases i <;> simp only [singleQualified]
  case selector => exact (ownChanged_keeps s).1
  case bypassKey => exact (ownChanged_keeps s).1
  case faultReset =>
    split
    · exact setPending_urgent _ s
    · rfl
  case localPush =>
    split
    · rw [show (pushEdge _ _ s).link = s.link from pushEdge_touches _ _ s .link (by decide)]
    · rfl

theorem singleQualified_claimsQueued (i : SingleInput) (previous : Option Bool) (contact : Bool) (s : State) :
    claimsQueued (singleQualified i previous contact s).link = claimsQueued s.link := by
  cases i <;> simp only [singleQualified]
  case selector => exact ownChanged_claimsQueued s
  case bypassKey => exact ownChanged_claimsQueued s
  case faultReset =>
    split
    · exact setPending_claimsQueued _ s
    · rfl
  case localPush =>
    split
    · rw [show (pushEdge _ _ s).link = s.link from pushEdge_touches _ _ s .link (by decide)]
    · rfl

theorem selectorOf_congr {s t : State} (h : t.singles = s.singles) : selectorOf t = selectorOf s := by
  simp only [selectorOf, h]

theorem selectorOf_putSingle (s : State) (b : Bool) (i : SingleIn) :
    selectorOf (s.putSingle .selector { i with qualified := some b }) = if b then .remoteMode else .localMode := by
  cases b <;> rfl

theorem bypassKeyOf_putSingle (s : State) (b : Bool) (i : SingleIn) :
    bypassKeyOf (s.putSingle .bypassKey { i with qualified := some b }) = if b then .on else .off := by
  cases b <;> rfl

/-- The fault-reset push leaves exactly the flags whose condition holds, at a rising edge (R37). -/
theorem singleQualified_faultReset (previous : Option Bool) (contact : Bool) (s : State) :
    singleQualified .faultReset previous contact s =
      setPending
        (if previous = some false ∧ contact = true then s.faults.pending &&& s.faults.holding else s.faults.pending) s := by
  by_cases h : previous = some false ∧ contact = true
  · simp only [singleQualified, risingEdge_iff.2 h, if_true, if_pos h]
    rfl
  · simp only [singleQualified, Bool.eq_false_iff.2 (mt risingEdge_iff.1 h), if_neg h]
    simp [setPending]

theorem causeIn_and_right {set holding : CauseSet} {c : Cause} (h : causeIn holding c = false) :
    causeIn (set &&& holding) c = false := by
  simp only [causeIn, bne_eq_false_iff_eq] at h ⊢
  rw [BitVec.and_assoc, h]
  exact BitVec.and_zero

/-- A local push's edge is a local request in service with the selector LOCAL (R32). -/
theorem singleQualified_localPush (k : Nat) (dir : Direction) (previous : Option Bool) (contact : Bool) (s : State) :
    (singleQualified (.localPush k dir) previous contact s).handover =
      if previous = some false ∧ contact = true ∧ inService s = true ∧ selectorOf s = .localMode
      then { s.handover with locals := s.handover.locals ++ [(k, dir)] } else s.handover := by
  by_cases h : previous = some false ∧ contact = true
  · simp only [singleQualified, if_pos (risingEdge_iff.2 h), pushEdge, Bool.and_eq_true, beq_iff_eq]
    simp only [h, true_and]
    split <;> rfl
  · have hn : ¬ (previous = some false ∧ contact = true ∧ inService s = true ∧ selectorOf s = .localMode) :=
      fun ⟨hp, hc, _⟩ => h ⟨hp, hc⟩
    simp only [singleQualified, Bool.eq_false_iff.2 (mt risingEdge_iff.1 h), if_neg hn]
    rfl

theorem singleQualified_localPush_touches (k : Nat) (dir : Direction) (previous : Option Bool) (contact : Bool)
    (s : State) : Touches [.handover] s (singleQualified (.localPush k dir) previous contact s) :=
  (Touches.refl _ s).ifThen (pushEdge_touches _ _ _)

/-- Settles O16: the input's own slot is written, and then what its kind asks for is done. -/
theorem singleInputQualification : Obligations.SingleInputQualification := by
  intro s i hi hq
  have hexec := exec_singleInputQualification hi hq
  set i' : SingleIn := { singleOf s i with qualified := some (singleOf s i).contact } with hi'
  set u := (s.reachTime ((singleOf s i).since + qualificationTime s)).putSingle i i' with hu
  have hsu : Touches [.now, .singles] s u := (reachTime_touches _ _).trans (putSingle_touches _ _ _)
  have htouch := singleQualified_touches i (singleOf s i).qualified (singleOf s i).contact u
  have hsingles : (singleQualified i (singleOf s i).qualified (singleOf s i).contact u).singles = u.singles :=
    htouch .singles (by decide)
  have hlink : u.link = s.link := hsu .link (by decide)
  have hfaults : u.faults = s.faults := hsu .faults (by decide)
  have hhand : u.handover = s.handover := hsu .handover (by decide)
  have hask : SameAsking s u := hsu.sameAsking (by decide)
  have hev (t : State) (n : Nat) (h : OwnEvents u t n) : OwnEvents s t n := by
    simpa using (hsu.ownEvents (by decide)).add hask h
  refine ⟨_, hexec, (htouch .now (by decide)).trans rfl, ?_, fun j hj => ?_, ?_, ?_, ?_, ?_, ?_,
    (singleQualified_urgent _ _ _ u).trans (by rw [hlink]),
    (singleQualified_claimsQueued _ _ _ u).trans (by rw [hlink]), (hsu.trans htouch).mono (by decide)⟩
  · rw [singleOf_congr hsingles, hu, singleOf_putSingle_same]
  · rw [singleOf_congr hsingles, hu, singleOf_putSingle_other _ _ hj]
    exact singleOf_congr rfl j
  · rintro rfl
    refine ⟨?_, ?_, ?_, hev _ _ ((ownChanged_ownEvents u).then rfl rfl)⟩
    · rw [← hhand]
      show (handSelector u).handover = _
      rw [selectorOf_congr hsingles]
      show ({ (ownChanged u).handover with selectors := _ } : Handover) = _
      rw [ownChanged_handover, selectorOf_congr (ownChanged_touches u .singles (by decide))]
    · rw [selectorOf_congr hsingles, hu, hi', selectorOf_putSingle]
    · exact Eq.trans (ownChanged_faults u) hfaults
  · rintro rfl
    refine ⟨?_, (ownChanged_handover u).trans hhand, (ownChanged_faults u).trans hfaults,
      hev _ _ (ownChanged_ownEvents u)⟩
    have : bypassKeyOf (singleQualified .bypassKey (singleOf s .bypassKey).qualified
      (singleOf s .bypassKey).contact u) =
        bypassKeyOf u := by simp only [bypassKeyOf, hsingles]
    rw [this, hu, hi', bypassKeyOf_putSingle]
  · rintro rfl
    exact hsu
  · rintro rfl
    have hp : (singleQualified .faultReset (singleOf s .faultReset).qualified
      (singleOf s .faultReset).contact u).faults.pending
        = if (singleOf s .faultReset).qualified = some false ∧ (singleOf s .faultReset).contact = true then
            s.faults.pending &&& s.faults.holding else s.faults.pending := by
      rw [singleQualified_faultReset, setPending_pending, hfaults]
    refine ⟨?_, ?_, hp, fun h1 h2 h3 => ?_, ?_⟩
    · rw [singleQualified_faultReset, ← hhand]
      exact setPending_touches _ u .handover (by decide)
    · rw [singleQualified_faultReset, setPending_holding, hfaults]
    · rw [hp, if_pos ⟨h1, h2⟩]
      exact causeIn_and_right h3
    · rw [hp]
      refine hev _ _ ?_
      rw [singleQualified_faultReset, hfaults]
      have := setPending_ownEvents
        (if (singleOf s .faultReset).qualified = some false ∧ (singleOf s .faultReset).contact = true then
            s.faults.pending &&& s.faults.holding else s.faults.pending) u
      rwa [hfaults] at this
  · rintro k dir rfl
    refine ⟨(hsu.trans (singleQualified_localPush_touches _ _ _ _ u)), ?_⟩
    have hsel : selectorOf u = selectorOf s := by cases dir <;> rfl
    rw [singleQualified_localPush, hhand, hsel]
    rfl

end Sys2Proof.Machine


namespace Sys2Proof.Machine

/-! ### Positions through the commands of the Request Controller and the Claim Manager -/

/-- Every slot's qualified combination and position are as they were. -/
def ContactsKept (s t : State) : Prop := ∀ k, ContactsStay k s t

theorem ContactsKept.refl (s : State) : ContactsKept s s := fun _ => .refl _ _

theorem ContactsKept.trans {s t u : State} (h : ContactsKept s t) (g : ContactsKept t u) : ContactsKept s u :=
  fun k => (h k).trans (g k)

theorem Touches.contactsKept {ps : List Part} {s t : State} (h : Touches ps s t) (hp : Part.objects ∉ ps) :
    ContactsKept s t := fun k => h.contactsStay hp k

theorem nextHead_contactsKept (s : State) : ContactsKept s (nextHead s) := fun k => runHeads_contactsStay _ s k

theorem followUp_contactsKept (r : State × Bool) : ContactsKept r.1 (followUp r) := by
  unfold followUp
  split
  · exact nextHead_contactsKept _
  · exact .refl _

theorem endedNext_contactsKept (op : Operation) (o : OpOutcome) (r : Reason) (s : State) :
    ContactsKept s (nextHead (endOperation op o r s)) :=
  ContactsKept.trans (endOperation_contactsStay op o r s) (nextHead_contactsKept _)

theorem takeReport_contactsKept (rep : ClaimReport) (s : State) : ContactsKept s (takeReport rep s) := by
  unfold takeReport
  split
  · exact .refl s
  · split
    · exact ContactsKept.trans (deferHead_contactsStay _ s) (followUp_contactsKept _)
    · exact endedNext_contactsKept _ _ _ s
    · exact endedNext_contactsKept _ _ _ s

theorem withdrawAndReport_contactsKept (rep : ClaimReport) (o : Option Objection) (s : State) :
    ContactsKept s (withdrawAndReport rep o s) :=
  ((withdrawClaim_touches _ o s).contactsKept (by decide)).trans (takeReport_contactsKept rep _)

theorem granted_contactsKept (c : OwnClaim) (s : State) : ContactsKept s (followUp (grantHandling (grantClaim c s))) :=
  (((grantClaim_touches c s).contactsKept (by decide)).trans (grantHandling_contactsStay _)).trans
    (followUp_contactsKept _)

theorem judgeWindow_contactsKept (s : State) : ContactsKept s (judgeWindow s) := by
  unfold judgeWindow
  split
  · exact .refl s
  · split
    · exact .refl s
    · split
      · exact granted_contactsKept _ s
      · split
        · exact (newRound_touches _ s).contactsKept (by decide)
        · split
          · exact granted_contactsKept _ s
          · exact withdrawAndReport_contactsKept _ _ s

theorem reevaluate_contactsKept (c : OwnClaim) (s : State) : ContactsKept s (reevaluate c s) := by
  unfold reevaluate
  split
  · exact withdrawAndReport_contactsKept _ _ s
  · dsimp only
    have hset := (setBypassReason_touches (evaluate s c.object c.dir c.source) s).contactsKept (by decide)
    split
    · exact hset.trans (withdrawAndReport_contactsKept _ _ _)
    · split
      · exact hset.trans (withdrawAndReport_contactsKept _ _ _)
      · exact hset.trans ((touches_withClaims _ _).contactsKept (by decide))

theorem takeViewReport_contactsKept (v : ViewReport) (s : State) : ContactsKept s (takeViewReport v s) := by
  have hrem : ContactsKept s (if v.state = some .stale then removeForeign v.station s else s) :=
    ((Touches.refl _ s).ifThen (removeForeign_touches v.station s)).contactsKept (by decide)
  unfold takeViewReport
  generalize (if v.state = some .stale then removeForeign v.station s else s) = u at hrem
  refine hrem.trans ?_
  dsimp only
  split
  · exact .refl u
  · split
    · exact .refl u
    · exact reevaluate_contactsKept _ u

theorem respondClaim_contactsKept (r : ClaimResponse) (b : Bool) (station : Nat) (c : ClaimPart) (s : State) :
    ContactsKept s (respondClaim r b station c s) := by
  cases r with
  | objectHeld => exact (handObject_touches _ _ _ s).contactsKept (by decide)
  | objectRank => exact (handObject_touches _ _ _ s).contactsKept (by decide)
  | giveWay =>
    exact (withdrawAndReport_contactsKept _ _ s).trans ((assentIf_touches _ _ _ _).contactsKept (by decide))
  | assent => exact (handAssent_touches _ _ s).contactsKept (by decide)
  | silent => exact .refl s

theorem takeClaim_contactsKept (f : Frame) (s : State) : ContactsKept s (takeClaim f s) := by
  unfold takeClaim
  split
  · split
    · exact .refl s
    · split
      · exact (claimFromStale_touches _ _ s).contactsKept (by decide)
      · unfold judgeClaim
        split
        · exact ((recordForeign_touches _ _ _ s).contactsKept (by decide)).trans (respondClaim_contactsKept _ _ _ _ _)
        · exact (recordForeign_touches _ _ _ s).contactsKept (by decide)
  · exact .refl s

theorem takeObject_contactsKept (f : Frame) (s : State) : ContactsKept s (takeObject f s) := by
  unfold takeObject
  split
  · exact ((touches_withClaims s _).contactsKept (by decide)).trans (withdrawAndReport_contactsKept _ _ _)
  · exact .refl s

theorem joinQueue_contactsKept (op : Operation) (s : State) : ContactsKept s (joinQueue op s) := by
  have hq := (touches_withReq s { s.req with queue := s.req.queue ++ [op] }).contactsKept (by decide)
  unfold joinQueue
  dsimp only
  split
  · exact hq.trans (nextHead_contactsKept _)
  · exact hq

theorem takeRequest_contactsKept (f : Frame) (s : State) : ContactsKept s (takeRequest f s) := by
  unfold takeRequest
  split
  · exact .refl s
  · split
    · exact (handAccept_touches _ _ _ s).contactsKept (by decide)
    · exact ((handAccept_touches _ _ _ s).contactsKept (by decide)).trans (joinQueue_contactsKept _ _)

theorem takeLocal_contactsKept (k : Nat) (dir : Direction) (s : State) : ContactsKept s (takeLocal k dir s) := by
  unfold takeLocal
  split
  · split
    · exact (setLastLocal_touches _ s).contactsKept (by decide)
    · exact joinQueue_contactsKept _ s
  · exact .refl s

theorem takeCancel_contactsKept (f : Frame) (s : State) : ContactsKept s (takeCancel f s) := by
  unfold takeCancel
  dsimp only
  split
  · split
    · exact (handAccept_touches _ _ _ s).contactsKept (by decide)
    · split
      · exact (handAccept_touches _ _ _ s).contactsKept (by decide)
      · rename_i op _ _
        have hcut : ContactsKept s
            (endOperation op .cancelled .requested
              (handAccept f.src (byteAt f.body 0) .cancelTaken (withdrawFor op s))) :=
          (((withdrawFor_touches op s).trans (handAccept_touches _ _ _ _)).contactsKept (by decide)).trans
            (endOperation_contactsStay _ _ _ _)
        unfold cancelOperation
        dsimp only
        split
        · exact hcut.trans (nextHead_contactsKept _)
        · exact hcut
  · exact .refl s

theorem takeSelector_contactsKept (sel : Selector) (s : State) : ContactsKept s (takeSelector sel s) := by
  have hfold : ContactsKept s ((mismatched sel s).foldl cancelBySelector s) := by
    generalize mismatched sel s = ops
    induction ops generalizing s with
    | nil => exact .refl s
    | cons op ops ih => exact ((cancelBySelector_touches s op).contactsKept (by decide)).trans (ih _)
  unfold takeSelector
  dsimp only
  split
  · exact hfold.trans (nextHead_contactsKept _)
  · exact hfold

theorem takePosition_contactsKept (k : Nat) (s : State) : ContactsKept s (takePosition k s) := by
  unfold takePosition
  split
  · exact .refl s
  · split
    · exact ((withdrawFor_touches _ s).contactsKept (by decide)).trans (endedNext_contactsKept _ _ _ _)
    · exact .refl s

theorem claimAbandoned_contactsKept (id : Byte) (s : State) : ContactsKept s (claimAbandoned id s) := by
  unfold claimAbandoned
  split
  · exact .refl s
  · split
    · exact judgeWindow_contactsKept s
    · exact .refl s

theorem collide_contactsKept (a : Attempt) (s : State) : ContactsKept s (collide a s) := by
  have hclear := (clearAttempt_touches s).contactsKept (by decide)
  unfold collide
  dsimp only
  split
  · exact hclear.trans (((urgentCollided_touches _ _ _).trans (pick_touches _)).contactsKept (by decide))
  · exact hclear.trans (((markerCollided_touches _ _ _ _ _).trans (pick_touches _)).contactsKept (by decide))
  · refine hclear.trans (ContactsKept.trans ?_ ((pick_touches _).contactsKept (by decide)))
    unfold claimCollided
    split
    · exact (touches_withLink _ _).contactsKept (by decide)
    · split
      · exact (touches_withLink _ _).contactsKept (by decide)
      · exact (((touches_withLink _ _).trans (countAbandoned_touches _)).contactsKept (by decide)).trans
          (claimAbandoned_contactsKept _ _)
  · exact hclear

/-- A frame taken from the inbound queue and judged. -/
theorem delivery_contactsKept {c : Prop} [Decidable c] {s : State} {take : State → State}
    (h : ∀ s, ContactsKept s (take s)) : ContactsKept s (if c then take (finishDelivery s) else s) := by
  split
  · exact ((finishDelivery_touches s).contactsKept (by decide)).trans (h _)
  · exact .refl s

theorem endedAt_contactsKept (o : OpOutcome) (r : Reason) (d : Nat) (s : State) :
    ContactsKept s (endDrive o r (s.reachTime d)) :=
  ContactsKept.trans ((reachTime_touches s d).contactsKept (by decide)) (endDrive_contactsStay o r _)

theorem measureRipe_contactsKept (s : State) : ContactsKept s (qualifyRipeMeasures (qualifyRipeSingles s)) :=
  ((qualifyRipeSingles_touches s).trans (qualifyRipeMeasures_touches _)).contactsKept (by decide)

theorem endSelfTest_contactsKept (s : State) : ContactsKept s (endSelfTest s) := by
  unfold endSelfTest
  split
  · exact (touches_withStart s _).contactsKept (by decide)
  · exact (touches_withStart s _).contactsKept (by decide)
  · split
    · exact (((touches_withStore s _).contactsKept (by decide)).trans (listening_contactsStay _ _)).trans
        (measureRipe_contactsKept _)
    · exact (((touches_withStore s _).trans (touches_withStart _ _)).trans (beginCondition_touches _ _)).contactsKept
        (by decide)

/-- A qualification event leaves the contacts of every other slot. -/
theorem qualifyObject_others {j k : Nat} (hk : k ≠ j) (c : Comb) (s : State) :
    ContactsStay k s (qualifyObject j c s) := by
  have hput : ContactsStay k s (s.putObj j (qualifiedObj s (objIn s j) c)) := by
    simp [ContactsStay, positionOf, objIn_putObj_other _ _ hk]
  unfold qualifyObject
  refine hput.trans (ContactsStay.trans ?_ (superviseIf_contactsStay _ c _ k))
  split
  · rfl
  · exact handPosition_contactsStay j _ k

/-- What R19 to R25 leave to no other command: a slot's contacts are written by its own qualification event, its own
intermediate limit and a reset. -/
theorem contacts_of_exec {c : Instr} {s t : State} (h : exec c s = .next t) (k : Nat) (hr : ¬ mayReset c)
    (hq : c ≠ .qualificationEvent k) (hi : c ≠ .intermediateLimitExpiry k) : ContactsStay k s t := by
  cases c with
  | powerOn => exact absurd (.inl rfl) hr
  | supplyDip => exact absurd (.inr (.inl rfl)) hr
  | resetLine => exact absurd (.inr (.inr (.inl rfl))) hr
  | responseSent => exact absurd (.inr (.inr (.inr rfl))) hr
  | selfTestEnd =>
    cases h
    split
    · exact endSelfTest_contactsKept s k
    · rfl
  | rawCombinationChange slot o c =>
    cases h
    split
    · apply putObj_contactsStay <;> rfl
    · rfl
  | qualificationEvent slot =>
    have hk : k ≠ slot := fun hk => hq (by rw [hk])
    cases h
    split
    · rfl
    · dsimp only
      split
      · rfl
      · exact ((reachTime_touches s _).contactsStay (by decide) k).trans (qualifyObject_others hk _ _)
  | intermediateLimitExpiry slot =>
    have hk : k ≠ slot := fun hk => hi (by rw [hk])
    cases h
    split
    · rfl
    · dsimp only
      split
      · refine ContactsStay.trans ?_ (handPosition_contactsStay slot _ k)
        simp [ContactsStay, positionOf, objIn_putObj_other _ _ hk, objIn_congr (s := s) (t := s.reachTime _) rfl]
      · rfl
  | readyInputChange slot b =>
    cases h
    split
    · apply putObj_contactsStay <;> rfl
    · rfl
  | readyQualification slot =>
    cases h
    split
    · rfl
    · dsimp only
      split
      · rfl
      · refine ((reachTime_touches s ((objIn s slot).readySince + qualificationTime s)).contactsStay
          (by decide) k).trans ?_
        apply putObj_contactsStay <;> rfl
  | localRequest =>
    cases h
    split
    · rfl
    · exact ((touches_withHandover s _).contactsStay (by decide) k).trans (takeLocal_contactsKept _ _ _ k)
  | selectorChange =>
    cases h
    split
    · rfl
    · exact ((touches_withHandover s _).contactsStay (by decide) k).trans (takeSelector_contactsKept _ _ k)
  | positionChangeTaken =>
    cases h
    split
    · rfl
    · exact ((touches_withHandover s _).contactsStay (by decide) k).trans (takePosition_contactsKept _ _ k)
  | collision =>
    cases h
    split
    · rfl
    · split
      · rfl
      · split
        · rfl
        · exact collide_contactsKept _ s k
  | claim =>
    cases h
    split
    · rfl
    · exact delivery_contactsKept (takeClaim_contactsKept _) k
  | object =>
    cases h
    split
    · rfl
    · exact delivery_contactsKept (takeObject_contactsKept _) k
  | request =>
    cases h
    split
    · rfl
    · exact delivery_contactsKept (takeRequest_contactsKept _) k
  | cancel =>
    cases h
    split
    · rfl
    · exact delivery_contactsKept (takeCancel_contactsKept _) k
  | viewChange =>
    cases h
    split
    · rfl
    · exact ((touches_withHandover s _).contactsStay (by decide) k).trans (takeViewReport_contactsKept _ _ k)
  | windowExpiry =>
    cases h
    split
    · split
      · rfl
      · exact (((reachTime_touches s _).trans (stopWindow_touches _)).contactsStay (by decide) k).trans
          (judgeWindow_contactsKept _ k)
    · rfl
  | deferExpiry =>
    cases h
    split
    · split
      · exact (((reachTime_touches s _).trans (stopDeferTimer_touches _)).contactsStay (by decide) k).trans
          (nextHead_contactsKept _ k)
      · rfl
    · rfl
  | departureExpiry =>
    cases h
    split
    · rfl
    · split
      · rfl
      · split
        · rfl
        · exact endedAt_contactsKept _ _ _ s k
  | travelExpiry =>
    cases h
    split
    · rfl
    · split
      · rfl
      · split
        · rfl
        · unfold endOverdue
          split
          · exact endedAt_contactsKept _ _ _ s k
          · exact endedAt_contactsKept _ _ _ s k
  | settleExpiry =>
    cases h
    split
    · rfl
    · split
      · rfl
      · split
        · exact endedAt_contactsKept _ _ _ s k
        · rfl
  | measurementReading w => cases w <;> exact (touches_of_exec h).contactsStay (by simp [mayChange, measurePart]) k
  | measurementStateChange w => cases w <;> exact (touches_of_exec h).contactsStay (by simp [mayChange, measurePart]) k
  | _ => exact (touches_of_exec h).contactsStay (by simp [mayChange, departureParts]) k

/-- Settles O12: no other command writes a slot's contacts. -/
theorem positionsChangeOnlyByTheirOwnEvents : Obligations.PositionsChangeOnlyByTheirOwnEvents := by
  intro c s t h k hne
  by_contra hno
  obtain ⟨hq, hi, hr⟩ : c ≠ .qualificationEvent k ∧ c ≠ .intermediateLimitExpiry k ∧ ¬ mayReset c := by tauto
  exact hne (contacts_of_exec h k hr hq hi).2

end Sys2Proof.Machine


namespace Sys2Proof.Machine

/-! ### Pending flags through every command (R36, R37) -/

theorem flagsStay_of_pending {s t : State} (h : t.faults.pending = s.faults.pending) : FlagsStay s t := by
  simp [FlagsStay, h]

theorem finishDeparture_flagsStay (d : Departure) (s : State) : FlagsStay s (finishDeparture d s) := by
  cases d with
  | restart => exact (respondWith_touches _ _ _ s).flagsStay (by decide)
  | erase =>
    exact FlagsStay.trans (t := eraseStore s) (flagsStay_of_pending rfl)
      ((respondWith_touches _ _ _ _).flagsStay (by decide))

theorem endDeparture_flagsStay (s : State) : FlagsStay s (endDeparture s) := by
  have hhalt : FlagsStay s (s.withLink { s.link with halted := true }) := (touches_withLink s _).flagsStay (by decide)
  unfold endDeparture
  dsimp only
  split
  · exact hhalt
  · exact hhalt.trans (finishDeparture_flagsStay _ _)

theorem markerSent_flagsStay (renew final : Bool) (rest : List NormalItem) (a : Attempt) (s : State) :
    FlagsStay s (markerSent renew final rest a s) := by
  have hmark : FlagsStay s (markerEnded a.inReady (s.withLink
      { s.link with normal := rest ++ followingMarker renew final a.frame.final })) :=
    ((touches_withLink s _).trans (markerEnded_touches _ _)).flagsStay (by decide)
  unfold markerSent
  extract_lets _ u v w
  have hw : FlagsStay s w := hmark.trans (((Touches.refl _ v).ifThen (enterReady_touches v)).flagsStay (by decide))
  split
  · exact hw.trans (endDeparture_flagsStay w)
  · exact hw

theorem markerAbandoned_flagsStay (renew final : Bool) (rest : List NormalItem) (s : State) :
    FlagsStay s (markerAbandoned renew final rest s) := by
  have hmark : FlagsStay s (markerEnded false (countAbandoned (s.withLink
      { s.link with normal := rest ++ followingMarker renew final true }))) :=
    (((touches_withLink s _).trans (countAbandoned_touches _)).trans (markerEnded_touches _ _)).flagsStay (by decide)
  unfold markerAbandoned
  extract_lets _ u v w
  have hw : FlagsStay s w := hmark.trans (((Touches.refl _ v).ifThen (requestStatus_touches v)).flagsStay (by decide))
  split
  · exact hw.trans (endDeparture_flagsStay w)
  · exact hw

theorem markerCollided_flagsStay (renew final : Bool) (n : Nat) (rest : List NormalItem) (s : State) :
    FlagsStay s (markerCollided renew final n rest s) := by
  unfold markerCollided
  split
  · exact (touches_withLink s _).flagsStay (by decide)
  · exact markerAbandoned_flagsStay _ _ _ s

theorem pick_flagsStay (s : State) : FlagsStay s s.pick := (pick_touches s).flagsStay (by decide)

theorem clearAttempt_flagsStay (s : State) : FlagsStay s (clearAttempt s) :=
  (clearAttempt_touches s).flagsStay (by decide)

theorem collide_flagsStay (a : Attempt) (s : State) : FlagsStay s (collide a s) := by
  unfold collide
  dsimp only
  split
  · exact (clearAttempt_flagsStay s).trans
      (((urgentCollided_touches _ _ _).flagsStay (by decide)).trans (pick_flagsStay _))
  · exact (clearAttempt_flagsStay s).trans ((markerCollided_flagsStay _ _ _ _ _).trans (pick_flagsStay _))
  · exact (clearAttempt_flagsStay s).trans
      (((claimCollided_touches _ _ _ _ _ _).flagsStay (by decide)).trans (pick_flagsStay _))
  · exact clearAttempt_flagsStay s

theorem afterSilenced_flagsStay (d : Option Departure) (ended : Bool) (s : State) :
    FlagsStay s (conflictDeparture d ended (silenceView s)) := by
  have hview : FlagsStay s (silenceView s) := flagsStay_of_pending rfl
  unfold conflictDeparture
  split
  · exact hview
  · split
    · exact hview
    · exact hview.trans (finishDeparture_flagsStay _ _)

theorem goSilent_flagsStay (s : State) : FlagsStay s (goSilent s) := by
  have hquiet (u : State) : FlagsStay u (silenceRequests (dropClaiming .silenced u)) :=
    ((dropClaiming_touches _ u).trans (silenceRequests_touches _)).flagsStay (by decide)
  have hsil : FlagsStay s (silenced (s.withStart
    { s.start with listen := none, announce := none, departure := none })) :=
    ((touches_withStart s _).trans (silenced_touches _)).flagsStay (by decide)
  rw [goSilent_eq]
  exact ((hsil.trans (beginCondition_flagsStay _ _)).trans (hquiet _)).trans (afterSilenced_flagsStay _ _ _)

theorem ownSourceHeader_flagsStay (s : State) : FlagsStay s (ownSourceHeader s) := by
  have hlink : FlagsStay s (s.withLink { s.link with header := none, ignoring := true }) :=
    (touches_withLink s _).flagsStay (by decide)
  unfold ownSourceHeader
  dsimp only
  split
  · exact hlink
  · exact hlink.trans (goSilent_flagsStay _)

/-- No input but the fault-reset push clears a flag when it qualifies. -/
theorem singleQualified_flagsStay {i : SingleInput} (hi : i ≠ .faultReset) (previous : Option Bool) (contact : Bool)
    (s : State) : FlagsStay s (singleQualified i previous contact s) := by
  cases i with
  | selector => exact (handSelector_touches s).flagsStay (by decide)
  | bypassKey => exact (ownChanged_touches s).flagsStay (by decide)
  | synchroPermit => rfl
  | faultReset => exact absurd rfl hi
  | localPush k dir => exact (singleQualified_localPush_touches k dir previous contact s).flagsStay (by decide)

theorem qualifySingle_flagsStay {i : SingleInput} (hi : i ≠ .faultReset) (s : State) :
    FlagsStay s (qualifySingle i s) := by
  unfold qualifySingle
  dsimp only
  split
  · rfl
  · exact ((putSingle_touches s i _).flagsStay (by decide)).trans (singleQualified_flagsStay hi _ _ _)

theorem goodFrameReport_flagsStay (s : State) : FlagsStay s (goodFrameReport s) := by
  unfold goodFrameReport
  split
  · exact flagsStay_of_pending rfl
  · rfl

theorem goodFrame_flagsStay (f : Frame) (s : State) : FlagsStay s (goodFrame f s) := by
  unfold goodFrame
  split
  · rfl
  · dsimp only
    refine (goodFrameReport_flagsStay s).trans ?_
    split
    · rfl
    · split
      · exact (touches_withLink _ _).flagsStay (by decide)
      · exact ((touches_withCounters _ _).trans (suspectReport_touches _ _)).flagsStay (by decide)

theorem writeConfig_flagsStay (record : List Byte) (s : State) : FlagsStay s (writeConfig record s) := by
  have hresp (code status : Byte) (data : List Byte) (u : State) : FlagsStay u (respondWith code status data u) :=
    (respondWith_touches _ _ _ u).flagsStay (by decide)
  unfold writeConfig
  split
  · exact hresp _ _ _ s
  · split
    · exact hresp _ _ _ s
    · exact FlagsStay.trans (t := storeRecord record s) (flagsStay_of_pending rfl) (hresp _ _ _ _)

theorem beginDeparture_flagsStay (d : Departure) (s : State) : FlagsStay s (beginDeparture d s) :=
  ((((touches_withStart s _).trans (touches_withReq _ _)).trans (dropClaiming_touches _ _)).trans
    (requestFinal_touches _)).flagsStay (by decide)

theorem endedAt_flagsStay (o : OpOutcome) (r : Reason) (d : Nat) (s : State) :
    FlagsStay s (endDrive o r (s.reachTime d)) :=
  ((reachTime_touches s d).flagsStay (by decide)).trans (endDrive_flagsStay o r _)

theorem eraseConfig_flagsStay (s : State) : FlagsStay s (eraseConfig s) := by
  unfold eraseConfig
  split
  · exact (respondWith_touches _ _ _ s).flagsStay (by decide)
  · split
    · exact beginDeparture_flagsStay _ s
    · exact finishDeparture_flagsStay _ s

theorem restartNode_flagsStay (s : State) : FlagsStay s (restartNode s) := by
  unfold restartNode
  split
  · exact (respondWith_touches _ _ _ s).flagsStay (by decide)
  · split
    · exact beginDeparture_flagsStay _ s
    · exact finishDeparture_flagsStay _ s

theorem portFrame_flagsStay {act : Byte → List Byte → State → State}
    (hact : ∀ code args s, FlagsStay s (act code args s))
    (takes : Byte → Bool) (ok : List Byte → Bool) (bytes : List Byte) (s : State) :
    FlagsStay s (portFrame takes ok act bytes s) :=
  portFrame_rel (fun s x => (touches_withPort s x).flagsStay (by decide)) .refl .trans hact takes ok bytes s

/-- R36, R37: no other command clears a pending flag. -/
theorem flagsStay_of_exec {c : Instr} {s t : State} (h : exec c s = .next t) (hr : ¬ mayReset c)
    (hq : c ≠ .singleInputQualification .faultReset) (ht : c ≠ .selfTestEnd) : FlagsStay s t := by
  cases c with
  | powerOn => exact absurd (.inl rfl) hr
  | supplyDip => exact absurd (.inr (.inl rfl)) hr
  | resetLine => exact absurd (.inr (.inr (.inl rfl))) hr
  | responseSent => exact absurd (.inr (.inr (.inr rfl))) hr
  | selfTestEnd => exact absurd rfl ht
  | qualificationEvent slot =>
    cases h
    split
    · rfl
    · dsimp only
      split
      · rfl
      · exact ((reachTime_touches s _).flagsStay (by decide)).trans (qualifyObject_flagsStay _ _ _)
  | intermediateLimitExpiry slot =>
    cases h
    split
    · rfl
    · dsimp only
      split
      · exact (((reachTime_touches s _).trans (putObj_touches _ _ _)).flagsStay (by decide)).trans
          (handPosition_flagsStay _ _)
      · rfl
  | singleInputQualification i =>
    have hi : i ≠ .faultReset := fun hi => hq (by rw [hi])
    cases h
    split
    · dsimp only
      split
      · rfl
      · exact ((reachTime_touches s _).flagsStay (by decide)).trans (qualifySingle_flagsStay hi _)
    · rfl
  | collision =>
    cases h
    split
    · rfl
    · split
      · rfl
      · split
        · rfl
        · exact collide_flagsStay _ s
  | frameSent =>
    cases h
    split
    · rfl
    · dsimp only
      refine (clearAttempt_flagsStay s).trans ?_
      split
      · exact ((touches_withLink _ _).flagsStay (by decide)).trans (pick_flagsStay _)
      · exact (markerSent_flagsStay _ _ _ _ _).trans (pick_flagsStay _)
      · exact (((touches_withLink _ _).trans (claimSent_touches _ _)).flagsStay (by decide)).trans (pick_flagsStay _)
      · rfl
  | headerReceived =>
    cases h
    split
    · split
      · exact (headerFailed_touches _ s).flagsStay (by decide)
      · split
        · exact ownSourceHeader_flagsStay s
        · exact (headerPassed_touches _ s).flagsStay (by decide)
    · rfl
  | frameEnd =>
    cases h
    split
    · rfl
    · split
      · have hlink : FlagsStay s (s.withLink { s.link with header := none }) :=
          (touches_withLink s _).flagsStay (by decide)
        dsimp only
        split
        · exact hlink.trans ((bodyFailed_touches _ _).flagsStay (by decide))
        · exact hlink.trans (goodFrame_flagsStay _ _)
      · rfl
  | silenceTimerExpiry =>
    cases h
    split
    · rfl
    · split
      · exact (((reachTime_touches s _).trans (touches_withView _ _)).flagsStay (by decide)).trans
          (beginCondition_flagsStay _ _)
      · rfl
  | departureExpiry =>
    cases h
    split
    · rfl
    · split
      · rfl
      · split
        · rfl
        · exact endedAt_flagsStay _ _ _ s
  | travelExpiry =>
    cases h
    split
    · rfl
    · split
      · rfl
      · split
        · rfl
        · unfold endOverdue
          split
          · exact endedAt_flagsStay _ _ _ s
          · exact endedAt_flagsStay _ _ _ s
  | writeConfig => cases h; exact portFrame_flagsStay (fun _ args u => writeConfig_flagsStay args u) _ _ _ s
  | eraseConfig => cases h; exact portFrame_flagsStay (fun _ _ u => eraseConfig_flagsStay u) _ _ _ s
  | restart => cases h; exact portFrame_flagsStay (fun _ _ u => restartNode_flagsStay u) _ _ _ s
  | measurementReading w => cases w <;> exact (touches_of_exec h).flagsStay (by simp [mayChange, measurePart])
  | measurementStateChange w => cases w <;> exact (touches_of_exec h).flagsStay (by simp [mayChange, measurePart])
  | _ => exact (touches_of_exec h).flagsStay (by simp [mayChange, operationParts])

/-- Settles O11: the fault-reset push's edge alone clears flags while the node runs. -/
theorem flagsClearOnlyByEdgeOrReset : Obligations.FlagsClearOnlyByEdgeOrReset :=
  fun _ _ _ h hq ht hr => flagsStay_of_exec h hr hq ht

end Sys2Proof.Machine


namespace Sys2Proof.Machine

/-! ### Ranks (R98) -/

theorem rankBetter_iff (x y : Rank) : rankBetter x y = true ↔
    (y.cls < x.cls ∨ (y.cls = x.cls ∧ y.deferCount < x.deferCount) ∨
      (y.cls = x.cls ∧ y.deferCount = x.deferCount ∧ x.address < y.address)) := by
  unfold rankBetter
  split
  · simp only [decide_eq_true_eq]; omega
  · split <;> simp only [decide_eq_true_eq] <;> omega

/-- Settles O39: the rank is the lexicographic order of class, defer count and address. -/
theorem ranksAreOrdered : Obligations.RanksAreOrdered := by
  refine ⟨rankBetter_iff, fun x y hne => ?_, fun x y z hxy hyz => ?_⟩
  · rw [← Bool.not_eq_true, rankBetter_iff, rankBetter_iff]
    omega
  · rw [rankBetter_iff] at *
    omega

/-! ### Levels on the line (R176) -/

/-- Pairs laid out one after the other stand at their places. -/
theorem getElem?_flatMap_pairs (f : Nat → List Level) (hf : ∀ i, (f i).length = 2) (n i j : Nat) (hi : i < n)
    (hj : j < 2) :
    ((List.range n).flatMap f)[2 * i + j]? = (f i)[j]? := by
  have hlen (m : Nat) : ((List.range m).flatMap f).length = 2 * m := by
    induction m with
    | zero => rfl
    | succ m ih => rw [List.range_succ, List.flatMap_append, List.length_append, ih]; simp [hf]; omega
  induction n with
  | zero => omega
  | succ n ih =>
    rw [List.range_succ, List.flatMap_append]
    by_cases hin : i < n
    · rw [List.getElem?_append_left (by rw [hlen]; omega), ih hin]
    · obtain rfl : i = n := by omega
      rw [List.getElem?_append_right (by rw [hlen]; omega), hlen]
      simp

theorem bitLevels_length (b : Bool) : (bitLevels b).length = 2 := by cases b <;> rfl

/-- The two half-bits of a byte time's bit: those of a data bit, or the held level twice. -/
def halfBits (sym : LineSym) (i : Nat) : List Level :=
  match sym with
  | .data b => bitLevels (b.getLsbD (7 - i))
  | .mark m =>
    if i = (markHeld m).1 then [(markHeld m).2, (markHeld m).2] else bitLevels ((markValue m).getLsbD (7 - i))

theorem halfBits_length (sym : LineSym) (i : Nat) : (halfBits sym i).length = 2 := by
  cases sym with
  | data b => exact bitLevels_length _
  | mark m =>
    unfold halfBits
    dsimp only
    split
    · rfl
    · exact bitLevels_length _

theorem symLevels_eq (sym : LineSym) : symLevels sym = (List.range 8).flatMap (halfBits sym) := by cases sym <;> rfl

theorem symLevels_first (sym : LineSym) {i : Nat} (hi : i < 8) : (symLevels sym)[2 * i]? = (halfBits sym i)[0]? := by
  rw [symLevels_eq]
  exact getElem?_flatMap_pairs _ (halfBits_length sym) 8 i 0 hi (by decide)

theorem symLevels_second (sym : LineSym) {i : Nat} (hi : i < 8) :
    (symLevels sym)[2 * i + 1]? = (halfBits sym i)[1]? := by
  rw [symLevels_eq]
  exact getElem?_flatMap_pairs _ (halfBits_length sym) 8 i 1 hi (by decide)

/-- A data bit has a transition at its middle. -/
theorem bitLevels_turn (b : Bool) : (bitLevels b)[0]? ≠ (bitLevels b)[1]? := by cases b <;> decide

theorem markHeld_lt (m : LineMark) : (markHeld m).1 < 8 := by cases m <;> decide

/-- A mark holds its one bit and no other. -/
theorem mark_held_iff (m : LineMark) {i : Nat} (hi : i < 8) :
    (symLevels (.mark m))[2 * i]? = (symLevels (.mark m))[2 * i + 1]? ↔ i = (markHeld m).1 := by
  rw [symLevels_first _ hi, symLevels_second _ hi]
  unfold halfBits
  dsimp only
  split <;> rename_i h
  · simp [h]
  · exact ⟨fun heq => absurd heq (bitLevels_turn _), fun heq => absurd heq h⟩

/-- Settles O35: a mark's held bit is where no data byte can agree with it. -/
theorem marksAreNoData : Obligations.MarksAreNoData := by
  refine ⟨fun b i hi => ?_, fun m i hi => mark_held_iff m hi, fun b m heq => ?_⟩
  · rw [symLevels_first _ hi, symLevels_second _ hi]
    unfold halfBits bitLevels
    dsimp only
    cases b.getLsbD (7 - i) <;> exact ⟨rfl, rfl⟩
  · have hheld := (mark_held_iff m (markHeld_lt m)).2 rfl
    rw [← heq, symLevels_first _ (markHeld_lt m), symLevels_second _ (markHeld_lt m)] at hheld
    exact bitLevels_turn _ hheld

/-! ### View entries -/

theorem entryOf_putEntry_same (station : Nat) (e : Entry) (s : State) :
    entryOf (putEntry station e s) station = some e := by
  simp [entryOf, putEntry, tableGet_put_same]

theorem entryOf_putEntry_other {station j : Nat} (e : Entry) (s : State) (h : j ≠ station) :
    entryOf (putEntry station e s) j = entryOf s j := by
  simp [entryOf, putEntry, tableGet_put_other _ _ h]

theorem entryOf_congr {s t : State} (h : t.view.entries = s.view.entries) (j : Nat) : entryOf t j = entryOf s j := by
  unfold entryOf
  rw [h]

theorem suspectReport_of_fresh {s : State} {station : Nat} {e : Entry} (h : entryOf s station = some e)
    (hf : e.state = .fresh) :
    suspectReport station s = raiseView station (some .suspect) (putEntry station { e with state := .suspect } s) := by
  unfold suspectReport
  rw [h]
  simp only [hf, if_true]
  rfl

theorem suspectReport_of_not_fresh {s : State} {station : Nat} (h : entryState s station ≠ some .fresh) :
    suspectReport station s = s := by
  unfold suspectReport
  unfold entryState at h
  split
  · rfl
  · rename_i e he
    rw [he] at h
    exact if_neg (by simpa using h)

/-- What a suspect report does (R70, R73): FRESH alone becomes SUSPECT, one view change, and the content stays. -/
theorem suspectReport_spec (station : Nat) (s : State) :
    entryState (suspectReport station s) station = suspected (entryState s station) ∧
      (suspectReport station s).handover =
        { s.handover with views := s.handover.views ++ suspectChange s station } ∧
      (∀ e, entryOf s station = some e →
        ∃ e', entryOf (suspectReport station s) station = some e' ∧ e'.content = e.content ∧ e'.lastGood = e.lastGood) ∧
      (∀ j, j ≠ station → entryOf (suspectReport station s) j = entryOf s j) := by
  by_cases hf : entryState s station = some .fresh
  · obtain ⟨e, he, hs⟩ : ∃ e, entryOf s station = some e ∧ e.state = .fresh := by
      simpa [entryState, Option.map_eq_some_iff] using hf
    have hself : entryOf (suspectReport station s) station = some { e with state := .suspect } := by
      rw [suspectReport_of_fresh he hs]
      exact entryOf_putEntry_same station _ s
    refine ⟨?_, ?_, fun e' he' => ⟨_, hself, ?_, ?_⟩, fun j hj => ?_⟩
    · rw [hf, entryState, hself]
      rfl
    · rw [suspectReport_of_fresh he hs, suspectChange, if_pos hf]
      rfl
    · rw [he] at he'; cases he'; rfl
    · rw [he] at he'; cases he'; rfl
    · rw [suspectReport_of_fresh he hs]
      exact entryOf_putEntry_other _ s hj
  · rw [suspectReport_of_not_fresh hf, suspectChange, if_neg hf]
    refine ⟨?_, by simp, fun e he => ⟨e, he, rfl, rfl⟩, fun _ _ => rfl⟩
    cases h : entryState s station with
    | none => rfl
    | some st => cases st <;> simp_all [suspected]

end Sys2Proof.Machine


namespace Sys2Proof.Machine

/-! ### The View Manager's timers (R62, R71, R75) -/

theorem requestStatus_link (s : State) :
    (requestStatus s).link =
      { s.link with
        normal := (requestStatus s).link.normal, current := (requestStatus s).link.current
        draws := (requestStatus s).link.draws } := by
  unfold requestStatus
  split
  · split
    · split <;> rfl
    · obtain ⟨c, n, h⟩ := pick_eq { s.link with normal := s.link.normal ++ [.marker false false 0] }
      simp [h]
  · rfl

theorem requestStatus_of_marker {s : State} (ht : transmits s.start.phase = true)
    (hm : s.link.normal.any isMarker = true) :
    requestStatus s =
      if markerOnLine s.link then s.withLink { s.link with normal := s.link.normal.map markRenew } else s := by
  simp [requestStatus, ht, hm]

/-- The heartbeat timer stopped at its deadline. -/
def heartbeatStopped (d : Nat) (s : State) : State :=
  (s.reachTime d).withView { s.view with heartbeat := none }

theorem exec_heartbeatExpiry {s : State} {d : Nat} (hd : s.view.heartbeat = some d) :
    exec .heartbeatExpiry s =
      .next (if s.start.phase = .ready then requestStatus (heartbeatStopped d s) else heartbeatStopped d s) := by
  have harm : exec .heartbeatExpiry s = execHeartbeatExpiry s := rfl
  simp only [harm, execHeartbeatExpiry, hd]
  rfl

theorem heartbeatStopped_touches (d : Nat) (s : State) : Touches [.now, .view] s (heartbeatStopped d s) :=
  (reachTime_touches _ _).trans (touches_withView _ _)

theorem exec_ageingDeadline {s : State} {st : Nat} {e : Entry} (he : entryOf s st = some e) (hs : e.state ≠ .stale) :
    exec (.ageingDeadline st) s =
      .next (raiseView st (some .stale)
        (putEntry st { e with state := .stale } (s.reachTime (e.lastGood + 3 * e.content.heartbeat)))) := by
  have harm : exec (.ageingDeadline st) s = execAgeingDeadline st s := rfl
  simp [harm, execAgeingDeadline, he, hs, ageingDeadline]

/-- The silence timer stopped at its deadline. -/
def silenceStopped (d : Nat) (s : State) : State := (s.reachTime d).withView { s.view with silence := none }

theorem exec_silenceTimerExpiry {s : State} {d : Nat} (hp : s.start.phase = .ready) (hd : s.view.silence = some d) :
    exec .silenceTimerExpiry s = .next (beginCondition .linkSilent (silenceStopped d s)) := by
  have harm : exec .silenceTimerExpiry s = execSilenceTimerExpiry s := rfl
  simp [harm, execSilenceTimerExpiry, hp, hd, silenceStopped, State.reachTime]

theorem silenceStopped_touches (d : Nat) (s : State) : Touches [.now, .view] s (silenceStopped d s) :=
  (reachTime_touches _ _).trans (touches_withView _ _)

theorem setPending_keeps (p : CauseSet) (s : State) :
    (setPending p s).link.urgent = s.link.urgent ∧ (setPending p s).link.inbound = s.link.inbound := by
  unfold setPending
  split
  · exact ⟨rfl, rfl⟩
  · obtain ⟨hu, hi, -⟩ := ownChanged_keeps (refreshRelay (s.withFaults { s.faults with pending := p }))
    exact ⟨hu, hi⟩

/-- What the beginning of a condition leaves of the link and the view (R36, R61). -/
theorem beginCondition_keeps (c : Cause) (s : State) :
    (beginCondition c s).link.urgent = s.link.urgent ∧ (beginCondition c s).link.inbound = s.link.inbound ∧
      (beginCondition c s).view = { s.view with counter := (beginCondition c s).view.counter } := by
  have hview : (beginCondition c s).view = { s.view with counter := (beginCondition c s).view.counter } := by
    rw [(beginCondition_ownEvents c s).1]
  cases h : causeIn s.faults.holding c with
  | true => rw [beginCondition_of_holding h]; exact ⟨rfl, rfl, rfl⟩
  | false =>
    have hk := setPending_keeps (s.faults.pending ||| causeBit c)
      (s.withFaults { s.faults with holding := s.faults.holding ||| causeBit c })
    rw [← beginCondition_of_not_holding h] at hk
    exact ⟨hk.1, hk.2, hview⟩

theorem heartbeat_timer (s : State) (d : Nat) (hd : s.view.heartbeat = some d) :
    ∃ t, exec .heartbeatExpiry s = .next t ∧ t.now = max s.now d ∧ t.view = { s.view with heartbeat := none } ∧
      (s.start.phase = .ready →
        (s.link.normal.any isMarker = false → t.link.normal = s.link.normal ++ [.marker false false 0]) ∧
        (s.link.normal.any isMarker = true → markerOnLine s.link = true →
          t.link.normal = s.link.normal.map markRenew) ∧
        (s.link.normal.any isMarker = true → markerOnLine s.link = false → t.link = s.link)) ∧
      (s.start.phase ≠ .ready → t.link = s.link) ∧
      t.link = { s.link with normal := t.link.normal, current := t.link.current, draws := t.link.draws } ∧
      Touches [.now, .view, .link] s t := by
  have hexec := exec_heartbeatExpiry hd
  have hstop := heartbeatStopped_touches d s
  by_cases hp : s.start.phase = .ready
  · have ht : transmits (heartbeatStopped d s).start.phase = true := by
      rw [show (heartbeatStopped d s).start = s.start from rfl, hp]; rfl
    have htouch := requestStatus_touches (heartbeatStopped d s)
    rw [if_pos hp] at hexec
    refine ⟨_, hexec, htouch .now (by decide), htouch .view (by decide),
      fun _ => ⟨fun hm => requestStatus_joins ht hm, fun hm ho => ?_, fun hm ho => ?_⟩, fun h => absurd hp h,
      requestStatus_link _, (hstop.trans htouch).mono (by decide)⟩
    · rw [requestStatus_of_marker ht hm, if_pos (show markerOnLine (heartbeatStopped d s).link = true from ho)]
      rfl
    · rw [requestStatus_of_marker ht hm, if_neg (show ¬ markerOnLine (heartbeatStopped d s).link = true by
        rw [show (heartbeatStopped d s).link = s.link from rfl, ho]; decide)]
      rfl
  · rw [if_neg hp] at hexec
    exact ⟨_, hexec, rfl, rfl, fun h => absurd h hp, fun _ => rfl, rfl, hstop.mono (by decide)⟩

/-- Settles O38. -/
theorem viewTimersExpire : Obligations.ViewTimersExpire := by
  refine ⟨heartbeat_timer, fun s => ⟨fun hn => ?_, fun hn => ?_⟩, fun s st e he hs => ?_, fun s hp hh d hd => ?_,
    fun s hp hh d hd => ?_⟩
  · have harm : exec .heartbeatExpiry s = execHeartbeatExpiry s := rfl
    simp [harm, execHeartbeatExpiry, hn]
  · have harm : exec .silenceTimerExpiry s = execSilenceTimerExpiry s := rfl
    simp [harm, execSilenceTimerExpiry, hn]
  · refine ⟨_, exec_ageingDeadline he hs, rfl, entryOf_putEntry_same _ _ _, fun j hj => entryOf_putEntry_other _ _ hj,
      rfl, ?_⟩
    exact ((reachTime_touches _ _).trans (putEntry_touches _ _ _)).trans (raiseView_touches _ _ _)
  · obtain ⟨hu, hi, hv⟩ := beginCondition_keeps .linkSilent (silenceStopped d s)
    refine ⟨_, exec_silenceTimerExpiry hp hd, beginCondition_touches _ _ .now (by decide), by rw [hv]; rfl,
      beginCondition_holds _ _, beginCondition_pends hh,
      ((silenceStopped_touches d s).flagsStay (by decide)).trans (beginCondition_flagsStay _ _), by rw [hv]; rfl, hu,
        hi,
      ((silenceStopped_touches d s).trans (beginCondition_touches _ _)).mono (by decide)⟩
  · have hexec := exec_silenceTimerExpiry hp hd
    rw [beginCondition_of_holding (s := silenceStopped d s) hh] at hexec
    exact ⟨_, hexec, rfl, rfl, silenceStopped_touches d s⟩

/-! ### A RELEASE in the view (R72) -/

theorem exec_releaseTakenByView {s : State} {f : Frame} (hf : inboundHead s = some f) (ht : f.type = .release)
    (hv : s.link.viewTaken = false) :
    exec .releaseTakenByView s = .next (takeRelease f.src f.body (markViewTaken s)) := by
  have harm : exec .releaseTakenByView s = execReleaseTakenByView s := rfl
  simp [harm, execReleaseTakenByView, hf, ht, hv]

theorem getElem?_setPosition (k i : Nat) (hk : 1 ≤ k) (p : Position) (c : Content) :
    (setPosition k p c).objects[i]? =
      if i + 1 = k then c.objects[i]?.map fun o => { o with position := p } else c.objects[i]? := by
  simp only [setPosition, List.getElem?_modify]
  by_cases h : i + 1 = k
  · have hi : k - 1 = i := by omega
    simp [h, hi]
  · have hi : k - 1 ≠ i := by omega
    simp [h, hi]

/-- Settles O37: one row of R72's table for each of `takeRelease`'s branches. -/
theorem releasesMoveOnePosition : Obligations.ReleasesMoveOnePosition := by
  intro s f hf ht hv
  have hexec := exec_releaseTakenByView hf ht hv
  have hmark (j : Nat) : entryOf (markViewTaken s) j = entryOf s j := rfl
  refine ⟨fun hn => ?_, fun e he => ⟨fun hno => ?_, fun h1 hlen hc p hp => ?_⟩⟩
  · have : takeRelease f.src f.body (markViewTaken s) = markViewTaken s := by simp [takeRelease, hmark, hn]
    rw [this] at hexec
    exact ⟨_, hexec, rfl, markViewTaken_touches s⟩
  · have : takeRelease f.src f.body (markViewTaken s) = markViewTaken s := by
      unfold takeRelease
      rw [hmark, he]
      dsimp only
      split
      · rfl
      · rename_i k p hr
        refine if_pos ?_
        unfold releasedObject at hr
        split at hr
        · rename_i hin
          rcases hno with h | h | h | h
          · omega
          · omega
          · simp [h] at hr
          · exact h
        · cases hr
    rw [this] at hexec
    exact ⟨_, hexec, rfl, markViewTaken_touches s⟩
  · have htake : takeRelease f.src f.body (markViewTaken s) =
        applyRelease f.src e (byteAt f.body 1) (natAt f.body 2) p (markViewTaken s) := by
      simp [takeRelease, hmark, he, releasedObject, h1, hlen, hp, hc]
    rw [htake] at hexec
    have hentries : (applyRelease f.src e (byteAt f.body 1) (natAt f.body 2) p (markViewTaken s)).view.entries =
        tablePut s.view.entries f.src { e with content := { setPosition (natAt f.body 2) p e.content with
          counter := counterAfter e.content.counter (byteAt f.body 1) } } := by
      unfold applyRelease
      dsimp only
      split <;> rfl
    refine ⟨_, hexec, ?_, ⟨{ e with content := { setPosition (natAt f.body 2) p e.content with
      counter := counterAfter e.content.counter (byteAt f.body 1) } }, ?_, rfl, rfl, rfl, rfl, rfl, ?_,
      fun i => getElem?_setPosition _ i h1 p _⟩, ?_, fun j hj => ?_, ?_⟩
    · exact applyRelease_touches _ _ _ _ _ _ .link (by decide)
    · rw [entryOf, hentries, tableGet_put_same]
    · simp [setPosition]
    · unfold applyRelease
      dsimp only
      split
      · simp [putEntry, markViewTaken]
      · rfl
    · rw [entryOf, hentries, tableGet_put_other _ _ hj]
      rfl
    · exact (markViewTaken_touches s).trans (applyRelease_touches _ _ _ _ _ _)

end Sys2Proof.Machine


namespace Sys2Proof.Machine

/-! ### A STATUS in the view (R66, R67, R69, R70) -/

theorem exec_statusTakenByView_malformed {s : State} {f : Frame} (hf : inboundHead s = some f) (ht : f.type = .status)
    (hv : s.link.viewTaken = false) (hn : parseStatus f.body = none) :
    exec .statusTakenByView s = .next (suspectReport f.src (markViewTaken s)) := by
  have harm : exec .statusTakenByView s = execStatusTakenByView s := rfl
  simp [harm, execStatusTakenByView, hf, ht, hv, hn]

theorem exec_statusTakenByView {s : State} {f : Frame} {c : Content} (hf : inboundHead s = some f)
    (ht : f.type = .status) (hv : s.link.viewTaken = false) (hc : parseStatus f.body = some c) :
    exec .statusTakenByView s =
      .next (takeStatus f.src (statusJoining f.body) f.final c (markViewTaken s)) := by
  have harm : exec .statusTakenByView s = execStatusTakenByView s := rfl
  simp [harm, execStatusTakenByView, hf, ht, hv, hc]

theorem isMissing_of_entry {s : State} {station : Nat} {e : Entry} (h : entryOf s station = some e) :
    isMissing s station = false := by
  unfold isMissing
  split
  · simp [h]
  · rfl

/-- The views raised for a station alone have changed in the hand-overs. -/
def ViewsRaised (station : Nat) (st : EntryState) (n : Nat) (s t : State) : Prop :=
  t.handover = { s.handover with
    views := s.handover.views ++ List.replicate n { station := station, state := some st } }

theorem viewsRaised_zero (station : Nat) (st : EntryState) {s t : State} (h : t.handover = s.handover) :
    ViewsRaised station st 0 s t := by
  simp [ViewsRaised, h]

theorem ViewsRaised.raise {station : Nat} {st : EntryState} {n : Nat} {s t : State} (h : ViewsRaised station st n s t) :
    ViewsRaised station st (n + 1) s (raiseView station (some st) t) := by
  unfold ViewsRaised at *
  rw [raiseView_handover, h, List.replicate_succ']
  simp

theorem ViewsRaised.raiseIf {station : Nat} {st : EntryState} {n : Nat} {s t : State} (c : Prop) [Decidable c]
    (h : ViewsRaised station st n s t) :
    ViewsRaised station st (n + if c then 1 else 0) s (if c then raiseView station (some st) t else t) := by
  split
  · exact h.raise
  · exact h

theorem entries_raiseIf (c : Prop) [Decidable c] (station : Nat) (st : Option EntryState) (s : State) :
    (if c then raiseView station st s else s).view.entries = s.view.entries := by
  split <;> rfl

theorem createEntry_spec (station : Nat) (final : Bool) (c : Content) (s : State) :
    (createEntry station final c s).view.entries =
        tablePut s.view.entries station { state := stateAfter final, content := c, lastGood := s.now } ∧
      ViewsRaised station (stateAfter final) (if isExpected s station then 2 else 1) s
        (createEntry station final c s) := by
  have h1 : ViewsRaised station (stateAfter final) 1 s
      (raiseView station (some (stateAfter final))
        (putEntry station { state := stateAfter final, content := c, lastGood := s.now } s)) :=
    (viewsRaised_zero _ _ rfl).raise
  unfold createEntry
  refine ⟨entries_raiseIf _ _ _ _, ?_⟩
  have h2 := h1.raiseIf (isExpected s station = true)
  have hn : (1 + if isExpected s station = true then 1 else 0) = if isExpected s station = true then 2 else 1 := by
    split <;> rfl
  rw [hn] at h2
  exact h2

/-- A STATUS replaces an entry's content when JOINING is set or the counter differs (R67). -/
theorem replaces_iff (joining : Bool) (c : Content) (e : Entry) :
    replaces joining c e = true ↔ joining = true ∨ c.counter ≠ e.content.counter := by
  simp [replaces]

theorem refreshEntry_spec (station : Nat) (e : Entry) (joining final : Bool) (c : Content) (s : State) :
    (refreshEntry station e joining final c s).view.entries =
        tablePut s.view.entries station
          { state := stateAfter final
            content := if joining = true ∨ c.counter ≠ e.content.counter then c else e.content, lastGood := s.now } ∧
      ViewsRaised station (stateAfter final)
        ((if e.state = stateAfter final then 0 else 1) +
          (if joining = true ∨ c.counter ≠ e.content.counter then 1 else 0)) s
        (refreshEntry station e joining final c s) := by
  have hcond : (if replaces joining c e = true then c else e.content) =
      if joining = true ∨ c.counter ≠ e.content.counter then c else e.content := if_congr (replaces_iff _ _ _) rfl rfl
  have hnum : (if replaces joining c e = true then 1 else 0) =
      if joining = true ∨ c.counter ≠ e.content.counter then 1 else 0 := if_congr (replaces_iff _ _ _) rfl rfl
  have h1 : ViewsRaised station (stateAfter final) (0 + if e.state ≠ stateAfter final then 1 else 0) s _ :=
    (viewsRaised_zero (t := putEntry station
      { state := stateAfter final, content := if replaces joining c e = true then c else e.content
        lastGood := s.now } s)
      station (stateAfter final) rfl).raiseIf (e.state ≠ stateAfter final)
  have h2 := h1.raiseIf (replaces joining c e = true)
  simp only [ite_not, zero_add, hnum] at h2
  unfold refreshEntry
  refine ⟨?_, h2⟩
  dsimp only
  rw [entries_raiseIf, hcond]
  split <;> rfl

theorem takeStatus_of_none {station : Nat} {s : State} (h : entryOf s station = none) (joining final : Bool)
    (c : Content) :
    takeStatus station joining final c s = createEntry station final c s := by
  unfold takeStatus
  rw [h]

theorem takeStatus_of_some {station : Nat} {s : State} {e : Entry} (h : entryOf s station = some e)
    (joining final : Bool) (c : Content) :
    takeStatus station joining final c s = refreshEntry station e joining final c s := by
  unfold takeStatus
  rw [h]

/-- A well-formed STATUS puts its station's entry and raises views of it alone (R67, R73). -/
theorem takeStatus_puts (station : Nat) (joining final : Bool) (c : Content) (s : State) :
    ∃ e n, (takeStatus station joining final c s).view.entries = tablePut s.view.entries station e ∧
      ViewsRaised station (stateAfter final) n s (takeStatus station joining final c s) := by
  cases h : entryOf s station with
  | none =>
    rw [takeStatus_of_none h]
    exact ⟨_, _, createEntry_spec station final c s⟩
  | some e =>
    rw [takeStatus_of_some h]
    exact ⟨_, _, refreshEntry_spec station e joining final c s⟩

/-- Settles O36: a body that is not well formed is a suspect report; a well-formed one makes or refreshes the entry. -/
theorem statusesEnterTheView : Obligations.StatusesEnterTheView := by
  intro s f hf ht hv
  refine ⟨fun hn => ?_, fun c hc => ?_⟩
  · have hexec := exec_statusTakenByView_malformed hf ht hv hn
    obtain ⟨hst, hhand, hcont, hother⟩ := suspectReport_spec f.src (markViewTaken s)
    exact ⟨_, hexec, suspectReport_touches _ _ .link (by decide), hst, hhand, hcont, hother,
      (markViewTaken_touches s).trans (suspectReport_touches _ _)⟩
  · have hexec := exec_statusTakenByView hf ht hv hc
    have htouch := takeStatus_touches f.src (statusJoining f.body) f.final c (markViewTaken s)
    obtain ⟨e', n, hentries, hraised⟩ := takeStatus_puts f.src (statusJoining f.body) f.final c (markViewTaken s)
    have hself : entryOf (takeStatus f.src (statusJoining f.body) f.final c (markViewTaken s)) f.src = some e' := by
      rw [entryOf, hentries, tableGet_put_same]
    unfold ViewsRaised at hraised
    refine ⟨_, hexec, htouch .link (by decide), fun hn => ?_, fun e he => ?_, fun j hj => ?_, isMissing_of_entry hself,
      by rw [hraised]; rfl, by rw [hraised]; rfl, by rw [hraised]; rfl, (markViewTaken_touches s).trans htouch⟩
    · obtain ⟨hput, hviews⟩ := createEntry_spec f.src f.final c (markViewTaken s)
      rw [takeStatus_of_none (s := markViewTaken s) hn]
      exact ⟨by rw [entryOf, hput, tableGet_put_same]; rfl, congrArg Handover.views hviews⟩
    · obtain ⟨hput, hviews⟩ := refreshEntry_spec f.src e (statusJoining f.body) f.final c (markViewTaken s)
      rw [takeStatus_of_some (s := markViewTaken s) he]
      exact ⟨by rw [entryOf, hput, tableGet_put_same]; rfl, congrArg Handover.views hviews⟩
    · rw [entryOf, hentries, tableGet_put_other _ _ hj]
      rfl

end Sys2Proof.Machine


namespace Sys2Proof.Machine

/-! ### The end of a frame (R54, R55, R58) -/

/-- The reception of a frame's body over. -/
def receptionOver (s : State) : State := s.withLink { s.link with header := none }

theorem exec_frameEnd_failed {s : State} {syms : List LineSym} {h : Header} (hr : receives s.start.phase = true)
    (hh : s.link.header = some h) (hn : judgeBody h syms = none) :
    exec (.frameEnd syms) s = .next (bodyFailed h (receptionOver s)) := by
  have harm : exec (.frameEnd syms) s = execFrameEnd syms s := rfl
  simp only [harm, execFrameEnd, hh, hr, if_true, hn]
  rfl

theorem exec_frameEnd_good {s : State} {syms : List LineSym} {h : Header} {f : Frame}
    (hr : receives s.start.phase = true) (hh : s.link.header = some h) (hf : judgeBody h syms = some f) :
    exec (.frameEnd syms) s = .next (goodFrame f (receptionOver s)) := by
  have harm : exec (.frameEnd syms) s = execFrameEnd syms s := rfl
  simp only [harm, execFrameEnd, hh, hr, if_true, hf]
  rfl

/-- The good-frame report restarts the silence timer and ends LINK_SILENT in READY, and does nothing more (R75). -/
theorem goodFrameReport_spec (s : State) :
    (s.start.phase = .ready → (goodFrameReport s).view.silence = some (s.now + 3 * fieldOf s (·.heartbeat)) ∧
      causeIn (goodFrameReport s).faults.holding .linkSilent = false) ∧
    (goodFrameReport s).faults.pending = s.faults.pending ∧
    (goodFrameReport s).view.entries = s.view.entries := by
  unfold goodFrameReport
  split <;> rename_i hp
  · exact ⟨fun _ => ⟨rfl, causeIn_and_not_self _ _⟩, rfl, rfl⟩
  · exact ⟨fun h => absurd h hp, rfl, rfl⟩

theorem goodFrame_of_silent {f : Frame} {s : State} (h : s.start.phase = .silent) : goodFrame f s = s := if_pos h

theorem discards_iff (s : State) (f : Frame) :
    discards s f = true ↔ (f.dst ≠ 0 ∧ f.dst ≠ ownAddress s) ∨ f.type = .accept ∨ f.type = .result := by
  simp [discards, or_assoc]

/-- A frame counted as an overrun. -/
def overrun (s : State) : State := s.withCounters { s.counters with overruns := bump s.counters.overruns }

theorem goodFrame_of_not_silent {f : Frame} {s : State} (h : s.start.phase ≠ .silent) :
    goodFrame f s =
      if discards (goodFrameReport s) f then goodFrameReport s
      else if (goodFrameReport s).link.inbound.length < 6 then
        (goodFrameReport s).withLink
          { (goodFrameReport s).link with inbound := (goodFrameReport s).link.inbound ++ [f] }
      else suspectReport f.src (overrun (goodFrameReport s)) := if_neg h

theorem discards_congr {s t : State} (h : t.copy = s.copy) (f : Frame) : discards t f = discards s f := by
  simp [discards, ownAddress, h]

/-- The view and the fault logic after a good frame are those of its report, apart from a suspect entry. -/
theorem suspectReport_silence (station : Nat) (s : State) :
    (suspectReport station s).view.silence = s.view.silence ∧ (suspectReport station s).faults = s.faults := by
  refine ⟨?_, suspectReport_touches _ _ .faults (by decide)⟩
  unfold suspectReport
  split
  · rfl
  · split <;> rfl

theorem goodFrame_report {f : Frame} {s : State} (h : s.start.phase ≠ .silent) :
    (goodFrame f s).view.silence = (goodFrameReport s).view.silence ∧
      (goodFrame f s).faults = (goodFrameReport s).faults := by
  rw [goodFrame_of_not_silent h]
  split
  · exact ⟨rfl, rfl⟩
  · split
    · exact ⟨rfl, rfl⟩
    · exact suspectReport_silence _ _

theorem goodFrame_spec {f : Frame} {s : State} (h : s.start.phase ≠ .silent) :
    (((f.dst ≠ 0 ∧ f.dst ≠ ownAddress s) ∨ f.type = .accept ∨ f.type = .result) →
      goodFrame f s = goodFrameReport s) ∧
    ((f.dst = 0 ∨ f.dst = ownAddress s) → f.type ≠ .accept → f.type ≠ .result →
      (s.link.inbound.length < 6 →
        goodFrame f s = (goodFrameReport s).withLink { s.link with inbound := s.link.inbound ++ [f] }) ∧
      (6 ≤ s.link.inbound.length → goodFrame f s = suspectReport f.src (overrun (goodFrameReport s)))) := by
  have htouch := goodFrameReport_touches s
  have hlink : (goodFrameReport s).link = s.link := htouch .link (by decide)
  have hdisc : discards (goodFrameReport s) f = discards s f := discards_congr (htouch .copy (by decide)) f
  rw [goodFrame_of_not_silent h, hdisc, hlink]
  refine ⟨fun hd => if_pos ((discards_iff s f).2 hd), fun hto ha hres => ?_⟩
  have hd : ¬ discards s f = true := by
    rw [discards_iff]
    rintro (⟨h0, hown⟩ | h | h)
    · exact hto.elim h0 hown
    · exact ha h
    · exact hres h
  rw [if_neg hd]
  exact ⟨fun hl => if_pos hl, fun hl => if_neg (by omega)⟩

theorem bodyFailed_of_silent {h : Header} {s : State} (hp : s.start.phase = .silent) :
    bodyFailed h s = s.withCounters { s.counters with bodyErrors := bump s.counters.bodyErrors } := if_pos hp

theorem bodyFailed_of_not_silent {h : Header} {s : State} (hp : s.start.phase ≠ .silent) :
    bodyFailed h s =
      suspectReport h.src (s.withCounters { s.counters with bodyErrors := bump s.counters.bodyErrors }) := if_neg hp

/-- Settles O33: a failing body is counted and a suspect report; a good frame is reported, and discarded, queued or
overrun. -/
theorem frameEndsAreJudged : Obligations.FrameEndsAreJudged := by
  intro s syms hr h hh
  have hover : Touches [.link] s (receptionOver s) := touches_withLink _ _
  refine ⟨fun hn => ?_, fun f hf => ⟨fun hp => ?_, fun hp => ?_⟩⟩
  · have hexec := exec_frameEnd_failed hr hh hn
    have htouch := bodyFailed_touches h (receptionOver s)
    by_cases hp : s.start.phase = .silent
    · rw [bodyFailed_of_silent (s := receptionOver s) hp] at hexec
      have hcount := hover.trans (touches_withCounters (receptionOver s)
        { s.counters with bodyErrors := bump s.counters.bodyErrors })
      exact ⟨_, hexec, rfl, rfl, fun _ => hcount, fun h => absurd hp h, fun _ _ => rfl, hcount.mono (by decide)⟩
    · obtain ⟨hst, hhand, -, hother⟩ := suspectReport_spec h.src
        ((receptionOver s).withCounters { s.counters with bodyErrors := bump s.counters.bodyErrors })
      have hsus := suspectReport_touches h.src
        ((receptionOver s).withCounters { s.counters with bodyErrors := bump s.counters.bodyErrors })
      rw [bodyFailed_of_not_silent (s := receptionOver s) hp] at hexec htouch
      refine ⟨_, hexec, hsus .link (by decide), hsus .counters (by decide), fun h => absurd h hp, fun _ => ⟨hst, hhand⟩,
        hother, (hover.trans htouch)⟩
  · have hexec := exec_frameEnd_good hr hh hf
    rw [goodFrame_of_silent (s := receptionOver s) hp] at hexec
    exact ⟨_, hexec, hover, rfl⟩
  · have hexec := exec_frameEnd_good hr hh hf
    obtain ⟨hsil, hfaults⟩ := goodFrame_report (f := f) (s := receptionOver s) hp
    obtain ⟨hready, hpend, hentries⟩ := goodFrameReport_spec (receptionOver s)
    obtain ⟨hdisc, htaken⟩ := goodFrame_spec (f := f) (s := receptionOver s) hp
    have hrep := goodFrameReport_touches (receptionOver s)
    refine ⟨_, hexec, fun hp => ?_, by rw [hfaults, hpend]; rfl, fun hd => ?_,
      fun hto ha hres => ⟨fun hl => ?_, fun hl => ?_⟩,
      (hover.trans (goodFrame_touches _ _)).mono (by decide)⟩
    · rw [hsil, hfaults]
      exact hready hp
    · rw [hdisc hd]
      exact ⟨hrep .link (by decide), hrep .counters (by decide), hentries, hrep .handover (by decide)⟩
    · rw [(htaken hto ha hres).1 hl]
      exact ⟨hrep .counters (by decide), hentries, hrep .handover (by decide), rfl⟩
    · rw [(htaken hto ha hres).2 hl]
      obtain ⟨hst, hhand, -, hother⟩ := suspectReport_spec f.src (overrun (goodFrameReport (receptionOver s)))
      have hsus := suspectReport_touches f.src (overrun (goodFrameReport (receptionOver s)))
      have hent (j : Nat) : entryOf (overrun (goodFrameReport (receptionOver s))) j = entryOf s j :=
        entryOf_congr (t := overrun (goodFrameReport (receptionOver s))) hentries j
      have hcount : (goodFrameReport (receptionOver s)).counters = s.counters := hrep .counters (by decide)
      have hhand' : (goodFrameReport (receptionOver s)).handover = s.handover := hrep .handover (by decide)
      refine ⟨Eq.trans (hsus .link (by decide)) (hrep .link (by decide)), ?_, ?_,
        fun j hj => (hother j hj).trans (hent j), ?_⟩
      · refine Eq.trans (hsus .counters (by decide)) ?_
        rw [← hcount]; rfl
      · rw [hst, entryState, hent]; rfl
      · rw [hhand, ← hhand', suspectChange, entryState, hent]; rfl

end Sys2Proof.Machine


namespace Sys2Proof.Machine

/-! ### Foreign records (R115 to R117) -/

theorem exec_releaseTakenByClaims {s : State} {f : Frame} (hf : inboundHead s = some f) (ht : f.type = .release)
    (hv : s.link.viewTaken = true) :
    exec .releaseTakenByClaims s = .next (takeReleaseClaim f (delivered s)) := by
  have harm : exec .releaseTakenByClaims s = execReleaseTakenByClaims s := rfl
  simp [harm, execReleaseTakenByClaims, hf, ht, hv, finishDelivery_eq_delivered]

theorem delivered_touches (s : State) : Touches [.link] s (delivered s) := touches_withLink s _

theorem takeReleaseClaim_spec (f : Frame) (s : State) :
    ((tableGet s.claims.foreign f.src).map (·.id) = some (byteAt f.body 0) →
      takeReleaseClaim f s = removeForeign f.src s) ∧
    ((tableGet s.claims.foreign f.src).map (·.id) ≠ some (byteAt f.body 0) → takeReleaseClaim f s = s) := by
  unfold takeReleaseClaim
  cases tableGet s.claims.foreign f.src with
  | none => simp
  | some r => exact ⟨fun h => if_pos (by simpa using h), fun h => if_neg (by simpa using h)⟩

theorem exec_holdExpiry {s : State} {st : Nat} {r : ForeignRec} (hr : tableGet s.claims.foreign st = some r) :
    exec (.holdExpiry st) s = .next (removeForeign st (s.reachTime (r.recorded + 10 * r.holdLimit))) := by
  have harm : exec (.holdExpiry st) s = execHoldExpiry st s := rfl
  simp [harm, execHoldExpiry, hr, holdDeadline]

/-- Settles O41. -/
theorem recordsEnd : Obligations.RecordsEnd := by
  refine ⟨fun s f hf ht hv => ?_, fun s st r hr => ?_⟩
  · have hexec := exec_releaseTakenByClaims hf ht hv
    obtain ⟨hsame, hother⟩ := takeReleaseClaim_spec f (delivered s)
    have htouch := takeReleaseClaim_touches f (delivered s)
    refine ⟨_, hexec, (delivered_touches s).trans htouch, htouch .link (by decide), ?_, fun j hj => ?_, fun hid => ?_,
      fun hid => by rw [hother hid]; rfl⟩ <;>
    by_cases h : (tableGet (delivered s).claims.foreign f.src).map (·.id) = some (byteAt f.body 0)
    · rw [hsame h]; rfl
    · rw [hother h]; rfl
    · rw [hsame h]; exact tableGet_del_other _ hj
    · rw [hother h]; rfl
    · rw [hsame h]; exact tableGet_del_same _ _
    · exact absurd hid h
  · exact ⟨_, exec_holdExpiry hr, (reachTime_touches _ _).trans (removeForeign_touches _ _), rfl, rfl,
      tableGet_del_same _ _, fun j hj => tableGet_del_other _ hj⟩

/-! ### The claim part of a STATUS (R113, R115, R116) -/

theorem exec_statusClaimPart {s : State} {f : Frame} (hf : inboundHead s = some f) (ht : f.type = .status)
    (hv : s.link.viewTaken = true) : exec .statusClaimPart s = .next (takeStatusClaim f (delivered s)) := by
  have harm : exec .statusClaimPart s = execStatusClaimPart s := rfl
  simp [harm, execStatusClaimPart, hf, ht, hv, finishDelivery_eq_delivered]

/-- From `s` to `t` the foreign claim list has changed at one station alone, and nothing else of the claims. -/
structure ForeignAt (station : Nat) (s t : State) : Prop where
  claims : t.claims = { s.claims with foreign := t.claims.foreign }
  others : ∀ j, j ≠ station → tableGet t.claims.foreign j = tableGet s.claims.foreign j

theorem ForeignAt.refl (station : Nat) (s : State) : ForeignAt station s s := ⟨rfl, fun _ _ => rfl⟩

theorem removeForeign_at (station : Nat) (s : State) : ForeignAt station s (removeForeign station s) :=
  ⟨rfl, fun _ hj => tableGet_del_other _ hj⟩

theorem recordForeign_at (station : Nat) (c : ClaimPart) (a : Bool) (s : State) :
    ForeignAt station s (recordForeign station c a s) :=
  ⟨rfl, fun _ hj => tableGet_put_other _ _ hj⟩

/-- The record a claim received now leaves (R115). -/
def observed (s : State) (c : ClaimPart) : ForeignRec :=
  { id := c.id, nodes := c.nodes, cls := c.cls, deferCount := c.deferCount, holdLimit := c.holdLimit,
    recorded := s.now, held := c.held, assented := false }

theorem takeClaimPart_at (station : Nat) (part : Option ClaimPart) (s : State) :
    ForeignAt station s (takeClaimPart station part s) := by
  unfold takeClaimPart
  split
  · exact .refl _ s
  · exact recordForeign_at _ _ _ s
  · exact removeForeign_at _ s
  · split
    · exact ⟨rfl, fun _ hj => tableGet_put_other _ _ hj⟩
    · exact recordForeign_at _ _ _ s

/-- The rows of R115 for a station's claim part. -/
theorem takeClaimPart_none (station : Nat) (s : State) :
    tableGet (takeClaimPart station none s).claims.foreign station = none := by
  unfold takeClaimPart
  cases h : tableGet s.claims.foreign station with
  | none => exact h
  | some r => exact tableGet_del_same _ _

theorem takeClaimPart_same {station : Nat} {c : ClaimPart} {s : State}
    (h : (tableGet s.claims.foreign station).map (·.id) = some c.id) :
    tableGet (takeClaimPart station (some c) s).claims.foreign station =
      (tableGet s.claims.foreign station).map fun r => { r with held := c.held } := by
  unfold takeClaimPart
  cases hr : tableGet s.claims.foreign station with
  | none => simp [hr] at h
  | some r =>
    have hid : c.id = r.id := by simpa [hr, eq_comm] using h
    simp only [hid, if_true]
    exact tableGet_put_same _ _ _

theorem takeClaimPart_new {station : Nat} {c : ClaimPart} {s : State}
    (h : (tableGet s.claims.foreign station).map (·.id) ≠ some c.id) :
    tableGet (takeClaimPart station (some c) s).claims.foreign station = some (observed s c) := by
  unfold takeClaimPart
  cases hr : tableGet s.claims.foreign station with
  | none => exact tableGet_put_same _ _ _
  | some r =>
    have hid : ¬ c.id = r.id := fun he => h (by simp [hr, he])
    simp only [hid, if_false]
    exact tableGet_put_same _ _ _

/-- A JOINING station of the answer table is concerned as the view stands (R101, R113). -/
def rejoins (s : State) (own : OwnClaim) (station : Nat) : Bool := (entryOf s station).any (peerConcerned own.nodes)

theorem rejoinAnswer_of_counted {s : State} {station : Nat} {own : OwnClaim} (ho : s.claims.own = some own)
    (ha : tableGet s.claims.answers station ≠ none) :
    rejoinAnswer station s = s.withClaims { s.claims with
      answers := if rejoins s own station then tablePut (tableDel s.claims.answers station) station .awaiting
        else tableDel s.claims.answers station } := by
  obtain ⟨a, ha⟩ := Option.ne_none_iff_exists'.1 ha
  unfold rejoinAnswer rejoins
  rw [ho, ha]
  cases entryOf s station <;> rfl

theorem rejoinAnswer_of_uncounted {s : State} {station : Nat}
    (h : s.claims.own = none ∨ tableGet s.claims.answers station = none) : rejoinAnswer station s = s := by
  unfold rejoinAnswer
  split
  · rename_i ho ha
    rw [ho, ha] at h
    simp at h
  · rfl

/-- The answers that a JOINING STATUS alters: its station's alone. -/
theorem rejoinAnswer_at (station : Nat) (s : State) :
    (rejoinAnswer station s).claims = { s.claims with answers := (rejoinAnswer station s).claims.answers } ∧
      ∀ j, j ≠ station → tableGet (rejoinAnswer station s).claims.answers j = tableGet s.claims.answers j := by
  by_cases h : s.claims.own = none ∨ tableGet s.claims.answers station = none
  · rw [rejoinAnswer_of_uncounted h]
    exact ⟨rfl, fun _ _ => rfl⟩
  · rw [not_or] at h
    obtain ⟨own, ho⟩ := Option.ne_none_iff_exists'.1 h.1
    rw [rejoinAnswer_of_counted ho h.2]
    refine ⟨rfl, fun j hj => ?_⟩
    simp only [State.withClaims_claims]
    split
    · rw [tableGet_put_other _ _ hj, tableGet_del_other _ hj]
    · exact tableGet_del_other _ hj

/-- The claims as a JOINING STATUS leaves them before its claim part is taken (R113, R115). -/
def joined (f : Frame) (s : State) : State := if statusJoining f.body then takeJoining f.src s else s

theorem joined_touches (f : Frame) (s : State) : Touches [.claims] s (joined f s) :=
  (Touches.refl _ s).ifThen ((removeForeign_touches _ s).within (rejoinAnswer_touches _ _))

theorem joined_of_joining {f : Frame} (h : statusJoining f.body = true) (s : State) :
    joined f s = rejoinAnswer f.src (removeForeign f.src s) := if_pos h

theorem joined_of_not_joining {f : Frame} (h : statusJoining f.body = false) (s : State) : joined f s = s :=
  if_neg (by simp [h])

theorem joined_foreign (f : Frame) (s : State) :
    (joined f s).claims.foreign =
      if statusJoining f.body then tableDel s.claims.foreign f.src else s.claims.foreign := by
  cases h : statusJoining f.body with
  | true =>
    rw [joined_of_joining h, (rejoinAnswer_at f.src _).1]
    rfl
  | false => rw [joined_of_not_joining h]; rfl

theorem joined_at (f : Frame) (s : State) :
    (joined f s).claims =
        { s.claims with foreign := (joined f s).claims.foreign, answers := (joined f s).claims.answers } ∧
      ∀ j, j ≠ f.src → tableGet (joined f s).claims.answers j = tableGet s.claims.answers j := by
  cases h : statusJoining f.body with
  | true =>
    rw [joined_of_joining h]
    obtain ⟨hc, hj⟩ := rejoinAnswer_at f.src (removeForeign f.src s)
    exact ⟨by rw [hc]; rfl, hj⟩
  | false => rw [joined_of_not_joining h]; exact ⟨rfl, fun _ _ => rfl⟩

theorem takeStatusClaim_eq (f : Frame) (s : State) :
    takeStatusClaim f s =
      if f.final then removeForeign f.src (joined f s)
      else if entryCurrent (entryOf (joined f s) f.src) then takeClaimPart f.src (parseClaimPart f.body) (joined f s)
      else joined f s := rfl

theorem takeStatusClaim_foreignAt (f : Frame) (s : State) : ForeignAt f.src (joined f s) (takeStatusClaim f s) := by
  rw [takeStatusClaim_eq]
  split
  · exact removeForeign_at _ _
  · split
    · exact takeClaimPart_at _ _ _
    · exact .refl _ _

/-- Settles O40: the answers change with JOINING alone, and the record by the claim part (R115). -/
theorem statusClaimPartsAreRecorded : Obligations.StatusClaimPartsAreRecorded := by
  intro s f hf ht hv
  have hexec := exec_statusClaimPart hf ht hv
  have htouch := takeStatusClaim_touches f (delivered s)
  obtain ⟨hclaims, hothers⟩ := takeStatusClaim_foreignAt f (delivered s)
  obtain ⟨hjc, hja⟩ := joined_at f (delivered s)
  have hans : (takeStatusClaim f (delivered s)).claims.answers = (joined f (delivered s)).claims.answers := by
    rw [hclaims]
  have hent : entryOf (joined f (delivered s)) f.src = entryOf s f.src :=
    entryOf_congr (congrArg View.entries (joined_touches f (delivered s) .view (by decide))) _
  have hnow : (joined f (delivered s)).now = s.now := joined_touches f (delivered s) .now (by decide)
  have hforeign := joined_foreign f (delivered s)
  have hcurrent (hfin : f.final = false) (hc : entryCurrent (entryOf s f.src) = true) :
      takeStatusClaim f (delivered s) = takeClaimPart f.src (parseClaimPart f.body) (joined f (delivered s)) := by
    rw [takeStatusClaim_eq, hfin, hent, hc]
    rfl
  refine ⟨_, hexec, (delivered_touches s).trans htouch, htouch .link (by decide), ?_, fun j hj => ?_, fun j hj => ?_,
    fun hno => ?_, fun hjoin own ho ha => ?_, fun hfin => ?_, fun hfin hc => ?_,
      fun hfin hc => ⟨fun hn => ?_, fun c hp => ?_⟩⟩
  · rw [hclaims, hjc]
    rfl
  · rw [hothers j hj, hforeign]
    split
    · exact tableGet_del_other _ hj
    · rfl
  · rw [hans]
    exact hja j hj
  · rw [hans]
    cases hjoin : statusJoining f.body with
    | false => rw [joined_of_not_joining hjoin]; rfl
    | true =>
      rw [hjoin] at hno
      rw [joined_of_joining hjoin,
        rejoinAnswer_of_uncounted (s := removeForeign f.src (delivered s)) (hno.resolve_left (by decide))]
      rfl
  · rw [hans, joined_of_joining hjoin, rejoinAnswer_of_counted (s := removeForeign f.src (delivered s)) ho ha]
    refine ⟨fun hno => ?_, fun e he hc => ?_⟩
    · have hr : rejoins (removeForeign f.src (delivered s)) own f.src = false :=
        (Option.any_eq_false_iff_get _ _).2 fun h => hno _ (Option.some_get h).symm
      rw [hr]
      exact tableGet_del_same _ _
    · have hr : rejoins (removeForeign f.src (delivered s)) own f.src = true :=
        (congrArg (Option.any (peerConcerned own.nodes)) he).trans hc
      rw [hr]
      exact tableGet_put_same _ _ _
  · rw [takeStatusClaim_eq, if_pos hfin]
    exact tableGet_del_same _ _
  · rw [takeStatusClaim_eq, hfin, hent, hc]
    show tableGet (joined f (delivered s)).claims.foreign f.src = _
    rw [hforeign]
    split
    · exact tableGet_del_same _ _
    · rfl
  · rw [hcurrent hfin hc, hn]
    exact takeClaimPart_none _ _
  · rw [hcurrent hfin hc, hp]
    refine ⟨fun hjoin hid => ?_, fun hnew => ?_⟩
    · rw [joined_of_not_joining hjoin]
      exact takeClaimPart_same (s := delivered s) hid
    · rw [takeClaimPart_new, observed, hnow]
      rw [hforeign]
      cases hjoin : statusJoining f.body with
      | true => rw [if_pos rfl, tableGet_del_same]; simp
      | false => exact hnew.resolve_left (by simp [hjoin])

end Sys2Proof.Machine


namespace Sys2Proof.Machine

/-! ### Attempts (R47, R48) -/

/-- The state in which an attempt of a frame is on the line. -/
def attempting (cls : FrameClass) (f : Frame) (s : State) : State :=
  s.withLink { s.link with
    attempt := some { cls := cls, frame := f, symbols := frameSymbols f, inReady := s.start.phase == .ready } }

theorem exec_attemptStart_idle {s : State} (h : s.link.attempt ≠ none ∨ s.link.current = none ∨ s.link.halted = true ∨
    (s.start.phase ≠ .announce ∧ s.start.phase ≠ .ready)) (idle : Nat) : exec (.attemptStart idle) s = .next s := by
  have harm : exec (.attemptStart idle) s = execAttemptStart idle s := rfl
  rw [harm, execAttemptStart]
  congr 1
  split
  · rename_i ha hc
    refine if_neg fun hcond => ?_
    simp only [Bool.and_eq_true, Bool.not_eq_true', transmits, Bool.or_eq_true, beq_iff_eq] at hcond
    obtain ⟨⟨hp, hhalt⟩, -⟩ := hcond
    rcases h with h | h | h | ⟨h1, h2⟩
    · exact h ha
    · simp [hc] at h
    · simp [hhalt] at h
    · exact hp.elim h1 h2
  · rfl

theorem exec_attemptStart_waiting {s : State} {cur : Current} {idle : Nat} (ha : s.link.attempt = none)
    (hc : s.link.current = some cur) (hw : waited s.link cur idle = false) : exec (.attemptStart idle) s = .next s := by
  have harm : exec (.attemptStart idle) s = execAttemptStart idle s := rfl
  simp [harm, execAttemptStart, ha, hc, hw]

theorem exec_attemptStart {s : State} {cur : Current} {idle : Nat} {f : Frame} (ha : s.link.attempt = none)
    (hh : s.link.halted = false) (ht : transmits s.start.phase = true) (hc : s.link.current = some cur)
    (hw : waited s.link cur idle = true) (hf : currentFrame s cur.cls = some f) :
    exec (.attemptStart idle) s = .next (attempting cur.cls f s) := by
  have harm : exec (.attemptStart idle) s = execAttemptStart idle s := rfl
  simp [harm, execAttemptStart, ha, hc, hw, hh, ht, hf, attempting]

theorem waited_eq_true {l : Link} {c : Current} {idle : Nat} (h : waitOf l c ≤ idle) : waited l c idle = true := by
  simp [waited, h]

theorem waited_eq_false {l : Link} {c : Current} {idle : Nat} (h : idle < waitOf l c) (hl : idle < 152) :
    waited l c idle = false :=
  Bool.or_eq_false_iff.2 ⟨decide_eq_false (Nat.not_le.2 hl), decide_eq_false (Nat.not_le.2 h)⟩

theorem waitOf_urgent {l : Link} {c : Current} {i : UrgentItem} (hc : c.cls = .urgent) (hi : l.urgent.head? = some i) :
    waitOf l c = if i.attempts = 0 then 16 else 16 + c.k * 8 := by
  obtain ⟨rest, hq⟩ := List.head?_eq_some_iff.1 hi
  simp [waitOf, hc, currentAttempts, hq]

theorem waitOf_normal {l : Link} {c : Current} (hc : c.cls = .normal) : waitOf l c = 32 + c.k * 8 := by
  simp [waitOf, hc]

theorem currentFrame_urgent {s : State} {i : UrgentItem} (hi : s.link.urgent.head? = some i) :
    currentFrame s .urgent = some i.frame := by
  simp [currentFrame, hi]

/-- The STATUS that the marker stands for (R45, R60). -/
def statusFrame (s : State) (c : Content) (final : Bool) : Frame :=
  { type := .status, src := ownAddress s, dst := 0, final := final,
    body := statusBody c s.view.joining (ownClaimPart s) }

theorem currentFrame_marker {s : State} {i : NormalItem} {c : Content} (hi : s.link.normal.head? = some i)
    (hm : isMarker i = true) (hc : ownContent s = some c) :
    currentFrame s .normal = some (statusFrame s c (i == markFinal i)) := by
  obtain ⟨rest, hq⟩ := List.head?_eq_some_iff.1 hi
  cases i with
  | marker renew final n => cases final <;> simp [currentFrame, hq, hc, statusFrame, markFinal]
  | claim => simp [isMarker] at hm

theorem currentFrame_claim {s : State} {i : NormalItem} {f : Frame} (hi : s.link.normal.head? = some i)
    (hf : claimFrameOf i = some f) : currentFrame s .normal = some f := by
  obtain ⟨rest, hq⟩ := List.head?_eq_some_iff.1 hi
  cases i with
  | marker renew final n => simp [claimFrameOf] at hf
  | claim id g n r => simpa [currentFrame, hq, claimFrameOf] using hf

/-- Settles O29: an attempt is of the current frame, and begins once its wait is over. -/
theorem attemptsBeginAfterTheWait : Obligations.AttemptsBeginAfterTheWait := by
  refine ⟨fun s idle h => exec_attemptStart_idle h idle, fun s idle ha hh ht cur hc => ⟨fun hu i hi => ?_, fun hn => ?_,
    fun hn hw i hi => ?_⟩⟩
  · rw [← waitOf_urgent hu hi]
    refine ⟨fun hw => ?_, fun hw hl => exec_attemptStart_waiting ha hc (waited_eq_false hw hl)⟩
    have hf : currentFrame s cur.cls = some i.frame := by rw [hu]; exact currentFrame_urgent hi
    have hexec := exec_attemptStart ha hh ht hc (waited_eq_true hw) hf
    rw [hu] at hexec
    exact ⟨_, hexec, touches_withLink _ _, rfl⟩
  · rw [← waitOf_normal (l := s.link) hn]
    exact fun hw hl => exec_attemptStart_waiting ha hc (waited_eq_false hw hl)
  · rw [← waitOf_normal (l := s.link) hn] at hw
    refine ⟨fun hm c hcont => ?_, fun f hf => ?_⟩
    · have hexec := exec_attemptStart ha hh ht hc (waited_eq_true hw)
        (by rw [hn]; exact currentFrame_marker hi hm hcont)
      rw [hn] at hexec
      exact ⟨_, hexec, touches_withLink _ _, _, rfl, rfl, rfl, rfl, rfl, rfl, rfl, rfl, rfl, rfl⟩
    · have hexec := exec_attemptStart ha hh ht hc (waited_eq_true hw) (by rw [hn]; exact currentFrame_claim hi hf)
      rw [hn] at hexec
      exact ⟨_, hexec, touches_withLink _ _, rfl⟩

end Sys2Proof.Machine


namespace Sys2Proof.Machine

/-! ### Frames handed over and own-content events, together -/

/-- From `s` to `t` frames have been handed over and own-content events taken, and what a further event asks for stands. -/
structure Emits (fs : List Frame) (n : Nat) (s t : State) : Prop where
  frames : HandsOver s t fs
  events : OwnEvents s t n
  asking : LineHeld s → SameAsking s t

theorem Emits.trans {fs gs : List Frame} {n m : Nat} {s t u : State} (h : Emits fs n s t) (k : SameAsking s t)
    (g : Emits gs m t u) : Emits (fs ++ gs) (n + m) s u :=
  ⟨h.frames.append k.phase g.frames, h.events.add k g.events, fun hl => k.trans (g.asking (k.held hl))⟩

/-- What the bookkeeping of frames and events looks at. -/
structure SameBooks (s t : State) : Prop where
  view : t.view = s.view
  link : t.link = s.link
  copy : t.copy = s.copy
  phase : t.start.phase = s.start.phase
  dropped : t.counters.txDropped = s.counters.txDropped

theorem Touches.sameBooks {ps : List Part} {s t : State} (h : Touches ps s t)
    (hp : Part.view ∉ ps ∧ Part.link ∉ ps ∧ Part.copy ∉ ps ∧ Part.start ∉ ps ∧ Part.counters ∉ ps) : SameBooks s t := by
  obtain ⟨hv, hl, hc, hs, hk⟩ := hp
  exact ⟨h .view hv, h .link hl, h .copy hc, congrArg StartUp.phase (h .start hs),
    congrArg Counters.txDropped (h .counters hk)⟩

theorem SameBooks.sameAsking {s t : State} (h : SameBooks s t) : SameAsking s t :=
  sameAsking_of_link h.copy h.phase (by rw [h.link]) (by rw [h.link])

theorem SameBooks.emits {s t : State} (h : SameBooks s t) : Emits [] 0 s t :=
  ⟨handsOver_nil (by rw [h.link]) h.dropped, ownEvents_zero h.view (by rw [h.link]), fun _ => h.sameAsking⟩

/-- A quiet change first. -/
theorem Emits.after {fs : List Frame} {n : Nat} {s t u : State} (h : SameBooks s t) (g : Emits fs n t u) :
    Emits fs n s u := by
  simpa using h.emits.trans h.sameAsking g

/-- A quiet change last. -/
theorem Emits.then {fs : List Frame} {n : Nat} {s t u : State} (h : Emits fs n s t) (g : SameBooks t u) :
    Emits fs n s u :=
  ⟨h.frames.then (by rw [g.link]) g.dropped, h.events.then g.view (by rw [g.link]),
    fun hl => (h.asking hl).trans g.sameAsking⟩

theorem handUrgent_emits (f : Frame) (s : State) : Emits [f] 0 s (handUrgent f s) :=
  ⟨handUrgent_handsOver f s, handUrgent_ownEvents f s, fun _ => handUrgent_sameAsking f s⟩

theorem ownChanged_emits (s : State) : Emits [] 1 s (ownChanged s) := by
  refine ⟨handsOver_nil (ownChanged_keeps s).1 ?_, ownChanged_ownEvents s, ownChanged_sameAsking⟩
  rw [show (ownChanged s).counters = s.counters from ownChanged_touches s .counters (by decide)]

theorem removeClaim_emits (s : State) : Emits [] 0 s (removeClaim s) := by
  refine ⟨handsOver_nil (removeClaim_urgent s) ?_, ownEvents_zero (removeClaim_touches s .view (by decide))
    (removeClaim_markers s), fun _ => removeClaim_sameAsking s⟩
  rw [show (removeClaim s).counters = s.counters from removeClaim_touches s .counters (by decide)]

theorem setPending_emits (p : CauseSet) (s : State) :
    Emits [] (if p = s.faults.pending then 0 else 1) s (setPending p s) := by
  refine ⟨handsOver_nil (setPending_urgent p s) ?_, setPending_ownEvents p s, setPending_sameAsking p⟩
  rw [show (setPending p s).counters = s.counters from setPending_touches p s .counters (by decide)]

/-! ### The ends of a claim (R109) -/

theorem ownFrame_congr {s t : State} (h : t.copy = s.copy) (ty : FrameType) (dst : Nat) (body : List Byte) :
    ownFrame t ty dst body = ownFrame s ty dst body := by
  simp [ownFrame, ownAddress, h]

theorem claimToIdle_emits (id : Byte) (cause : EndCause) (o : Option Objection) (s : State) :
    Emits [] 1 s (claimToIdle id cause o s) :=
  (ownChanged_emits _).after (touches_withClaims s _ |>.sameBooks (by decide))

theorem claimToIdle_counters (id : Byte) (cause : EndCause) (o : Option Objection) (s : State) :
    (claimToIdle id cause o s).counters = s.counters := claimToIdle_touches id cause o s .counters (by decide)

theorem claimToIdle_claimsQueued (id : Byte) (cause : EndCause) (o : Option Objection) (s : State) :
    claimsQueued (claimToIdle id cause o s).link = claimsQueued s.link := ownChanged_claimsQueued _

/-- A withdrawal's RELEASE is the one that the state before it gives (R108). -/
theorem handRelease_removeClaim (c : OwnClaim) (s : State) :
    handRelease c.id none (removeClaim s) = handUrgent (bareRelease s c) (removeClaim s) := by
  have hv : (removeClaim s).view = s.view := removeClaim_touches s .view (by decide)
  have hc : (removeClaim s).copy = s.copy := removeClaim_touches s .copy (by decide)
  unfold handRelease bareRelease
  rw [hv, ownFrame_congr hc]

theorem withdrawClaim_of_own {s : State} {c : OwnClaim} (h : s.claims.own = some c) (cause : EndCause)
    (o : Option Objection) :
    withdrawClaim cause o s =
      claimToIdle c.id cause o (countWithdrawn (handUrgent (bareRelease s c) (removeClaim s))) := by
  rw [withdrawClaim, h, ← handRelease_removeClaim]

theorem countWithdrawn_sameBooks (s : State) : SameBooks s (countWithdrawn s) := ⟨rfl, rfl, rfl, rfl, rfl⟩

theorem withdrawClaim_emits {s : State} {c : OwnClaim} (h : s.claims.own = some c) (cause : EndCause)
    (o : Option Objection) : Emits [bareRelease s c] 1 s (withdrawClaim cause o s) := by
  rw [withdrawClaim_of_own h]
  have hfirst : Emits [bareRelease s c] 0 s (handUrgent (bareRelease s c) (removeClaim s)) := by
    simpa using (removeClaim_emits s).trans (removeClaim_sameAsking s) (handUrgent_emits _ _)
  have hask : SameAsking s (countWithdrawn (handUrgent (bareRelease s c) (removeClaim s))) :=
    ((removeClaim_sameAsking s).trans (handUrgent_sameAsking _ _)).trans (countWithdrawn_sameBooks _).sameAsking
  simpa using (hfirst.then (countWithdrawn_sameBooks _)).trans hask (claimToIdle_emits c.id cause o _)

theorem withdrawClaim_counters {s : State} {c : OwnClaim} (h : s.claims.own = some c) (cause : EndCause)
    (o : Option Objection) :
    (withdrawClaim cause o s).counters = { s.counters with
      claimsWithdrawn := bump s.counters.claimsWithdrawn
      txDropped := (withdrawClaim cause o s).counters.txDropped } := by
  obtain ⟨-, hk, -, -⟩ := handUrgent_handedOver (bareRelease s c) (removeClaim s)
  rw [withdrawClaim_of_own h, claimToIdle_counters]
  simp only [countWithdrawn, State.withCounters_counters]
  rw [hk, show (removeClaim s).counters = s.counters from removeClaim_touches s .counters (by decide)]

theorem withdrawClaim_claimsQueued {s : State} {c : OwnClaim} (h : s.claims.own = some c) (cause : EndCause)
    (o : Option Objection) :
    claimsQueued (withdrawClaim cause o s).link =
      if claimOnLine s.link then (claimsQueued s.link).map markRemoved else [] := by
  rw [withdrawClaim_of_own h, claimToIdle_claimsQueued]
  exact (handUrgent_claimsQueued _ _).trans (removeClaim_claimsQueued s)

/-- A withdrawal, as the statements put it (R109). -/
theorem withdrawClaim_withdrawn {s : State} {c : OwnClaim} (h : s.claims.own = some c) (cause : EndCause)
    (o : Option Objection) : Withdrawn c cause o s (withdrawClaim cause o s) :=
  ⟨⟨withdrawClaim_claims h cause o, withdrawClaim_counters h cause o, (withdrawClaim_emits h cause o).frames,
    (withdrawClaim_emits h cause o).events, (withdrawClaim_touches cause o s).mono (by decide)⟩,
    withdrawClaim_claimsQueued h cause o⟩

/-- The RELEASE of a HELD claim that ends (R108, R109): none for an empty claim set. -/
def heldRelease (driven : Bool) (s : State) (c : OwnClaim) : List Frame :=
  if c.nodes = 0 then []
  else [ownFrame s .release 0
    (releaseBody c.id s.view.counter (if driven then some (c.object, positionOf s c.object) else none))]

/-- The RELEASE handed over unless the claim set is empty. -/
def releasedIf (driven : Bool) (s : State) (c : OwnClaim) : State :=
  if c.nodes = 0 then s
  else handRelease c.id (if driven then some (c.object, positionOf s c.object) else none) s

theorem releasedIf_emits (driven : Bool) (s : State) (c : OwnClaim) :
    Emits (heldRelease driven s c) 0 s (releasedIf driven s c) ∧ SameAsking s (releasedIf driven s c) := by
  unfold heldRelease releasedIf
  split
  · have hb : SameBooks s s := ⟨rfl, rfl, rfl, rfl, rfl⟩
    exact ⟨hb.emits, hb.sameAsking⟩
  · exact ⟨handUrgent_emits _ s, handUrgent_sameAsking _ s⟩

theorem releasedIf_counters (driven : Bool) (s : State) (c : OwnClaim) :
    (releasedIf driven s c).counters =
      { s.counters with txDropped := (releasedIf driven s c).counters.txDropped } := by
  unfold releasedIf
  split
  · rfl
  · exact (handUrgent_handedOver _ s).2.1

theorem releasedIf_claimsQueued (driven : Bool) (s : State) (c : OwnClaim) :
    claimsQueued (releasedIf driven s c).link = claimsQueued s.link := by
  unfold releasedIf
  split
  · rfl
  · exact handUrgent_claimsQueued _ s

theorem endHeldClaim_of_own {s : State} {c : OwnClaim} (h : s.claims.own = some c) (driven : Bool) :
    endHeldClaim driven s =
      claimToIdle c.id (if driven then .travelEnded else .notDriven) none (releasedIf driven s c) := by
  rw [endHeldClaim, h]
  rfl

theorem endHeldClaim_emits {s : State} {c : OwnClaim} (h : s.claims.own = some c) (driven : Bool) :
    Emits (heldRelease driven s c) 1 s (endHeldClaim driven s) := by
  obtain ⟨he, ha⟩ := releasedIf_emits driven s c
  rw [endHeldClaim_of_own h]
  simpa using he.trans ha (claimToIdle_emits c.id _ none _)

theorem endHeldClaim_counters {s : State} {c : OwnClaim} (h : s.claims.own = some c) (driven : Bool) :
    (endHeldClaim driven s).counters =
      { s.counters with txDropped := (endHeldClaim driven s).counters.txDropped } := by
  rw [endHeldClaim_of_own h, claimToIdle_counters]
  exact releasedIf_counters driven s c

theorem endHeldClaim_claimsQueued {s : State} {c : OwnClaim} (h : s.claims.own = some c) (driven : Bool) :
    claimsQueued (endHeldClaim driven s).link = claimsQueued s.link := by
  rw [endHeldClaim_of_own h, claimToIdle_claimsQueued, releasedIf_claimsQueued]

/-- A HELD claim released without travel, as the statements put it (R109). -/
theorem endHeldClaim_releasedUndriven {s : State} {c : OwnClaim} (h : s.claims.own = some c) :
    ReleasedUndriven c s (endHeldClaim false s) :=
  ⟨⟨endHeldClaim_claims h false, endHeldClaim_counters h false, (endHeldClaim_emits h false).frames,
    (endHeldClaim_emits h false).events, (endHeldClaim_touches false s).mono (by decide)⟩,
    endHeldClaim_claimsQueued h false⟩

/-! ### The end of an operation (R134) -/

theorem answerEnd_remote {op : Operation} (h : op.source = .remote) (o : OpOutcome) (r : Reason) (s : State) :
    answerEnd op o r s =
      handUrgent (ownFrame s .result op.requester
        (resultBody op.tag op.object op.dir o r (positionOf s op.object))) s := by
  rw [answerEnd, h]

theorem answerEnd_local {op : Operation} (h : op.source = .localPanel) (o : OpOutcome) (r : Reason) (s : State) :
    answerEnd op o r s = setLastLocal { outcome := o, reason := r } s := by
  rw [answerEnd, h]

theorem setLastLocal_emits (r : LocalResult) (s : State) :
    Emits [] (if some r = s.req.lastLocal then 0 else 1) s (setLastLocal r s) := by
  unfold setLastLocal
  by_cases h : s.req.lastLocal = some r
  · rw [if_pos h, if_pos h.symm]
    exact (SameBooks.emits ⟨rfl, rfl, rfl, rfl, rfl⟩)
  · rw [if_neg h, if_neg (Ne.symm h)]
    exact Emits.after (t := s.withReq { s.req with lastLocal := some r }) ⟨rfl, rfl, rfl, rfl, rfl⟩ (ownChanged_emits _)

theorem setLastLocal_req (r : LocalResult) (s : State) :
    (setLastLocal r s).req = { s.req with lastLocal := some r } := by
  unfold setLastLocal
  split
  · rename_i h
    rw [← h]
  · exact ownChanged_touches _ .req (by decide)

theorem setLastLocal_claimsQueued (r : LocalResult) (s : State) :
    claimsQueued (setLastLocal r s).link = claimsQueued s.link := by
  unfold setLastLocal
  split
  · rfl
  · exact ownChanged_claimsQueued _

theorem answerEnd_emits (op : Operation) (o : OpOutcome) (r : Reason) (s : State) :
    Emits (resultsFor op o r s) (localEvents op o r s) s (answerEnd op o r s) := by
  cases h : op.source with
  | remote =>
    have hn : localEvents op o r s = 0 := by simp [localEvents, localAfter, h]
    have hf : resultsFor op o r s =
        [ownFrame s .result op.requester (resultBody op.tag op.object op.dir o r (positionOf s op.object))] := by
      simp [resultsFor, h]
    rw [hn, hf, answerEnd_remote h]
    exact handUrgent_emits _ s
  | localPanel =>
    have hn : localEvents op o r s = if some (⟨o, r⟩ : LocalResult) = s.req.lastLocal then 0 else 1 := by
      simp [localEvents, localAfter, h]
    have hf : resultsFor op o r s = [] := by simp [resultsFor, h]
    rw [hn, hf, answerEnd_local h]
    exact setLastLocal_emits _ s

theorem answerEnd_req (op : Operation) (o : OpOutcome) (r : Reason) (s : State) :
    (answerEnd op o r s).req = { s.req with lastLocal := localAfter op o r s } := by
  cases h : op.source with
  | remote =>
    rw [answerEnd_remote h, show (handUrgent _ s).req = s.req from handUrgent_touches _ s .req (by decide)]
    simp [localAfter, h]
  | localPanel =>
    rw [answerEnd_local h, setLastLocal_req]
    simp [localAfter, h]

theorem answerEnd_counters (op : Operation) (o : OpOutcome) (r : Reason) (s : State) :
    (answerEnd op o r s).counters = { s.counters with txDropped := (answerEnd op o r s).counters.txDropped } := by
  cases h : op.source with
  | remote =>
    rw [answerEnd_remote h]
    exact (handUrgent_handedOver _ s).2.1
  | localPanel =>
    rw [answerEnd_local h,
      show (setLastLocal _ s).counters = s.counters from setLastLocal_touches _ s .counters (by decide)]

theorem answerEnd_claimsQueued (op : Operation) (o : OpOutcome) (r : Reason) (s : State) :
    claimsQueued (answerEnd op o r s).link = claimsQueued s.link := by
  cases h : op.source with
  | remote => rw [answerEnd_remote h]; exact handUrgent_claimsQueued _ s
  | localPanel => rw [answerEnd_local h]; exact setLastLocal_claimsQueued _ s

theorem countEnd_eq (o : OpOutcome) (c : Counters) :
    countEnd o c = { c with
      opsDone := if o = .done then bump c.opsDone else c.opsDone
      opsFailed := if o = .failed then bump c.opsFailed else c.opsFailed } := by
  cases o <;> rfl

/-- The end of an operation after the end of its claim, as the statements put it (R134). -/
theorem answeredEnd_operationEnded (op : Operation) (o : OpOutcome) (r : Reason) (s : State) :
    OperationEnded op o r s (answeredEnd op o r s) := by
  have hreq := answerEnd_req op o r s
  have hcount := answerEnd_counters op o r s
  have hend : SameBooks (answerEnd op o r s) (answeredEnd op o r s) :=
    ⟨rfl, rfl, rfl, rfl, by simp [answeredEnd, leaveQueue, countEnd_eq]⟩
  have hemits := (answerEnd_emits op o r s).then hend
  refine ⟨?_, ?_, hemits.frames, hemits.events,
    (congrArg claimsQueued hend.link).trans (answerEnd_claimsQueued op o r s),
    (answeredEnd_touches op o r s).mono (by decide)⟩
  · simp only [answeredEnd, leaveQueue, State.withReq_req, State.withCounters_req, hreq]
  · simp only [answeredEnd, leaveQueue, State.withReq_counters, State.withCounters_counters, countEnd_eq]
    rw [hcount]

theorem answeredEnd_emits (op : Operation) (o : OpOutcome) (r : Reason) (s : State) :
    Emits (resultsFor op o r s) (localEvents op o r s) s (answeredEnd op o r s) :=
  (answerEnd_emits op o r s).then ⟨rfl, rfl, rfl, rfl, by simp [answeredEnd, leaveQueue, countEnd_eq]⟩

/-- An operation that is not driven, or that has no claim left, ends without the end of a claim. -/
theorem endOperation_of_unclaimed {op : Operation} {s : State} (h : isDriven op = true → s.claims.own = none)
    (o : OpOutcome) (r : Reason) : endOperation op o r s = answeredEnd op o r s := by
  rw [endOperation_eq]
  split
  · rename_i hd
    rw [endHeldClaim_of_none (h hd)]
  · rfl

theorem endOperation_operationEnded {op : Operation} {s : State} (h : isDriven op = true → s.claims.own = none)
    (o : OpOutcome) (r : Reason) : OperationEnded op o r s (endOperation op o r s) := by
  rw [endOperation_of_unclaimed h]
  exact answeredEnd_operationEnded op o r s

/-! ### The deferral (R131) -/

theorem deferHead_within {s : State} {op : Operation} (hop : headOp s = some op)
    (hl : op.deferCount + 1 ≤ fieldOf s (·.stallLimit)) (r : Reason) :
    deferHead r s = (s.withReq { s.req with
      queue :=
        { op with state := .deferred, deferCount := op.deferCount + 1, lastDeferral := some r } :: s.req.queue.tail
      deferTimer := some (s.now + fieldOf s (·.deferInterval)) }, false) := by
  unfold deferHead
  rw [hop]
  dsimp only
  rw [if_pos hl]
  rfl

theorem deferHead_beyond {s : State} {op : Operation} (hop : headOp s = some op)
    (hl : fieldOf s (·.stallLimit) < op.deferCount + 1) (r : Reason) :
    deferHead r s = (endOperation op .failed r s, true) := by
  unfold deferHead
  rw [hop]
  dsimp only
  rw [if_neg (by omega)]

/-- A deferral of a waiting head, as the statements put it (R131). -/
theorem deferHead_deferral {s : State} {op : Operation} (hop : headOp s = some op)
    (hd : isDriven op = true → s.claims.own = none) (r : Reason) : Deferral op r s (followUp (deferHead r s)) := by
  refine ⟨fun hl => ?_, fun hl => ⟨endOperation op .failed r s, endOperation_operationEnded hd _ _, ?_⟩⟩
  · rw [deferHead_within hop hl]
    rfl
  · rw [deferHead_beyond hop hl]
    rfl

end Sys2Proof.Machine


namespace Sys2Proof.Machine

/-! ### What an evaluation reads (R80) -/

/-- The parts of the state that an evaluation reads are the same. -/
structure SameSight (s t : State) : Prop where
  copy : t.copy = s.copy
  entries : t.view.entries = s.view.entries
  objects : t.objects = s.objects
  sensors : t.sensors = s.sensors
  singles : t.singles = s.singles

theorem SameSight.refl (s : State) : SameSight s s := ⟨rfl, rfl, rfl, rfl, rfl⟩

theorem SameSight.trans {s t u : State} (h : SameSight s t) (g : SameSight t u) : SameSight s u :=
  ⟨g.copy.trans h.copy, g.entries.trans h.entries, g.objects.trans h.objects, g.sensors.trans h.sensors,
    g.singles.trans h.singles⟩

theorem Touches.sameSight {ps : List Part} {s t : State} (h : Touches ps s t)
    (hp : Part.copy ∉ ps ∧ Part.view ∉ ps ∧ Part.objects ∉ ps ∧ Part.sensors ∉ ps ∧ Part.singles ∉ ps) :
    SameSight s t := by
  obtain ⟨hc, hv, ho, hs, hi⟩ := hp
  exact ⟨h .copy hc, congrArg View.entries (h .view hv), h .objects ho, h .sensors hs, h .singles hi⟩

/-- Own-content events alter of the view the counter alone. -/
theorem OwnEvents.entries {s t : State} {n : Nat} (h : OwnEvents s t n) : t.view.entries = s.view.entries := by rw [h.1]

section Sight

variable {s t : State} (h : SameSight s t)
include h

theorem SameSight.ownAddress : ownAddress t = ownAddress s := by simp only [Machine.ownAddress, h.copy]

theorem SameSight.objDesc (k : Nat) : objDesc t k = objDesc s k := by simp only [Machine.objDesc, h.copy]

theorem SameSight.positionOf (k : Nat) : positionOf t k = positionOf s k := by
  simp only [Machine.positionOf, objIn_congr h.objects]

theorem SameSight.ownObjectsFrom (k : Nat) (ds : List ObjDesc) : ownObjectsFrom t k ds = ownObjectsFrom s k ds := by
  induction ds generalizing k with
  | nil => rfl
  | cons d ds ih => simp only [Machine.ownObjectsFrom, ih, h.positionOf]

theorem SameSight.ownSensorsFrom (k : Nat) (ds : List SensorDesc) : ownSensorsFrom t k ds = ownSensorsFrom s k ds := by
  induction ds generalizing k with
  | nil => rfl
  | cons d ds ih => simp only [Machine.ownSensorsFrom, ih, sensorIn, h.sensors]

theorem SameSight.countedObjects (k : Nat) : countedObjects t k = countedObjects s k := by
  simp only [Machine.countedObjects, otherOwnObjects, h.copy, h.entries, h.ownObjectsFrom, h.ownAddress]

theorem SameSight.countedSensors : countedSensors t = countedSensors s := by
  simp only [Machine.countedSensors, h.copy, h.entries, h.ownSensorsFrom, h.ownAddress]

theorem SameSight.edgesFor (k : Nat) : edgesFor t k = edgesFor s k := by simp only [Machine.edgesFor, h.countedObjects]

theorem SameSight.sideFacts (k : Nat) (a : Point) (b : Option Point) : sideFacts t k a b = sideFacts s k a b := by
  simp only [Machine.sideFacts, isLive, isEarthed, h.edgesFor, h.countedObjects, h.countedSensors]

theorem SameSight.someMissing : someMissing t = someMissing s := by
  have hmiss : isMissing t = isMissing s := by
    funext j
    simp only [isMissing, h.copy, entryOf, h.entries]
  rw [Machine.someMissing, hmiss]
  rfl

theorem SameSight.bypassHolds : bypassHolds t = bypassHolds s := by
  simp only [Machine.bypassHolds, bypassKeyOf, selectorOf, h.singles]

theorem SameSight.testOf (k : Nat) (kind : Kind) (dir : Direction) (a : Point) (b : Option Point) :
    testOf t k kind dir a b = testOf s k kind dir a b := by
  simp only [Machine.testOf, h.someMissing, h.edgesFor, h.sideFacts, syncAsserted, h.singles]

/-- An evaluation is the same where what it reads is (R80). -/
theorem SameSight.evaluate (k : Nat) (dir : Direction) (source : Source) :
    evaluate t k dir source = evaluate s k dir source := by
  unfold Machine.evaluate
  rw [h.objDesc]
  cases Machine.objDesc s k with
  | none => rfl
  | some d =>
    dsimp only
    rw [h.ownAddress]
    cases pointOf (Machine.ownAddress s) d.term1 with
    | none => rfl
    | some a =>
      dsimp only
      rw [h.bypassHolds, h.edgesFor, h.testOf]

end Sight

end Sys2Proof.Machine


namespace Sys2Proof.Machine

/-! ### The checks of a request (R124, R126) -/

theorem positionDisposition_eq_none_iff (p : Position) (dir : Direction) :
    positionDisposition p dir = none ↔ p = startPosition dir := by
  cases p <;> cases dir <;> simp [positionDisposition, startPosition]

theorem positionDisposition_eq_some_iff (p : Position) (dir : Direction) (d : Disposition) :
    positionDisposition p dir = some d ↔
      (d = .faulty ∧ p = .faulty) ∨ (d = .moving ∧ (p = .moving ∨ p = .unknown)) ∨
        (d = .already ∧ p = targetPosition dir) := by
  cases p <;> cases dir <;> simp [positionDisposition, targetPosition, eq_comm]

/-- A position that is not the start position refuses no request twice: the three tests exclude each other. -/
theorem startPosition_ne (dir : Direction) :
    startPosition dir ≠ .faulty ∧ startPosition dir ≠ .moving ∧ startPosition dir ≠ .unknown ∧
      startPosition dir ≠ targetPosition dir := by
  cases dir <;> simp [startPosition, targetPosition]

theorem requestChecks_of_noObject {s : State} {k : Nat} (h : objectCount s < k) (requester : Nat) (tag : Byte)
    (dir : Direction) : requestChecks s requester tag k dir = some .noObject := if_pos h

theorem requestChecks_of_position {s : State} {k : Nat} {dir : Direction} (h : k ≤ objectCount s)
    (hp : positionOf s k ≠ startPosition dir) (requester : Nat) (tag : Byte) :
    requestChecks s requester tag k dir = positionDisposition (positionOf s k) dir := by
  obtain ⟨d, hd⟩ := Option.ne_none_iff_exists'.1 (mt (positionDisposition_eq_none_iff _ _).1 hp)
  rw [requestChecks, if_neg (Nat.not_lt.2 h), hd]

theorem requestChecks_of_start {s : State} {k : Nat} {dir : Direction} (h : k ≤ objectCount s)
    (hp : positionOf s k = startPosition dir) (requester : Nat) (tag : Byte) :
    requestChecks s requester tag k dir =
      if s.req.queue.any (isNamed requester tag) then some .duplicateTag
      else if fieldOf s (·.depth) ≤ s.req.queue.length then some .queueFull else none := by
  rw [requestChecks, if_neg (Nat.not_lt.2 h), (positionDisposition_eq_none_iff _ _).2 hp]

/-- Checks 2 to 7 of R124, as the statements put them. -/
theorem localRefused_iff (s : State) (requester : Nat) (tag : Byte) (k : Nat) (dir : Direction) (d : Disposition) :
    LocalRefused s requester tag k dir d ↔ requestChecks s requester tag k dir = some d := by
  obtain ⟨hf, hm, hu, ht⟩ := startPosition_ne dir
  rcases Nat.lt_or_ge (objectCount s) k with hk | hk
  · have hno : ¬ k ≤ objectCount s := by omega
    rw [requestChecks_of_noObject hk]
    cases d <;> simp [LocalRefused, hk, hno]
  · have hno : ¬ objectCount s < k := by omega
    by_cases hp : positionOf s k = startPosition dir
    · rw [requestChecks_of_start hk hp]
      cases hd : s.req.queue.any (isNamed requester tag) <;>
        by_cases hfull : fieldOf s (·.depth) ≤ s.req.queue.length <;>
        cases d <;> simp [LocalRefused, hk, hno, hp, hd, hfull, hf, hm, hu, ht]
    · rw [requestChecks_of_position hk hp, positionDisposition_eq_some_iff]
      cases d <;> simp [LocalRefused, hk, hno, hp]

/-- Checks 1 to 7 of R124, as the statements put them. -/
theorem requestRefused_iff (s : State) (requester : Nat) (tag : Byte) (k : Nat) (dir : Direction) (d : Disposition) :
    RequestRefused s requester tag k dir d ↔ requestDisposition s requester tag k dir = some d := by
  unfold RequestRefused requestDisposition
  by_cases hsel : selectorOf s = .remoteMode
  · rw [if_neg (not_not.2 hsel), ← localRefused_iff]
    by_cases hd : d = .selector
    · subst hd
      simp [hsel, LocalRefused]
    · simp [hd, hsel]
  · rw [if_pos hsel]
    by_cases hd : d = .selector
    · simp [hd, hsel]
    · simp [hd, hsel, Ne.symm hd]

/-! ### Requests taken (R123, R124, R126) -/

theorem screenRequest_of_screened {s : State} {f : Frame} (hs : inService s = true) (hd : f.dst ≠ 0)
    (h1 : 1 ≤ natAt f.body 1) (h8 : natAt f.body 1 ≤ 8) (hc : natAt f.body 3 ≤ 1) {dir : Direction}
    (hdir : directionOfCode (natAt f.body 2) = some dir) :
    screenRequest s f = some (byteAt f.body 0, natAt f.body 1, dir, natAt f.body 3) := by
  simp [screenRequest, hs, hd, h1, h8, hc, hdir]

theorem takeRequest_refused {s : State} {f : Frame} {tag : Byte} {k cls : Nat} {dir : Direction} {d : Disposition}
    (hscreen : screenRequest s f = some (tag, k, dir, cls)) (hd : requestDisposition s f.src tag k dir = some d) :
    takeRequest f s = handAccept f.src tag d s := by
  rw [takeRequest, hscreen]
  dsimp only
  rw [hd]

theorem takeRequest_taken {s : State} {f : Frame} {tag : Byte} {k cls : Nat} {dir : Direction}
    (hscreen : screenRequest s f = some (tag, k, dir, cls)) (hd : requestDisposition s f.src tag k dir = none) :
    takeRequest f s = joinQueue (newOperation f.src tag k dir cls .remote) (handAccept f.src tag .queued s) := by
  rw [takeRequest, hscreen]
  dsimp only
  rw [hd]

theorem handAccept_handedOver (station : Nat) (tag : Byte) (d : Disposition) (s : State) :
    HandedOver s (handAccept station tag d s) [ownFrame s .accept station [tag, dispositionCode d]] :=
  handUrgent_handedOver _ s

theorem joinQueue_eq (op : Operation) (s : State) :
    joinQueue op s =
      if s.req.queue = [] then nextHead (s.withReq { s.req with queue := s.req.queue ++ [op] })
      else s.withReq { s.req with queue := s.req.queue ++ [op] } := by
  simp only [joinQueue, List.isEmpty_iff]

/-- Settles O22: the dispositions are those of the checks in their order. -/
theorem requestsAreCheckedInOrder : Obligations.RequestsAreCheckedInOrder := by
  intro s f hf ht hp hdep hdst h1 h8 hcls dir hdir
  have hexec := execRequest_of_inboundHead hf ht
  have hserv : inService (delivered s) = true := (inService_iff _).2 ⟨hp, hdep⟩
  have hscreen := screenRequest_of_screened hserv hdst h1 h8 hcls hdir
  refine ⟨fun disp hr => ?_, fun hr => ?_⟩
  · have hd : requestDisposition (delivered s) f.src (byteAt f.body 0) (natAt f.body 1) dir = some disp :=
      (requestRefused_iff s _ _ _ _ _).1 hr
    rw [takeRequest_refused hscreen hd] at hexec
    exact ⟨_, hexec, handAccept_handedOver _ _ _ _⟩
  · have hd : requestDisposition (delivered s) f.src (byteAt f.body 0) (natAt f.body 1) dir = none :=
      Option.eq_none_iff_forall_ne_some.2 fun disp hd => hr disp ((requestRefused_iff s _ _ _ _ _).2 hd)
    have hreq : (handAccept f.src (byteAt f.body 0) .queued (delivered s)).req = s.req :=
      handAccept_touches _ _ _ _ .req (by decide)
    rw [takeRequest_taken hscreen hd, joinQueue_eq, hreq] at hexec
    exact ⟨_, handAccept_handedOver _ _ _ _, _, rfl, hexec⟩

theorem localTag_toNat {k : Nat} (hk : slotOk k = true) (dir : Direction) :
    (localTag k dir).toNat = 2 * (k - 1) + (if dir = .toOpen then 0 else 1) := by
  simp only [slotOk, Bool.and_eq_true, decide_eq_true_eq] at hk
  cases dir <;> simp [localTag, byteOf] <;> omega

theorem exec_localRequest {s : State} {p : Nat × Direction} (hp : s.handover.locals.head? = some p) :
    exec .localRequest s =
      .next (takeLocal p.1 p.2 (s.withHandover { s.handover with locals := s.handover.locals.tail })) := by
  obtain ⟨rest, hq⟩ := List.head?_eq_some_iff.1 hp
  have harm : exec .localRequest s = execLocalRequest s := rfl
  simp [harm, execLocalRequest, hq]

/-- Settles O23: a local request is refused by checks 2 to 7, or joins the queue. -/
theorem localRequestsAreTaken : Obligations.LocalRequestsAreTaken := by
  refine ⟨fun k dir hk => localTag_toNat hk dir, fun s hserv p hp => ?_⟩
  have hexec := exec_localRequest hp
  set u := s.withHandover { s.handover with locals := s.handover.locals.tail } with hu
  have hquiet : Touches [.handover] s u := touches_withHandover _ _
  have hserv' : inService u = true := hserv
  refine ⟨fun disp hr => ?_, fun hr => ?_⟩
  · have hd : requestChecks u 0 (localTag p.1 p.2) p.1 p.2 = some disp := (localRefused_iff s _ _ _ _ _).1 hr
    have htake : takeLocal p.1 p.2 u = setLastLocal { outcome := .refused, reason := reasonOfDisposition disp } u := by
      rw [takeLocal, if_pos hserv', hd]
    rw [htake] at hexec
    have hemit := (setLastLocal_emits { outcome := .refused, reason := reasonOfDisposition disp } u).after
      (hquiet.sameBooks (by decide))
    have htouch := setLastLocal_touches { outcome := .refused, reason := reasonOfDisposition disp } u
    refine ⟨_, hexec, setLastLocal_req _ _, htouch .handover (by decide), ?_, ?_, setLastLocal_claimsQueued _ _,
      hquiet.trans htouch⟩
    · unfold setLastLocal
      split
      · rfl
      · exact (ownChanged_keeps _).1
    · rw [setLastLocal_req]
      exact hemit.events
  · have hd : requestChecks u 0 (localTag p.1 p.2) p.1 p.2 = none :=
      Option.eq_none_iff_forall_ne_some.2 fun disp hd => hr disp ((localRefused_iff s _ _ _ _ _).2 hd)
    have htake : takeLocal p.1 p.2 u = joinQueue (newOperation 0 (localTag p.1 p.2) p.1 p.2 0 .localPanel) u := by
      rw [takeLocal, if_pos hserv', hd]
    rw [htake, joinQueue_eq] at hexec
    exact ⟨_, rfl, hexec⟩

/-! ### CHECK (R95) -/

theorem exec_check {s : State} {f : Frame} (hf : inboundHead s = some f) (ht : f.type = .check) :
    exec .check s = .next (takeCheck f (delivered s)) := by
  have harm : exec .check s = execCheck s := rfl
  simp [harm, execCheck, hf, ht, finishDelivery_eq_delivered]

theorem takeCheck_discarded {s : State} {f : Frame}
    (h : s.start.phase ≠ .ready ∨ s.start.departure ≠ none ∨ f.dst = 0 ∨ natAt f.body 1 < 1 ∨ 8 < natAt f.body 1 ∨
      (natAt f.body 2 ≠ 1 ∧ natAt f.body 2 ≠ 2)) : takeCheck f s = s := by
  unfold takeCheck
  split
  · rfl
  · rename_i dir hdir
    refine if_neg ?_
    rw [inService_iff]
    rintro ⟨⟨hp, hd⟩, hdst, h1, h8⟩
    have hcode := mt (directionOfCode_eq_none_iff (natAt f.body 2)).2 (by simp [hdir])
    rcases h with h | h | h | h | h | h
    · exact h hp
    · exact h hd
    · exact hdst h
    · omega
    · omega
    · exact hcode h

theorem takeCheck_answered {s : State} {f : Frame} {dir : Direction} (hp : s.start.phase = .ready)
    (hd : s.start.departure = none) (hdst : f.dst ≠ 0) (h1 : 1 ≤ natAt f.body 1) (h8 : natAt f.body 1 ≤ 8)
    (hdir : directionOfCode (natAt f.body 2) = some dir) :
    takeCheck f s =
      handUrgent (ownFrame s .result f.src (checkAnswer s (byteAt f.body 0) (natAt f.body 1) dir)) s := by
  rw [takeCheck, hdir]
  exact if_pos ⟨(inService_iff s).2 ⟨hp, hd⟩, hdst, h1, h8⟩

theorem byteOf_natAt (l : List Byte) (i : Nat) : byteOf (natAt l i) = byteAt l i := by simp [byteOf, natAt]

/-- Settles O24: in service the answer is the evaluation's, and nothing else changes. -/
theorem checksAreAnswered : Obligations.ChecksAreAnswered := by
  intro s f hf ht
  have hexec := exec_check hf ht
  refine ⟨fun h => by rw [hexec, takeCheck_discarded (s := delivered s) h], fun hp hd hdst h1 h8 dir hdir => ?_⟩
  rw [takeCheck_answered (s := delivered s) hp hd hdst h1 h8 hdir] at hexec
  have hsight : SameSight s (delivered s) := (delivered_touches s).sameSight (by decide)
  have hhand := handUrgent_handedOver
    (ownFrame (delivered s) .result f.src (checkAnswer (delivered s) (byteAt f.body 0) (natAt f.body 1) dir))
      (delivered s)
  refine ⟨_, hexec, fun hk => ?_, fun hk => ?_⟩
  · have hans : checkAnswer (delivered s) (byteAt f.body 0) (natAt f.body 1) dir =
        [0x02, byteAt f.body 0, byteAt f.body 1, directionCode dir, 0x13, 0x00, reasonCode .noObject, 0x00] := by
      rw [checkAnswer, if_pos (show objectCount (delivered s) < _ from hk), checkResultBody, byteOf_natAt]
      rfl
    rw [hans] at hhand ⊢
    exact hhand
  · have hans : checkAnswer (delivered s) (byteAt f.body 0) (natAt f.body 1) dir =
        [0x02, byteAt f.body 0, byteAt f.body 1, directionCode dir,
         verdictCode (evaluate s (natAt f.body 1) dir .remote).verdict,
         basisCode (evaluate s (natAt f.body 1) dir .remote).basis,
         reasonCode (evaluate s (natAt f.body 1) dir .remote).reason,
           positionCode (positionOf s (natAt f.body 1))] := by
      rw [checkAnswer, if_neg (show ¬ objectCount (delivered s) < _ from Nat.not_lt.2 hk), hsight.evaluate,
        hsight.positionOf, checkResultBody, byteOf_natAt]
    rw [hans] at hhand ⊢
    exact hhand

end Sys2Proof.Machine


namespace Sys2Proof.Machine

/-! ### CANCEL (R136) -/

theorem exec_cancel {s : State} {f : Frame} (hf : inboundHead s = some f) (ht : f.type = .cancel) :
    exec .cancel s = .next (takeCancel f (delivered s)) := by
  have harm : exec .cancel s = execCancel s := rfl
  simp [harm, execCancel, hf, ht, finishDelivery_eq_delivered]

theorem takeCancel_discarded {s : State} {f : Frame}
    (h : s.start.phase ≠ .ready ∨ s.start.departure ≠ none ∨ f.dst = 0) : takeCancel f s = s := by
  refine if_neg ?_
  rw [inService_iff]
  rintro ⟨⟨hp, hd⟩, hdst⟩
  rcases h with h | h | h
  · exact h hp
  · exact h hd
  · exact hdst h

section InService

variable {s : State} {f : Frame} (hs : inService s = true) (hdst : f.dst ≠ 0)
include hs hdst

theorem takeCancel_notFound (hn : s.req.queue.find? (isNamed f.src (byteAt f.body 0)) = none) :
    takeCancel f s = handAccept f.src (byteAt f.body 0) .notFound s := by
  unfold takeCancel
  dsimp only
  rw [if_pos ⟨hs, hdst⟩, hn]

theorem takeCancel_found {op : Operation} (hop : s.req.queue.find? (isNamed f.src (byteAt f.body 0)) = some op) :
    takeCancel f s =
      if isDriven op then handAccept f.src (byteAt f.body 0) .tooLate s
      else cancelOperation op f.src (byteAt f.body 0) s := by
  unfold takeCancel
  dsimp only
  rw [if_pos ⟨hs, hdst⟩, hop]

end InService

/-- The withdrawal asked for an operation that ends (R129). -/
theorem withdrawFor_withdrawnFor (op : Operation) (s : State) : WithdrawnFor op s (withdrawFor op s) := by
  unfold WithdrawnFor withdrawFor
  split
  · rename_i c hst hown
    rw [if_pos hst]
    exact withdrawClaim_withdrawn hown _ _
  · rename_i hno
    split
    · rename_i hst
      refine withdrawClaim_of_none ?_ _ _
      by_contra hown
      obtain ⟨c, hc⟩ := Option.ne_none_iff_exists'.1 hown
      exact hno c hst hc
    · rfl

/-- The operation that a CANCEL names is the head exactly when the head has its name: the first with a name is found. -/
theorem isHead_of_find {s : State} {requester : Nat} {tag : Byte} {op : Operation}
    (hop : s.req.queue.find? (isNamed requester tag) = some op) : isHead s op = true ↔ headOp s = some op := by
  have hname := List.find?_some hop
  simp only [isNamed, Bool.and_eq_true, beq_iff_eq] at hname
  unfold isHead headOp
  cases hq : s.req.queue with
  | nil => simp
  | cons h rest =>
    simp only [List.head?_cons, Option.some.injEq, hname]
    constructor
    · intro hh
      rw [hq, List.find?_cons_of_pos hh] at hop
      exact Option.some.inj hop
    · rintro rfl
      simp [isNamed, hname]

theorem withdrawFor_copy (op : Operation) (s : State) : (withdrawFor op s).copy = s.copy :=
  withdrawFor_touches op s .copy (by decide)

/-- Settles O25: the answer is that of the operation's state, and a waiting one ends. -/
theorem cancelsAreAnswered : Obligations.CancelsAreAnswered := by
  intro s f hf ht
  have hexec := exec_cancel hf ht
  refine ⟨fun h => by rw [hexec, takeCancel_discarded (s := delivered s) h], fun hp hd hdst => ?_⟩
  have hserv : inService (delivered s) = true := (inService_iff _).2 ⟨hp, hd⟩
  refine ⟨fun hn => ?_, fun op hop => ⟨fun hdriven => ?_, fun hwait => ?_⟩⟩
  · rw [takeCancel_notFound hserv hdst hn] at hexec
    exact ⟨_, hexec, handAccept_handedOver _ _ _ _⟩
  · rw [takeCancel_found hserv hdst hop, if_pos hdriven] at hexec
    exact ⟨_, hexec, handAccept_handedOver _ _ _ _⟩
  · rw [takeCancel_found hserv hdst hop, if_neg (by simp [hwait])] at hexec
    have hacc := handAccept_handedOver f.src (byteAt f.body 0) .cancelTaken (withdrawFor op (delivered s))
    rw [ownFrame_congr (s := s) (withdrawFor_copy op (delivered s))] at hacc
    refine ⟨_, _, _, withdrawFor_withdrawnFor op _, hacc, endOperation_operationEnded (by simp [hwait]) _ _, ?_⟩
    rw [hexec, cancelOperation]
    exact congrArg Host.Outcome.next (if_congr (isHead_of_find (s := delivered s) hop) rfl rfl)

/-! ### A changed position of the head's object (R133) -/

theorem exec_positionChangeTaken {s : State} {k : Nat} (hk : s.handover.positions.head? = some k) :
    exec .positionChangeTaken s =
      .next (takePosition k (s.withHandover { s.handover with positions := s.handover.positions.tail })) := by
  obtain ⟨rest, hq⟩ := List.head?_eq_some_iff.1 hk
  have harm : exec .positionChangeTaken s = execPositionChangeTaken s := rfl
  simp [harm, execPositionChangeTaken, hq]

theorem takePosition_other {s : State} {k : Nat}
    (h : headOp s = none ∨ ∃ op, headOp s = some op ∧ (op.object ≠ k ∨ op.state = .queued ∨ isDriven op = true)) :
    takePosition k s = s := by
  unfold takePosition
  rcases h with h | ⟨op, h, hno⟩ <;> rw [h]
  refine if_neg ?_
  rintro ⟨hk, hst⟩
  rcases hno with hno | hno | hno
  · exact hno hk
  · rcases hst with hst | hst <;> simp [hst] at hno
  · rcases hst with hst | hst <;> simp [isDriven, hst] at hno

theorem takePosition_ends {s : State} {op : Operation} (h : headOp s = some op)
    (hst : op.state = .claiming ∨ op.state = .deferred) :
    takePosition op.object s = nextHead (endOperation op .failed .positionChanged (withdrawFor op s)) := by
  unfold takePosition
  rw [h]
  exact if_pos ⟨rfl, hst⟩

/-- Settles O27. -/
theorem positionChangesEndTheWaitingHead : Obligations.PositionChangesEndTheWaitingHead := by
  intro s k hk
  have hexec := exec_positionChangeTaken hk
  refine ⟨fun h => ?_, fun op hop hobj hst => ?_⟩
  · rw [hexec, takePosition_other]
    exact h
  · have hwait : isDriven op = true → False := by rcases hst with hst | hst <;> simp [isDriven, hst]
    subst hobj
    rw [takePosition_ends (by exact hop) hst] at hexec
    exact ⟨_, _, withdrawFor_withdrawnFor op _, endOperation_operationEnded (fun hd => (hwait hd).elim) _ _, hexec⟩

/-! ### Answers to the own CLAIM (R103) -/

theorem exec_assent {s : State} {f : Frame} (hf : inboundHead s = some f) (ht : f.type = .assent) :
    exec .assent s = .next (takeAssent f (delivered s)) := by
  have harm : exec .assent s = execAssent s := rfl
  simp [harm, execAssent, hf, ht, finishDelivery_eq_delivered]

theorem exec_object {s : State} {f : Frame} (hf : inboundHead s = some f) (ht : f.type = .object) :
    exec .object s = .next (takeObject f (delivered s)) := by
  have harm : exec .object s = execObject s := rfl
  simp [harm, execObject, hf, ht, finishDelivery_eq_delivered]

theorem answerCounts_of_own {s : State} {own : OwnClaim} (h : s.claims.own = some own) (f : Frame) :
    answerCounts s f = true ↔ own.held = false ∧ own.id = byteAt f.body 0 ∧ f.dst ≠ 0 := by
  simp [answerCounts, h, and_assoc]

theorem answerCounts_of_none {s : State} (h : s.claims.own = none) (f : Frame) : answerCounts s f = false := by
  simp [answerCounts, h]

theorem takeAssent_counted {s : State} {f : Frame} (hc : answerCounts s f = true)
    (ha : (tableGet s.claims.answers f.src).isSome = true) :
    takeAssent f s = s.withClaims { s.claims with answers := tablePut s.claims.answers f.src .assented } :=
  if_pos (by rw [hc, ha]; rfl)

theorem takeAssent_uncounted {s : State} {f : Frame}
    (h : answerCounts s f = false ∨ tableGet s.claims.answers f.src = none) : takeAssent f s = s := by
  refine if_neg ?_
  rcases h with h | h <;> simp [h]

theorem assents_count (s : State) (f : Frame) (hf : inboundHead s = some f) (ht : f.type = .assent) :
    ∃ t, exec .assent s = .next t ∧ Touches [.link, .claims] s t ∧
      t.link = { s.link with inbound := s.link.inbound.tail, viewTaken := false } ∧
      (∀ own, s.claims.own = some own →
        (own.held = false → own.id = byteAt f.body 0 → f.dst ≠ 0 →
          (tableGet s.claims.answers f.src).isSome = true →
          tableGet t.claims.answers f.src = some .assented ∧ t.claims = { s.claims with answers := t.claims.answers } ∧
          (∀ j, j ≠ f.src → tableGet t.claims.answers j = tableGet s.claims.answers j)) ∧
        ((own.held = true ∨ own.id ≠ byteAt f.body 0 ∨ f.dst = 0 ∨ tableGet s.claims.answers f.src = none) →
          t.claims = s.claims)) ∧
      (s.claims.own = none → t.claims = s.claims) := by
  have htouch := takeAssent_touches f (delivered s)
  refine ⟨_, exec_assent hf ht, (delivered_touches s).trans htouch, htouch .link (by decide),
    fun own hown => ⟨fun hheld hid hdst ha => ?_, fun hno => ?_⟩, fun hnone => ?_⟩
  · rw [takeAssent_counted (s := delivered s) ((answerCounts_of_own hown f).2 ⟨hheld, hid, hdst⟩) ha]
    exact ⟨tableGet_put_same _ _ _, rfl, fun j hj => tableGet_put_other _ _ hj⟩
  · have hun : answerCounts (delivered s) f = false ∨ tableGet (delivered s).claims.answers f.src = none := by
      by_cases ha : tableGet s.claims.answers f.src = none
      · exact .inr ha
      · refine .inl (Bool.eq_false_iff.2 fun hc => ?_)
        obtain ⟨hheld, hid, hdst⟩ := (answerCounts_of_own (s := delivered s) hown f).1 hc
        rcases hno with h | h | h | h
        · simp [hheld] at h
        · exact h hid
        · exact hdst h
        · exact ha h
    rw [takeAssent_uncounted hun]
    rfl
  · rw [takeAssent_uncounted (s := delivered s) (.inl (answerCounts_of_none hnone f))]
    rfl

/-- The last objection kept (R103). -/
def objected (f : Frame) (s : State) : State :=
  s.withClaims { s.claims with lastObjection := some { station := f.src, reason := byteAt f.body 1 } }

theorem takeObject_counted {s : State} {f : Frame} (hc : answerCounts s f = true) :
    takeObject f s =
      withdrawAndReport (.defer .conflict) (some { station := f.src, reason := byteAt f.body 1 }) (objected f s) :=
  if_pos hc

theorem takeObject_uncounted {s : State} {f : Frame} (hc : answerCounts s f = false) : takeObject f s = s :=
  if_neg (by simp [hc])

theorem withdrawClaim_headOp (cause : EndCause) (o : Option Objection) (s : State) :
    headOp (withdrawClaim cause o s) = headOp s := by
  unfold headOp
  rw [show (withdrawClaim cause o s).req = s.req from withdrawClaim_touches cause o s .req (by decide)]

/-- A withdrawal that defers the head, as the statements put it (R109, R129, R131). -/
theorem withdrawAndReport_defers {s : State} {own : OwnClaim} {op : Operation} (hown : s.claims.own = some own)
    (hop : headOp s = some op) (r : Reason) (o : Option Objection) :
    ∃ v, Withdrawn own (.reason r) o s v ∧ Deferral op r v (withdrawAndReport (.defer r) o s) := by
  have hop' : headOp (withdrawClaim (.reason r) o s) = some op := by rw [withdrawClaim_headOp, hop]
  refine ⟨_, withdrawClaim_withdrawn hown _ _, ?_⟩
  have hd := deferHead_deferral hop' (fun _ => withdrawClaim_own (.reason r) o s) r
  unfold withdrawAndReport takeReport
  rw [show headOp (withdrawClaim (reportCause (.defer r)) o s) = some op from hop']
  exact hd

/-- Settles O43. -/
theorem answersCount : Obligations.AnswersCount := by
  refine ⟨assents_count, fun s f hf ht => ⟨fun hno => ?_, fun own hown hheld hid hdst op hop => ?_⟩⟩
  · rw [exec_object hf ht, takeObject_uncounted]
    rcases hno with h | ⟨own, hown, h⟩
    · exact answerCounts_of_none (s := delivered s) h f
    · refine Bool.eq_false_iff.2 fun hc => ?_
      obtain ⟨hheld, hid, hdst⟩ := (answerCounts_of_own (s := delivered s) hown f).1 hc
      rcases h with h | h | h
      · simp [hheld] at h
      · exact h hid
      · exact hdst h
  · have hexec := exec_object hf ht
    rw [takeObject_counted (s := delivered s) ((answerCounts_of_own hown f).2 ⟨hheld, hid, hdst⟩)] at hexec
    obtain ⟨v, hw, hd⟩ := withdrawAndReport_defers (s := objected f (delivered s)) hown hop .conflict
      (some { station := f.src, reason := byteAt f.body 1 })
    exact ⟨_, v, _, hexec, rfl, hw, hd⟩

end Sys2Proof.Machine


namespace Sys2Proof.Machine

/-! ### The qualification event up to the Travel Supervisor (R20, R24) -/

/-- The state in which a qualification event reaches the Travel Supervisor: the slot written, a changed position handed
over. -/
def eventHanded (k : Nat) (c : Comb) (s : State) : State :=
  if positionFor c (positionOf s k) = positionOf s k then s.putObj k (qualifiedObj s (objIn s k) c)
  else handPosition k (s.putObj k (qualifiedObj s (objIn s k) c))

theorem qualifyObject_eq (k : Nat) (c : Comb) (s : State) :
    qualifyObject k c s = superviseIf (objIn s k).commanded c (eventHanded k c s) := rfl

theorem eventHanded_touches (k : Nat) (c : Comb) (s : State) :
    Touches [.objects, .view, .link, .handover, .faults] s (eventHanded k c s) := by
  unfold eventHanded
  split
  · exact (putObj_touches _ _ _).mono (by decide)
  · exact ((putObj_touches _ _ _).trans (handPosition_touches _ _)).mono (by decide)

theorem eventHanded_objects (k : Nat) (c : Comb) (s : State) :
    (eventHanded k c s).objects = tablePut s.objects k (qualifiedObj s (objIn s k) c) := by
  unfold eventHanded
  split
  · rfl
  · exact handPosition_touches _ _ .objects (by decide)

theorem objIn_eventHanded_same (k : Nat) (c : Comb) (s : State) :
    objIn (eventHanded k c s) k = qualifiedObj s (objIn s k) c := by
  rw [objIn, eventHanded_objects, tableGet_put_same]
  rfl

theorem objIn_eventHanded_other {k j : Nat} (hj : j ≠ k) (c : Comb) (s : State) :
    objIn (eventHanded k c s) j = objIn s j := by
  rw [objIn, eventHanded_objects, tableGet_put_other _ _ hj]
  rfl

theorem positionOf_eventHanded (k : Nat) (c : Comb) (s : State) :
    positionOf (eventHanded k c s) k = positionFor c (positionOf s k) := by
  rw [positionOf, objIn_eventHanded_same]
  rfl

theorem eventHanded_flagsStay (k : Nat) (c : Comb) (s : State) : FlagsStay s (eventHanded k c s) := by
  have hput : FlagsStay s (s.putObj k (qualifiedObj s (objIn s k) c)) := (putObj_touches _ _ _).flagsStay (by decide)
  unfold eventHanded
  split
  · exact hput
  · exact hput.trans (handPosition_flagsStay _ _)

theorem eventHanded_handover (k : Nat) (c : Comb) (s : State) :
    (eventHanded k c s).handover =
      if positionOf (eventHanded k c s) k = positionOf s k then s.handover
      else { s.handover with
        positions := s.handover.positions ++ [k]
        views := s.handover.views ++ [{ station := ownAddress s, state := none }] } := by
  rw [positionOf_eventHanded]
  unfold eventHanded
  split
  · rfl
  · exact handPosition_handover k _

/-- The event of a commanded object whose drive travels or settles, as the Travel Supervisor takes it (R151 to R156). -/
theorem qualifyObject_commanded {k : Nat} {c : Comb} {s : State} {d : DriveRecord} (hc : (objIn s k).commanded = true)
    (hd : s.drive.record = some d) :
    qualifyObject k c s =
      if d.settling then
        (if c = d.target then eventHanded k c s else endDrive .failed .reversed (eventHanded k c s))
      else if c = d.target then arrive d (eventHanded k c s)
      else if c = .c11 then endDrive .failed .contactFault (eventHanded k c s)
      else if c = d.start then endDrive .failed .reversed (eventHanded k c s)
      else depart d (eventHanded k c s) := by
  have hrec : (eventHanded k c s).drive.record = some d := by
    rw [show (eventHanded k c s).drive = s.drive from eventHanded_touches k c s .drive (by decide), hd]
  rw [qualifyObject_eq, hc, superviseIf, if_pos rfl, superviseEvent, hrec]

/-! ### Departure and arrival (R151, R152) -/

theorem targetComb_ne (dir : Direction) :
    targetComb dir ≠ .c00 ∧ targetComb dir ≠ .c11 ∧ startComb dir ≠ .c00 ∧ startComb dir ≠ .c11 ∧
      startComb dir ≠ targetComb dir := by
  cases dir <;> decide

theorem positionFor_targetComb (dir : Direction) (p : Position) :
    positionFor (targetComb dir) p = targetPosition dir := by
  cases dir <;> rfl

theorem deenergize_eq (k : Nat) (dir : Direction) (d : Drive) :
    deenergize k dir d = { d with
      openOutputs := if dir = .toOpen then d.openOutputs &&& ~~~ outputBit k else d.openOutputs
      closeOutputs := if dir = .toClose then d.closeOutputs &&& ~~~ outputBit k else d.closeOutputs } := by
  cases dir <;> rfl

theorem headOp_withDrive (d : Drive) (s : State) : headOp (s.withDrive d) = headOp s := rfl

/-- The record of a drive that has arrived (R152). -/
def arrivedRecord (d : DriveRecord) (s : State) : DriveRecord :=
  { d with departed := true, energized := false, travel := none, departure := none, coilPulse := none, settling := true,
           settle := some (s.now + fieldOf s (·.settle)) }

theorem arrive_of_head {s : State} {op : Operation} (h : headOp s = some op) (d : DriveRecord) :
    arrive d s =
      setHead { op with state := .settling }
        (s.withDrive { deenergize d.object d.dir s.drive with record := some (arrivedRecord d s) }) := by
  unfold arrive
  dsimp only
  rw [headOp_withDrive, h]
  rfl

/-- Settles O18: departure and arrival write the drive record, its output and the head, and nothing more. -/
theorem travellingDriveDepartsAndArrives : Obligations.TravellingDriveDepartsAndArrives := by
  intro s k d hd hcom hq r hr hk hset htarget hstart
  obtain ⟨ht0, ht1, hs0, hs1, hst⟩ := targetComb_ne r.dir
  have hexec := exec_qualificationEvent hd hq
  set u := s.reachTime ((objIn s k).since + qualificationTime s) with hu
  have hcom' : (objIn u k).commanded = true := hcom
  have hrec : u.drive.record = some r := hr
  have hflags : FlagsStay s u := (reachTime_touches _ _).flagsStay (by decide)
  refine ⟨fun hc => ?_, fun hc op hop => ?_⟩
  · rw [hc] at hexec
    have hne : ¬ Comb.c00 = r.target := by rw [htarget]; exact Ne.symm ht0
    have hne' : ¬ Comb.c00 = r.start := by rw [hstart]; exact Ne.symm hs0
    have hev : qualifyObject k .c00 u = depart r (eventHanded k .c00 u) := by
      simp only [qualifyObject_commanded hcom' hrec, hset, Bool.false_eq_true, if_false, if_neg hne, if_neg hne',
        reduceCtorEq]
    have hpos := qualifyObject_position k .c00 u
    rw [hev] at hexec hpos
    have htouch := (eventHanded_touches k .c00 u).trans (depart_touches r _)
    have hobj : objIn (depart r (eventHanded k .c00 u)) k = qualifiedObj u (objIn u k) .c00 := by
      rw [objIn_congr (depart_touches r _ .objects (by decide)), objIn_eventHanded_same]
    refine ⟨_, hexec, ?_, ?_, ?_, ?_, htouch .req (by decide), htouch .claims (by decide), htouch .counters (by decide),
      hflags.trans ((eventHanded_flagsStay _ _ _).trans ((depart_touches r _).flagsStay (by decide)))⟩
    · have hdrive : (eventHanded k .c00 u).drive = s.drive := eventHanded_touches k .c00 u .drive (by decide)
      rw [← hdrive]
      rfl
    · rw [hpos]
      exact positionTable_positionFor _ _
    · rw [hobj]
      exact if_neg (by simp [hcom'])
    · rw [hobj]
      exact hcom
  · rw [hc] at hexec
    have hev : qualifyObject k r.target u = arrive r (eventHanded k r.target u) := by
      simp only [qualifyObject_commanded hcom' hrec, hset, Bool.false_eq_true, if_false, if_true]
    have hpos := qualifyObject_position k r.target u
    have hpre := eventHanded_touches k r.target u
    have hdrive : (eventHanded k r.target u).drive = s.drive := hpre .drive (by decide)
    have hreq : (eventHanded k r.target u).req = s.req := hpre .req (by decide)
    have hcopy : (eventHanded k r.target u).copy = s.copy := hpre .copy (by decide)
    have hop' : headOp (eventHanded k r.target u) = some op := by rw [headOp, hreq]; exact hop
    have harr := arrive_touches r (eventHanded k r.target u)
    have hnow : (arrive r (eventHanded k r.target u)).now = (eventHanded k r.target u).now := harr .now (by decide)
    have hclaims : (eventHanded k r.target u).claims = s.claims := hpre .claims (by decide)
    have hcount : (eventHanded k r.target u).counters = s.counters := hpre .counters (by decide)
    rw [hev] at hexec hpos
    refine ⟨_, hexec, ?_, ?_, ?_, ?_, ?_, ?_, ?_, Eq.trans (harr .claims (by decide)) hclaims,
      Eq.trans (harr .counters (by decide)) hcount,
      hflags.trans ((eventHanded_flagsStay _ _ _).trans (harr.flagsStay (by decide)))⟩
    · rw [hnow, arrive_of_head hop']
      show some (arrivedRecord r (eventHanded k r.target u)) = _
      simp only [arrivedRecord, fieldOf, hcopy]
    · rw [arrive_of_head hop', ← hdrive, ← hk]
      simp [setHead, deenergize_eq]
    · rw [arrive_of_head hop', ← hdrive, ← hk]
      simp [setHead, deenergize_eq]
    · rw [hpos, htarget]
      exact positionFor_targetComb _ _
    · rw [objIn_congr (harr .objects (by decide)), objIn_eventHanded_same]
      exact hcom
    · rw [arrive_of_head hop']
      rfl
    · rw [arrive_of_head hop', ← hreq]
      rfl

end Sys2Proof.Machine


namespace Sys2Proof.Machine

/-! ### Frames and events up to the end of a drive -/

theorem positionOf_congr {s t : State} (h : t.objects = s.objects) (k : Nat) : positionOf t k = positionOf s k :=
  congrArg ObjIn.position (objIn_congr h k)

theorem Emits.next {fs gs : List Frame} {n m : Nat} {s t u : State} (hl : LineHeld s) (h : Emits fs n s t)
    (g : Emits gs m t u) : Emits (fs ++ gs) (n + m) s u := h.trans (h.asking hl) g

theorem or_causeBit_eq_iff (p : CauseSet) (c : Cause) : p ||| causeBit c = p ↔ causeIn p c = true := by
  revert p; cases c <;> decide

/-- A cause that joins the pending set is one own-content event where it was not pending (R36). -/
theorem newlyPending_of_or {s t : State} {c : Cause} (h : t.faults.pending = s.faults.pending ||| causeBit c) :
    newlyPending s t c = if s.faults.pending ||| causeBit c = s.faults.pending then 0 else 1 := by
  simp only [newlyPending, h, causeIn_or_self, or_causeBit_eq_iff]
  cases causeIn s.faults.pending c <;> rfl

theorem newlyPending_congr {s t u : State} {c : Cause}
    (h : causeIn u.faults.pending c = causeIn t.faults.pending c) : newlyPending s u c = newlyPending s t c := by
  simp [newlyPending, h]

theorem newlyPending_congr_left {s t u : State} {c : Cause}
    (h : causeIn s.faults.pending c = causeIn t.faults.pending c) : newlyPending s u c = newlyPending t u c := by
  simp [newlyPending, h]

theorem newlyPending_of_same {s t : State} (h : t.faults.pending = s.faults.pending) (c : Cause) :
    newlyPending s t c = 0 := by
  rw [newlyPending, h, if_neg]
  rintro ⟨hn, hy⟩
  exact absurd (hn.symm.trans hy) (by decide)

theorem reportEvent_emits (c : Cause) (s : State) :
    Emits [] (newlyPending s (reportEvent c s) c) s (reportEvent c s) := by
  rw [newlyPending_of_or (t := reportEvent c s) (setPending_pending _ s)]
  exact setPending_emits _ s

theorem beginCondition_emits (c : Cause) (s : State) :
    Emits [] (newlyPending s (beginCondition c s) c) s (beginCondition c s) := by
  cases h : causeIn s.faults.holding c with
  | true =>
    rw [beginCondition_of_holding h, newlyPending_of_same rfl]
    exact SameBooks.emits ⟨rfl, rfl, rfl, rfl, rfl⟩
  | false =>
    rw [beginCondition_of_not_holding h]
    set u := s.withFaults { s.faults with holding := s.faults.holding ||| causeBit c } with hu
    rw [newlyPending_congr_left (s := s) (t := u) rfl]
    exact Emits.after (t := u) ⟨rfl, rfl, rfl, rfl, rfl⟩ (reportEvent_emits c u)

theorem beginCondition_other {c d : Cause} (h : c ≠ d) (s : State) :
    causeIn (beginCondition c s).faults.pending d = causeIn s.faults.pending d := by
  cases hc : causeIn s.faults.holding c with
  | true => rw [beginCondition_of_holding hc]
  | false =>
    rw [beginCondition_of_not_holding hc, setPending_pending]
    exact causeIn_or _ h

theorem beginCondition_claimsQueued (c : Cause) (s : State) :
    claimsQueued (beginCondition c s).link = claimsQueued s.link := by
  unfold beginCondition
  split
  · rfl
  · exact setPending_claimsQueued _ _

theorem watchFaulty_emits (s : State) :
    Emits [] (newlyPending s (watchFaulty s) .objectFaulty) s (watchFaulty s) := by
  unfold watchFaulty
  split
  · exact beginCondition_emits _ s
  · rw [newlyPending_of_same (show (endCondition .objectFaulty s).faults.pending = s.faults.pending from rfl)]
    exact SameBooks.emits ⟨rfl, rfl, rfl, rfl, rfl⟩

theorem watchFaulty_travelFail (s : State) :
    causeIn (watchFaulty s).faults.pending .travelFail = causeIn s.faults.pending .travelFail := by
  unfold watchFaulty
  split
  · exact beginCondition_other (by decide) s
  · rfl

theorem watchFaulty_claimsQueued (s : State) : claimsQueued (watchFaulty s).link = claimsQueued s.link := by
  unfold watchFaulty
  split
  · exact beginCondition_claimsQueued _ s
  · rfl

theorem positionHanded_emits (k : Nat) (s : State) : Emits [] 1 s (positionHanded k s) :=
  (ownChanged_emits s).then ⟨rfl, rfl, rfl, rfl, rfl⟩

theorem handPosition_emits {s : State} (hl : LineHeld s) (k : Nat) :
    Emits [] (1 + newlyPending s (handPosition k s) .objectFaulty) s (handPosition k s) := by
  have hfaults : (positionHanded k s).faults = s.faults := positionHanded_touches k s .faults (by decide)
  rw [handPosition_eq, newlyPending_congr_left (t := positionHanded k s) (by rw [hfaults])]
  exact (positionHanded_emits k s).next hl (watchFaulty_emits _)

theorem handPosition_claimsQueued (k : Nat) (s : State) :
    claimsQueued (handPosition k s).link = claimsQueued s.link := by
  rw [handPosition_eq, watchFaulty_claimsQueued]
  exact ownChanged_claimsQueued s

/-! ### What precedes the end of a drive -/

/-- The node at the end of its drive, before the Travel Supervisor acts: time has come, and the event that ends it is
handed over. -/
structure DriveHanded (k : Nat) (s w : State) : Prop where
  emits : Emits [] ((if positionOf w k = positionOf s k then 0 else 1) + newlyPending s w .objectFaulty) s w
  touches : Touches [.now, .objects, .view, .link, .handover, .faults] s w
  others : ∀ j, j ≠ k → objIn w j = objIn s j
  flags : FlagsStay s w
  travelFail : causeIn w.faults.pending .travelFail = causeIn s.faults.pending .travelFail
  claims : claimsQueued w.link = claimsQueued s.link

theorem DriveHanded.of_touches {s w : State} (h : Touches [.now] s w) (k : Nat) : DriveHanded k s w := by
  have hf : w.faults = s.faults := h .faults (by decide)
  have hpos : positionOf w k = positionOf s k := positionOf_congr (h .objects (by decide)) k
  refine ⟨?_, h.mono (by decide), fun j _ => objIn_congr (h .objects (by decide)) j, h.flagsStay (by decide),
    by rw [hf],
    by rw [show w.link = s.link from h .link (by decide)]⟩
  rw [if_pos hpos, newlyPending_of_same (by rw [hf])]
  exact (h.sameBooks (by decide)).emits

theorem eventHanded_handed {s : State} (hl : LineHeld s) (k : Nat) (c : Comb) :
    DriveHanded k s (eventHanded k c s) := by
  have hput : SameBooks s (s.putObj k (qualifiedObj s (objIn s k) c)) := ⟨rfl, rfl, rfl, rfl, rfl⟩
  have htouch := eventHanded_touches k c s
  have hpos := positionOf_eventHanded k c s
  refine ⟨?_, htouch.mono (by decide), fun j hj => objIn_eventHanded_other hj c s, eventHanded_flagsStay k c s, ?_, ?_⟩
  · rw [hpos]
    unfold eventHanded
    by_cases h : positionFor c (positionOf s k) = positionOf s k
    · rw [if_pos h, if_pos h, newlyPending_of_same (s := s) (t := s.putObj k _) rfl]
      exact hput.emits
    · rw [if_neg h, if_neg h]
      exact Emits.after hput (handPosition_emits (hput.sameAsking.held hl) k)
  · unfold eventHanded
    split
    · rfl
    · rw [handPosition_eq, watchFaulty_travelFail]
      rw [show (positionHanded k _).faults = _ from positionHanded_touches k _ .faults (by decide)]
      rfl
  · unfold eventHanded
    split
    · rfl
    · exact handPosition_claimsQueued k _

theorem DriveHanded.after {k : Nat} {s u w : State} (ht : Touches [.now] s u) (h : DriveHanded k u w) :
    DriveHanded k s w := by
  have hf : u.faults = s.faults := ht .faults (by decide)
  have hpos : positionOf u k = positionOf s k := positionOf_congr (ht .objects (by decide)) k
  refine ⟨?_, (Touches.trans ht h.touches).mono (by decide),
    fun j hj => (h.others j hj).trans (objIn_congr (ht .objects (by decide)) j),
    (ht.flagsStay (by decide)).trans h.flags, h.travelFail.trans (by rw [hf]),
    h.claims.trans (by rw [show u.link = s.link from ht .link (by decide)])⟩
  rw [← hpos, newlyPending_congr_left (t := u) (by rw [hf])]
  exact Emits.after (ht.sameBooks (by decide)) h.emits

/-! ### The end of a drive (R157) -/

/-- The record IDLE and the commanded flag clear (R157). -/
def driveStopped (d : DriveRecord) (s : State) : State := clearCommanded d.object (stopDrive d s)

/-- The end reported to the fault logic, after FAILED (R157). -/
def driveReported (o : OpOutcome) (d : DriveRecord) (s : State) : State :=
  if o = .failed then reportEvent .travelFail (driveStopped d s) else driveStopped d s

theorem driveStopped_touches (d : DriveRecord) (s : State) : Touches [.drive, .objects] s (driveStopped d s) :=
  (stopDrive_touches d s).trans (clearCommanded_touches _ _)

theorem driveReported_after (o : OpOutcome) (d : DriveRecord) (s : State) :
    Touches [.faults, .view, .link] (driveStopped d s) (driveReported o d s) := by
  unfold driveReported
  split
  · exact reportEvent_touches _ _
  · exact Touches.refl _ _

theorem driveReported_touches (o : OpOutcome) (d : DriveRecord) (s : State) :
    Touches [.drive, .objects, .faults, .view, .link] s (driveReported o d s) :=
  (driveStopped_touches d s).trans (driveReported_after o d s)

theorem driveReported_not_failed {o : OpOutcome} (h : o ≠ .failed) (d : DriveRecord) (s : State) :
    driveReported o d s = driveStopped d s := if_neg h

theorem objIn_driveReported_same (o : OpOutcome) (d : DriveRecord) (s : State) :
    objIn (driveReported o d s) d.object =
      { objIn s d.object with
        commanded := false
        intermediate :=
          if (objIn s d.object).position = .moving then some (s.now + fieldOf s (·.intermediate))
          else (objIn s d.object).intermediate } := by
  rw [objIn_congr (driveReported_after o d s .objects (by decide)), driveStopped, clearCommanded]
  simp only [objIn_putObj_same]
  rfl

theorem objIn_driveReported_other {d : DriveRecord} {j : Nat} (hj : j ≠ d.object) (o : OpOutcome) (s : State) :
    objIn (driveReported o d s) j = objIn s j := by
  rw [objIn_congr (driveReported_after o d s .objects (by decide)), driveStopped, clearCommanded,
    objIn_putObj_other _ _ hj]
  rfl

theorem driveReported_pending (o : OpOutcome) (d : DriveRecord) (s : State) :
    (driveReported o d s).faults.pending =
      if o = .failed then s.faults.pending ||| causeBit .travelFail else s.faults.pending := by
  unfold driveReported
  split
  · exact setPending_pending _ _
  · rfl

theorem driveReported_emits (o : OpOutcome) (d : DriveRecord) (s : State) :
    Emits [] (newlyPending s (driveReported o d s) .travelFail) s (driveReported o d s) := by
  have hstop : SameBooks s (driveStopped d s) := ⟨rfl, rfl, rfl, rfl, rfl⟩
  unfold driveReported
  split
  · exact Emits.after hstop (reportEvent_emits .travelFail (driveStopped d s))
  · rw [newlyPending_of_same (s := s) (t := driveStopped d s) rfl]
    exact hstop.emits

theorem driveReported_claimsQueued (o : OpOutcome) (d : DriveRecord) (s : State) :
    claimsQueued (driveReported o d s).link = claimsQueued s.link := by
  unfold driveReported
  split
  · exact setPending_claimsQueued _ _
  · rfl

theorem driveReported_flagsStay (o : OpOutcome) (d : DriveRecord) (s : State) :
    FlagsStay s (driveReported o d s) := by
  unfold driveReported
  split
  · exact ((driveStopped_touches d s).flagsStay (by decide)).trans (reportEvent_flagsStay _ _)
  · exact (driveStopped_touches d s).flagsStay (by decide)

/-- The end of a drive with the end of its operation, before the next head starts. -/
theorem endDrive_eq {s : State} {d : DriveRecord} {op : Operation} (hd : s.drive.record = some d)
    (hop : headOp s = some op) (o : OpOutcome) (r : Reason) :
    endDrive o r s = nextHead (endOperation op o (if o = .done then doneReason op else r) (driveReported o d s)) := by
  have hhead : headOp (driveReported o d s) = some op := by
    rw [headOp, show (driveReported o d s).req = s.req from driveReported_touches o d s .req (by decide)]
    exact hop
  unfold endDrive
  rw [hd]
  show reportDriveEnd o r (driveReported o d s) = _
  rw [reportDriveEnd, hhead]

theorem driveReported_drive (o : OpOutcome) (d : DriveRecord) (s : State) :
    (driveReported o d s).drive =
      { record := none
        openOutputs := if d.dir = .toOpen then s.drive.openOutputs &&& ~~~ outputBit d.object else s.drive.openOutputs
        closeOutputs :=
          if d.dir = .toClose then s.drive.closeOutputs &&& ~~~ outputBit d.object else s.drive.closeOutputs } := by
  rw [show (driveReported o d s).drive = (driveStopped d s).drive from driveReported_after o d s .drive (by decide)]
  show { deenergize d.object d.dir s.drive with record := none } = _
  rw [deenergize_eq]

/-- The end of a drive, as the statements put it, from the moment its event is handed over (R134, R157). -/
theorem DriveHanded.ended {s w : State} {d : DriveRecord} {op : Operation} {c : OwnClaim} (hl : LineHeld s)
    (h : DriveHanded d.object s w) (hop : isDriven op = true) (hown : s.claims.own = some c) (o : OpOutcome)
    (r : Reason) : DriveEnded o r d op c s (endOperation op o r (driveReported o d w)) := by
  set x := driveReported o d w with hx
  have hsx : Touches [.now, .objects, .view, .link, .handover, .faults, .drive] s x :=
    (h.touches.trans (driveReported_touches o d w)).mono (by decide)
  have hclaims : x.claims = s.claims := hsx .claims (by decide)
  have hreq : x.req = s.req := hsx .req (by decide)
  have hcopy : x.copy = s.copy := hsx .copy (by decide)
  have hcount : x.counters = s.counters := hsx .counters (by decide)
  have hxown : x.claims.own = some c := by rw [hclaims]; exact hown
  set y := endHeldClaim true x with hy
  have hxy := endHeldClaim_touches true x
  have hyreq : y.req = s.req := Eq.trans (hxy .req (by decide)) hreq
  have hycopy : y.copy = s.copy := Eq.trans (hxy .copy (by decide)) hcopy
  have hend : endOperation op o r x = answeredEnd op o r y := by rw [endOperation_eq, if_pos hop]
  set t := answeredEnd op o r y with ht
  have hyt := answeredEnd_touches op o r y
  have hxt : Touches [.claims, .view, .link, .counters, .req] x t := (hxy.trans hyt).mono (by decide)
  have htobj (j : Nat) : objIn t j = objIn x j := objIn_congr (hxt .objects (by decide)) j
  have htpend : t.faults.pending = x.faults.pending := congrArg Faults.pending (hxt .faults (by decide))
  have hwfaulty : causeIn t.faults.pending .objectFaulty = causeIn w.faults.pending .objectFaulty := by
    rw [htpend, driveReported_pending]
    split
    · exact causeIn_or _ (by decide)
    · rfl
  have hpos : positionOf t d.object = positionOf w d.object := by
    rw [positionOf, htobj, objIn_driveReported_same]
    rfl
  obtain ⟨heq, hec, hef, hee, -⟩ := answeredEnd_operationEnded op o r y
  have hlocal (z : State) (hz : z.req = s.req) : localAfter op o r z = localAfter op o r s := by
    simp only [localAfter, hz]
  have hstate : op.state ≠ .deferred := fun hs => by simp [isDriven, hs] at hop
  have hevents : driveEvents s t d.object =
      (if positionOf w d.object = positionOf s d.object then 0 else 1) + newlyPending s w .objectFaulty +
        newlyPending w x .travelFail := by
    rw [driveEvents, hpos, newlyPending_congr hwfaulty, newlyPending_congr_left h.travelFail.symm,
      newlyPending_congr (s := w) (t := x) (u := t) (c := .travelFail) (by rw [htpend])]
  have hpre : Emits [] (driveEvents s t d.object) s x := by
    rw [hevents]
    exact h.emits.next hl (driveReported_emits o d w)
  have hlx : LineHeld x := (hpre.asking hl).held hl
  have hall := hpre.next hl ((endHeldClaim_emits hxown true).next hlx (answeredEnd_emits op o r y))
  have hcounter : x.view.counter = countedFrom s (driveEvents s t d.object) := by rw [hpre.events.1]
  have hrel : heldRelease true x c = if c.nodes = 0 then [] else
      [ownFrame s .release 0
        (releaseBody c.id (countedFrom s (driveEvents s t d.object)) (some (c.object, positionOf t c.object)))] := by
    rw [heldRelease, hcounter, ownFrame_congr hcopy, show positionOf t c.object = positionOf x c.object by
      rw [positionOf, htobj, positionOf]]
    rfl
  have hres : resultsFor op o r y = resultsFor op o r t := by
    have hp : positionOf t op.object = positionOf y op.object := positionOf_congr (hyt .objects (by decide)) op.object
    have hc : t.copy = y.copy := hyt .copy (by decide)
    simp only [resultsFor, hp, ownFrame_congr hc]
  rw [hend]
  refine ⟨?_, ?_, ?_, fun j hj => ?_, ?_, ?_, ?_, ?_, ?_, ?_, ?_, ?_⟩
  · rw [show t.drive = x.drive from hxt .drive (by decide), hx, driveReported_drive,
      show w.drive = s.drive from h.touches .drive (by decide)]
  · rw [htobj, objIn_driveReported_same]
  · rw [htobj, objIn_driveReported_same]
    intro hm
    have hnow : t.now = w.now := Eq.trans (hxt .now (by decide)) (driveReported_touches o d w .now (by decide))
    have hwcopy : w.copy = s.copy := h.touches .copy (by decide)
    simp only at hm
    rw [hnow]
    simp only [if_pos hm, fieldOf, hwcopy]
  · rw [htobj, objIn_driveReported_other hj, h.others j hj]
  · rw [show t.claims = y.claims from hyt .claims (by decide), hy, endHeldClaim_claims hxown, hclaims]
    rfl
  · rw [heq, hyreq, if_neg hstate, hlocal y hyreq]
  · rw [hec, hy, endHeldClaim_counters hxown, hcount]
  · exact h.flags.trans ((driveReported_flagsStay o d w).trans (hxt.flagsStay (by decide)))
  · intro ho
    rw [htpend, driveReported_pending, if_pos ho]
    exact causeIn_or_self _ _
  · rw [← hres, ← hrel]
    exact hall.frames
  · have hloc : localEvents op o r y = localEvents op o r s := by simp only [localEvents, hlocal y hyreq, hyreq]
    rw [← hloc, Nat.add_assoc]
    exact hall.events
  · rw [show claimsQueued t.link = claimsQueued y.link from ?_, hy, endHeldClaim_claimsQueued hxown, hx,
      driveReported_claimsQueued, h.claims]
    have := answeredEnd_operationEnded op o r y
    obtain ⟨-, -, -, -, hq, -⟩ := this
    exact hq

end Sys2Proof.Machine


namespace Sys2Proof.Machine

theorem exec_departureExpiry {s : State} {r : DriveRecord} {e : Nat} (hr : s.drive.record = some r)
    (he : r.departure = some e) (hset : r.settling = false) :
    exec .departureExpiry s = .next (endDrive .failed .noDeparture (s.reachTime e)) := by
  have harm : exec .departureExpiry s = execDepartureExpiry s := rfl
  simp [harm, execDepartureExpiry, hr, he, hset, endUndeparted]

theorem exec_travelExpiry {s : State} {r : DriveRecord} {e : Nat} (hr : s.drive.record = some r)
    (he : r.travel = some e) (hset : r.settling = false) : exec .travelExpiry s = .next (endOverdue r e s) := by
  have harm : exec .travelExpiry s = execTravelExpiry s := rfl
  simp [harm, execTravelExpiry, hr, he, hset]

theorem exec_settleExpiry {s : State} {r : DriveRecord} {e : Nat} (hr : s.drive.record = some r)
    (he : r.settle = some e) (hset : r.settling = true) :
    exec .settleExpiry s = .next (endDrive .done .none (s.reachTime e)) := by
  have harm : exec .settleExpiry s = execSettleExpiry s := rfl
  simp [harm, execSettleExpiry, hr, he, hset]

theorem exec_coilPulseExpiry {s : State} {r : DriveRecord} {e : Nat} (hr : s.drive.record = some r)
    (he : r.coilPulse = some e) (hset : r.settling = false) :
    exec .coilPulseExpiry s = .next (endPulse r (s.reachTime e)) := by
  have harm : exec .coilPulseExpiry s = execCoilPulseExpiry s := rfl
  simp [harm, execCoilPulseExpiry, hr, he, hset]

theorem endOperation_driveReported_now (op : Operation) (o : OpOutcome) (r : Reason) (d : DriveRecord) (w : State) :
    (endOperation op o r (driveReported o d w)).now = w.now :=
  Eq.trans (endOperation_touches op o r _ .now (by decide)) (driveReported_touches o d w .now (by decide))

theorem endOperation_driveReported_contactsStay (op : Operation) (o : OpOutcome) (r : Reason) (d : DriveRecord)
    (w : State) (k : Nat) : ContactsStay k w (endOperation op o r (driveReported o d w)) := by
  have hstop : ContactsStay k w (driveStopped d w) :=
    ((stopDrive_touches d w).contactsStay (by decide) k).trans (clearCommanded_contactsStay _ _ k)
  have hrep : ContactsStay k w (driveReported o d w) :=
    hstop.trans ((driveReported_after o d w).contactsStay (by decide) k)
  exact hrep.trans ((endOperation_touches op o r _).contactsStay (by decide) k)

/-- Settles O19: the event is handed over, the drive ends, and with it the operation. -/
theorem qualificationEndsTheDriveFailed : Obligations.QualificationEndsTheDriveFailed := by
  intro s hl k d hd hcom hq r hr hk htarget hstart op hop hdriven c hown reason hcase
  obtain ⟨ht0, ht1, hs0, hs1, hst⟩ := targetComb_ne r.dir
  have hexec := exec_qualificationEvent hd hq
  set x := s.reachTime ((objIn s k).since + qualificationTime s) with hx
  have hsx : Touches [.now] s x := reachTime_touches _ _
  set comb := rawComb d (objIn s k) with hcomb
  set w := eventHanded k comb x with hw
  have htw := eventHanded_touches k comb x
  have hev : qualifyObject k comb x = endDrive .failed reason w := by
    rw [qualifyObject_commanded (show (objIn x k).commanded = true from hcom) (show x.drive.record = some r from hr)]
    obtain ⟨hset, hc, rfl⟩ | ⟨hset, hc, rfl⟩ | ⟨hset, hc, rfl⟩ := hcase
    · have hnt : ¬ comb = r.target := by rw [hc, hstart, htarget]; exact hst
      have hn1 : ¬ comb = .c11 := by rw [hc, hstart]; exact hs1
      simp only [hset, Bool.false_eq_true, if_false, if_neg hnt, if_neg hn1, if_pos hc]
      rfl
    · have hnt : ¬ comb = r.target := by rw [hc, htarget]; exact Ne.symm ht1
      simp only [hset, Bool.false_eq_true, if_false, if_neg hnt, if_pos hc]
      rfl
    · simp only [hset, if_true, if_neg hc]
      rfl
  have hwrec : w.drive.record = some r := by
    rw [show w.drive = x.drive from htw .drive (by decide)]
    exact hr
  have hwop : headOp w = some op := by
    rw [headOp, show w.req = x.req from htw .req (by decide)]
    exact hop
  have hline : LineHeld s := hl.lineHeld
  have hhanded : DriveHanded r.object s w :=
    .after hsx (hk ▸ eventHanded_handed ((hsx.sameAsking (by decide)).held hline) k comb)
  rw [hev, endDrive_eq hwrec hwop, if_neg (by decide)] at hexec
  set u := endOperation op .failed reason (driveReported .failed r w) with hu
  have hpos : positionOf u k = positionFor comb (positionOf s k) :=
    (endOperation_driveReported_contactsStay op .failed reason r w k).2.trans (positionOf_eventHanded k comb x)
  have hwu : Touches [.now, .objects, .drive, .claims, .req, .counters, .view, .link, .faults] w u :=
    ((driveReported_touches .failed r w).trans (endOperation_touches op .failed reason _)).mono (by decide)
  refine ⟨u, hexec, hhanded.ended hline hdriven hown .failed reason, ?_, ?_, ?_, ?_⟩
  · rw [hu, endOperation_driveReported_now, show w.now = x.now from htw .now (by decide)]
    rfl
  · rw [hpos]
    exact positionTable_positionFor _ _
  · rw [show u.handover = w.handover from hwu .handover (by decide), hw, eventHanded_handover, hpos,
      positionOf_eventHanded]
    rfl
  · exact ((hsx.trans htw).trans hwu).mono (by decide)

/-- The end of a drive at a deadline, which no event precedes. -/
theorem endDrive_at_deadline {s : State} (hl : LinkCoherent s) {r : DriveRecord} (hr : s.drive.record = some r)
    {op : Operation} (hop : headOp s = some op) (hdriven : isDriven op = true) {c : OwnClaim}
    (hown : s.claims.own = some c) (o : OpOutcome) (reason : Reason) (e : Nat) :
    ∃ u, endDrive o reason (s.reachTime e) = nextHead u ∧ u.now = max s.now e ∧
      DriveEnded o (if o = .done then doneReason op else reason) r op c s u ∧ ContactsStay r.object s u ∧
      Touches [.now, .objects, .drive, .claims, .req, .counters, .view, .link, .faults] s u ∧
      (o ≠ .failed → Touches [.now, .objects, .drive, .claims, .req, .counters, .view, .link] s u) := by
  have hsx : Touches [.now] s (s.reachTime e) := reachTime_touches _ _
  refine ⟨_, endDrive_eq (s := s.reachTime e) hr hop o reason, endOperation_driveReported_now ..,
    (DriveHanded.of_touches hsx
    r.object).ended hl.lineHeld hdriven hown o _, ?_, ?_, fun ho => ?_⟩
  · exact (hsx.contactsStay (by decide) _).trans (endOperation_driveReported_contactsStay ..)
  · exact ((hsx.trans (driveReported_touches o r _)).trans (endOperation_touches _ _ _ _)).mono (by decide)
  · rw [driveReported_not_failed ho]
    exact ((hsx.trans (driveStopped_touches r _)).trans (endOperation_touches _ _ _ _)).mono (by decide)

/-- Settles O20: each expiry but that of the coil pulse ends the drive at its deadline. -/
theorem driveTimersEndTheDrive : Obligations.DriveTimersEndTheDrive := by
  intro s hl r hr op hop hdriven c hown
  have hend := endDrive_at_deadline hl hr hop hdriven hown
  refine ⟨fun hset e he => ?_, fun hset hdep e he => ⟨fun hf => ?_, ?_⟩, fun hset hdep htrav => ?_,
    fun hset e he => ?_, fun hset e he => ?_⟩
  · obtain ⟨u, hu, hnow, hended, hstay, htouch, -⟩ := hend .failed .noDeparture e
    exact ⟨u, by rw [exec_departureExpiry hr he hset, hu], hnow, hended, hstay, htouch⟩
  · obtain ⟨-, -, htravelling, -⟩ := hf r hr
    obtain ⟨hseen, hcontacts⟩ := htravelling hset
    exact ⟨hseen.1 hdep, hcontacts (hseen.1 hdep)⟩
  · obtain ⟨u, hu, hnow, hended, hstay, htouch, -⟩ := hend .failed .travelTimeout e
    exact ⟨u, by rw [exec_travelExpiry hr he hset, endOverdue, hdep, hu], hnow, hended, hstay, htouch⟩
  · obtain ⟨e, he⟩ := Option.ne_none_iff_exists'.1 htrav
    obtain ⟨e', he'⟩ := Option.ne_none_iff_exists'.1 hdep
    rw [exec_travelExpiry hr he hset, exec_departureExpiry hr he' hset, endOverdue, he']
    rfl
  · obtain ⟨u, hu, hnow, hended, hstay, -, htouch⟩ := hend .done .none e
    exact ⟨u, by rw [exec_settleExpiry hr he hset, hu], hnow, hended, hstay, htouch (by decide)⟩
  · refine ⟨_, exec_coilPulseExpiry hr he hset, rfl, rfl, ?_, ?_, ?_⟩
    · show (deenergize r.object r.dir s.drive).openOutputs = _
      rw [deenergize_eq]
    · show (deenergize r.object r.dir s.drive).closeOutputs = _
      rw [deenergize_eq]
    · exact (reachTime_touches _ _).trans (touches_withDrive _ _)

end Sys2Proof.Machine


namespace Sys2Proof.Machine

/-! ### Operations cancelled by a selector change (R138) -/

/-- The last local result of a LOCAL operation that a selector change cancels. -/
def selectorResult : LocalResult := { outcome := .cancelled, reason := .selector }

/-- Waiting operations have been cancelled one after the other, no claim withdrawn on the way (R134, R138). -/
structure CancelledAll (ops : List Operation) (s t : State) : Prop where
  req : t.req =
    { queue := s.req.queue.filter fun q => !ops.any fun op => isNamed op.requester op.tag q
      deferTimer := if ops.any (fun op => op.state == .deferred) then none else s.req.deferTimer
      lastLocal := if ops.any (fun op => op.source == .localPanel) then some selectorResult else s.req.lastLocal }
  counters : t.counters = { s.counters with txDropped := t.counters.txDropped }
  emits : Emits (ops.flatMap fun op => resultsFor op .cancelled .selector s)
    (if t.req.lastLocal = s.req.lastLocal then 0 else 1) s t
  claims : claimsQueued t.link = claimsQueued s.link
  touches : Touches [.link, .counters, .view, .req] s t

theorem CancelledAll.nil (s : State) : CancelledAll [] s s := by
  refine ⟨by simp, rfl, ?_, rfl, Touches.refl _ _⟩
  rw [if_pos rfl]
  exact SameBooks.emits ⟨rfl, rfl, rfl, rfl, rfl⟩

theorem resultsFor_congr {s t : State} (hc : t.copy = s.copy) (ho : t.objects = s.objects) (op : Operation)
    (o : OpOutcome) (r : Reason) : resultsFor op o r t = resultsFor op o r s := by
  simp only [resultsFor, ownFrame_congr hc, positionOf_congr ho]

theorem localAfter_selector (op : Operation) (s : State) :
    localAfter op .cancelled .selector s =
      if op.source == .localPanel then some selectorResult else s.req.lastLocal := by
  cases h : op.source <;> simp [localAfter, h, selectorResult]

/-- One operation more, cancelled first. -/
theorem CancelledAll.cons {s t : State} {op : Operation} {ops : List Operation} (hl : LineHeld s)
    (hw : isDriven op = false) (h : CancelledAll ops (endOperation op .cancelled .selector s) t) :
    CancelledAll (op :: ops) s t := by
  have heq : endOperation op .cancelled .selector s = answeredEnd op .cancelled .selector s := by
    rw [endOperation_eq, if_neg (by simp [hw])]
  rw [heq] at h
  have hemit := answeredEnd_emits op .cancelled .selector s
  obtain ⟨hreq, hcount, -, -, hclaims, htouch⟩ := answeredEnd_operationEnded op .cancelled .selector s
  set u := answeredEnd op .cancelled .selector s
  have hlocal : u.req.lastLocal = if op.source == .localPanel then some selectorResult else s.req.lastLocal := by
    rw [hreq]
    exact localAfter_selector op s
  have hlast : t.req.lastLocal =
      if ops.any (fun op => op.source == .localPanel) then some selectorResult else u.req.lastLocal := by rw [h.req]
  have hevents : localEvents op .cancelled .selector s + (if t.req.lastLocal = u.req.lastLocal then 0 else 1) =
      if t.req.lastLocal = s.req.lastLocal then 0 else 1 := by
    rw [localEvents, localAfter_selector, ← hlocal, hlast, hlocal]
    cases hs : op.source == .localPanel <;> cases ha : ops.any (fun op => op.source == .localPanel) <;> simp
  refine ⟨?_, ?_, ?_, h.claims.trans hclaims, (htouch.trans h.touches).mono (by decide)⟩
  · rw [h.req, hreq]
    simp only [List.filter_filter, List.any_cons, localAfter_selector, Bool.or_eq_true, beq_iff_eq]
    congr 1
    · exact List.filter_congr fun q _ => by rw [Bool.not_or, Bool.and_comm]
    · by_cases hd : op.state = .deferred <;> simp [hd]
    · by_cases hd : op.source = .localPanel <;> simp [hd]
  · rw [h.counters, hcount]
    rfl
  · have hall := hemit.next hl h.emits
    rw [hevents] at hall
    have hres (x : Operation) : resultsFor x .cancelled .selector u = resultsFor x .cancelled .selector s :=
      resultsFor_congr (htouch .copy (by decide)) (htouch .objects (by decide)) x _ _
    simpa only [List.flatMap_cons, hres] using hall

/-- Operations none of which is CLAIMING are cancelled without a withdrawal. -/
theorem cancelAll_cancelled {ops : List Operation} {s : State} (hl : LineHeld s)
    (h : ∀ op ∈ ops, isDriven op = false ∧ op.state ≠ .claiming) :
    CancelledAll ops s (ops.foldl cancelBySelector s) := by
  induction ops generalizing s with
  | nil => exact .nil s
  | cons op ops ih =>
    obtain ⟨hw, hst⟩ := h op List.mem_cons_self
    have heq : cancelBySelector s op = endOperation op .cancelled .selector s := by
      rw [cancelBySelector, withdrawFor, if_neg hst]
    have hl' : LineHeld (endOperation op .cancelled .selector s) := by
      rw [endOperation_eq, if_neg (by simp [hw])]
      exact ((answeredEnd_emits op .cancelled .selector s).asking hl).held hl
    rw [List.foldl_cons, heq]
    exact (ih hl' fun x hx => h x (List.mem_cons_of_mem _ hx)).cons hl hw

theorem mismatched_eq (sel : Selector) (s : State) : mismatched sel s = s.req.queue.filter (isCancelledBy sel) := by
  refine List.filter_congr fun op _ => ?_
  cases h : op.source <;> simp [isWaiting, isCancelledBy, sourceMatches, h, bne]

/-- In a queue without a name twice, the operations named by those that match are those that match. -/
theorem any_named_filter {q : List Operation} (hq : QueueOk q) (p : Operation → Bool) {x : Operation} (hx : x ∈ q) :
    ((q.filter p).any fun op => isNamed op.requester op.tag x) = p x := by
  rw [Bool.eq_iff_iff, List.any_eq_true]
  constructor
  · rintro ⟨op, hop, hn⟩
    obtain ⟨hmem, hp⟩ := List.mem_filter.1 hop
    rwa [← hq.eq_of_named hmem hx hn]
  · intro hp
    exact ⟨x, List.mem_filter.2 ⟨hx, hp⟩, by simp [isNamed]⟩

/-- Only the head of a queue can be other than QUEUED. -/
theorem any_filter_of_not_queued {s : State} (hq : QueueOk s.req.queue) (p : Operation → Bool) {st : OpState}
    (hst : st ≠ .queued) :
    ((s.req.queue.filter p).any fun op => op.state == st) = (headOp s).any fun op => p op && op.state == st := by
  obtain ⟨htail, -⟩ := hq
  unfold headOp
  cases h : s.req.queue with
  | nil => rfl
  | cons op rest =>
    rw [h] at htail
    have hrest : (rest.any fun op => p op && op.state == st) = false := by
      rw [List.any_eq_false]
      intro x hx
      simp [htail x hx, hst.symm]
    rw [List.any_filter, List.any_cons, hrest, Bool.or_false]
    rfl

/-- The head goes exactly when it is one of those that are cancelled. -/
theorem any_isHead_filter {s : State} (hq : QueueOk s.req.queue) (p : Operation → Bool) :
    (s.req.queue.filter p).any (isHead s) = (headOp s).any p := by
  cases hop : headOp s with
  | none => simp [isHead, hop]
  | some op =>
    obtain ⟨rest, hqueue⟩ := headOp_eq_some_iff.1 hop
    have := any_named_filter hq p (x := op) (by simp [hqueue])
    simpa [isHead, hop] using this

/-- The claim of a CLAIMING head that a selector change cancels, withdrawn (R129, R138). -/
def claimWithdrawn (sel : Selector) (s : State) : State :=
  if (headOp s).any (fun op => isCancelledBy sel op && op.state == .claiming) then
    withdrawClaim .operationEnded none s
  else s

theorem claimWithdrawn_req (sel : Selector) (s : State) : (claimWithdrawn sel s).req = s.req := by
  unfold claimWithdrawn
  split
  · exact withdrawClaim_touches _ _ s .req (by decide)
  · rfl

theorem claimWithdrawn_touches (sel : Selector) (s : State) :
    Touches [.link, .counters, .claims, .view] s (claimWithdrawn sel s) := by
  unfold claimWithdrawn
  split
  · exact (withdrawClaim_touches _ _ s).mono (by decide)
  · exact Touches.refl _ _

theorem claiming_of_any {s : State} {p : Operation → Bool}
    (h : (headOp s).any (fun op => p op && op.state == .claiming) = true) :
    ∃ op, headOp s = some op ∧ op.state = .claiming := by
  cases hop : headOp s with
  | none => simp [hop] at h
  | some op =>
    simp only [hop, Option.any_some, Bool.and_eq_true, beq_iff_eq] at h
    exact ⟨op, rfl, h.2⟩

/-- What the withdrawal before a selector change's cancellations does. -/
theorem claimWithdrawn_spec {s : State} (hd : DriveCoherent s) (sel : Selector) :
    Emits ((withdrawnBy sel s).map (bareRelease s)) (withdrawnBy sel s).length s (claimWithdrawn sel s) ∧
      (claimWithdrawn sel s).claims =
        (withdrawnBy sel s).foldl
          (fun (x : Claims) (c : OwnClaim) => { x with
            own := none, answers := [], window := none
            lastEnding := some { id := c.id, cause := .operationEnded, objection := none } }) s.claims ∧
      (claimWithdrawn sel s).counters = { s.counters with
        claimsWithdrawn :=
          if withdrawnBy sel s = [] then s.counters.claimsWithdrawn else bump s.counters.claimsWithdrawn
        txDropped := (claimWithdrawn sel s).counters.txDropped } ∧
      claimsQueued (claimWithdrawn sel s).link =
        (if withdrawnBy sel s = [] then claimsQueued s.link
          else if claimOnLine s.link then (claimsQueued s.link).map markRemoved else []) := by
  unfold withdrawnBy claimWithdrawn
  by_cases h : (headOp s).any (fun op => isCancelledBy sel op && op.state == .claiming) = true
  · simp only [if_pos h]
    obtain ⟨op, hop, hst⟩ := claiming_of_any h
    obtain ⟨c, hown, -, -⟩ := own_of_claiming hd hop hst
    rw [hown]
    exact ⟨withdrawClaim_emits hown _ _, withdrawClaim_claims hown _ _, withdrawClaim_counters hown _ _,
      withdrawClaim_claimsQueued hown _ _⟩
  · simp only [if_neg h]
    exact ⟨SameBooks.emits ⟨rfl, rfl, rfl, rfl, rfl⟩, rfl, rfl, rfl⟩

theorem head_of_not_queued {s : State} {op : Operation} (hq : QueueOk s.req.queue) (hmem : op ∈ s.req.queue)
    (hst : op.state ≠ .queued) : headOp s = some op :=
  eq_head_of_isHead hq hmem (by_contra fun hh => hst (queued_of_not_isHead hq hmem (by simpa using hh)))

theorem mem_tail_of_filter {α : Type} {p : α → Bool} {l : List α} {x : α} (h : x ∈ (l.filter p).tail) : x ∈ l.tail := by
  cases l with
  | nil => simp at h
  | cons y rest =>
    rw [List.filter_cons] at h
    split at h
    · exact List.mem_of_mem_filter h
    · exact List.mem_of_mem_filter (List.mem_of_mem_tail h)

theorem cancelled_of_selector {s : State} (hd : DriveCoherent s) (hl : LineHeld s) (sel : Selector) :
    CancelledAll (s.req.queue.filter (isCancelledBy sel)) (claimWithdrawn sel s)
      ((mismatched sel s).foldl cancelBySelector s) := by
  have hwait : ∀ op ∈ mismatched sel s, isDriven op = false := fun op hop => (mem_mismatched hop).2
  rw [← mismatched_eq]
  have hany := any_filter_of_not_queued hd.1 (isCancelledBy sel) (st := .claiming) (by decide)
  rw [← mismatched_eq] at hany
  unfold claimWithdrawn
  by_cases h : (headOp s).any (fun op => isCancelledBy sel op && op.state == .claiming) = true
  · rw [if_pos h]
    rw [h, List.any_eq_true] at hany
    obtain ⟨op, hmem, hst⟩ := hany
    have hst : op.state = .claiming := by simpa using hst
    have hop := head_of_not_queued hd.1 (mem_mismatched hmem).1 (by simp [hst])
    obtain ⟨c, hown, -, -⟩ := own_of_claiming hd hop hst
    have hlw := ((withdrawClaim_emits hown .operationEnded none).asking hl).held hl
    obtain ⟨rest, hlist⟩ := mismatched_of_head hop hmem
    have hrest : ∀ x ∈ rest, x ∈ s.req.queue.tail := fun x hx => by
      rw [mismatched_eq] at hlist
      exact mem_tail_of_filter (p := isCancelledBy sel) (by rw [hlist]; exact hx)
    rw [hlist] at hwait ⊢
    have hfirst : cancelBySelector s op = endOperation op .cancelled .selector
      (withdrawClaim .operationEnded none s) := by
      rw [cancelBySelector, withdrawFor, if_pos hst]
    have hw := hwait op List.mem_cons_self
    have hl' : LineHeld (endOperation op .cancelled .selector (withdrawClaim .operationEnded none s)) := by
      rw [endOperation_eq, if_neg (by simp [hw])]
      exact ((answeredEnd_emits op .cancelled .selector _).asking hlw).held hlw
    rw [List.foldl_cons, hfirst]
    refine .cons hlw hw (cancelAll_cancelled hl' fun x hx => ⟨hwait x (List.mem_cons_of_mem _ hx), ?_⟩)
    rw [hd.1.1 x (hrest x hx)]
    decide
  · rw [if_neg h]
    rw [Bool.eq_false_iff.2 h, List.any_eq_false] at hany
    exact cancelAll_cancelled hl fun op hop => ⟨hwait op hop, by simpa using hany op hop⟩

theorem exec_selectorChange {s : State} {sel : Selector} (h : s.handover.selectors.head? = some sel) :
    exec .selectorChange s =
      .next (takeSelector sel (s.withHandover { s.handover with selectors := s.handover.selectors.tail })) := by
  obtain ⟨rest, hq⟩ := List.head?_eq_some_iff.1 h
  have harm : exec .selectorChange s = execSelectorChange s := rfl
  simp [harm, execSelectorChange, hq]

/-- Settles O26: the claim of the head is withdrawn, the operations end one by one, and the next head starts after them. -/
theorem selectorChangesCancelMismatches : Obligations.SelectorChangesCancelMismatches := by
  intro s hd hlink sel hsel
  have hexec := exec_selectorChange hsel
  set x := s.withHandover { s.handover with selectors := s.handover.selectors.tail } with hx
  have hsx : Touches [.handover] s x := touches_withHandover _ _
  have hdx : DriveCoherent x := hd
  have hlx : LineHeld x := (hsx.sameAsking (by decide)).held hlink.lineHeld
  obtain ⟨hemit, hclaims, hcount, hqueued⟩ := claimWithdrawn_spec hdx sel
  have hall := cancelled_of_selector hdx hlx sel
  have hvreq := claimWithdrawn_req sel x
  have hxv := claimWithdrawn_touches sel x
  set v := claimWithdrawn sel x
  set u := (mismatched sel x).foldl cancelBySelector x
  have hreq := hall.req
  rw [hvreq] at hreq
  have hdefer := any_filter_of_not_queued hdx.1 (isCancelledBy sel) (st := .deferred) (by decide)
  have hbooks := Emits.after (hsx.sameBooks (by decide)) (hemit.next hlx hall.emits)
  refine ⟨u, ?_, ?_, ?_, ?_, ?_, ?_, ?_, ?_, ?_⟩
  · rw [hexec, takeSelector, mismatched_eq, any_isHead_filter hdx.1]
    rw [← mismatched_eq]
    rfl
  · rw [show u.handover = v.handover from hall.touches .handover (by decide)]
    exact hxv .handover (by decide)
  · rw [hreq, hdefer, List.any_filter]
    congr 1
    exact List.filter_congr fun q hq => by rw [any_named_filter hdx.1 _ hq]
  · have hres (op : Operation) : resultsFor op .cancelled .selector v = resultsFor op .cancelled .selector s :=
      resultsFor_congr (hxv .copy (by decide)) (hxv .objects (by decide)) op _ _
    have hframes := hbooks.frames
    simp only [hres] at hframes
    exact hframes
  · rw [show u.claims = v.claims from hall.touches .claims (by decide), hclaims]
    rfl
  · rw [hall.counters, hcount]
    rfl
  · have hevents := hbooks.events
    rw [hvreq] at hevents
    exact hevents
  · rw [hall.claims, hqueued]
    rfl
  · exact ((hsx.trans hxv).trans hall.touches).mono (by decide)

end Sys2Proof.Machine


namespace Sys2Proof.Machine

/-! ### Acts on a head that its step has written anew (R121, R128)

A head start and a grant write the travel limit, the bypass reason or the state of the head before they go on. What follows
reads of the queue the head's name alone, so it is stated for the state before that write. -/

/-- Two operations have the same name, requester and tag (R125). -/
def SameName (op op' : Operation) : Prop := op'.requester = op.requester ∧ op'.tag = op.tag

theorem setHead_withReq_of {w x : State} {op : Operation} (h : x.req = (setHead op w).req) :
    setHead op (x.withReq w.req) = x := by
  show x.withReq (setHead op w).req = x
  rw [← h]
  rfl

theorem Touches.withReq_of_setHead {ps : List Part} {op : Operation} {w x : State} (h : Touches ps (setHead op w) x) :
    Touches ps w (x.withReq w.req) := by
  intro p hp
  by_cases hr : p = .req
  · subst hr
    exact rfl
  · exact samePart.trans (samePart.trans (setHead_touches op w p (by simpa using hr)) (h p hp))
      (touches_withReq x _ p (by simpa using hr))

section Rewritten

variable {w : State} {op op' : Operation} (hop : headOp w = some op) (hname : SameName op op')
include hop hname

/-- An operation that ends leaves the same queue whatever its step has written into the head. -/
theorem OperationEnded.of_setHead {o : OpOutcome} {r : Reason} {t : State}
    (h : OperationEnded op' o r (setHead op' w) t) : OperationEnded op' o r w t := by
  obtain ⟨hreq, hcount, hframes, hevents, hqueued, htouch⟩ := h
  obtain ⟨rest, hq⟩ := headOp_eq_some_iff.1 hop
  obtain ⟨hr, ht⟩ := hname
  refine ⟨?_, hcount, hframes, hevents, hqueued, ((setHead_touches op' w).trans htouch).mono (by decide)⟩
  have hfilter : ((setHead op' w).req.queue.filter fun q => !isNamed op'.requester op'.tag q) =
      w.req.queue.filter fun q => !isNamed op'.requester op'.tag q := by
    rw [setHead_queue hq, hq, List.filter_cons_of_neg (by simp [isNamed]),
      List.filter_cons_of_neg (by simp [isNamed, hr, ht])]
  rw [hreq, hfilter]
  rfl

theorem endOperation_ended_of_setHead (hd : isDriven op' = true → w.claims.own = none) (o : OpOutcome) (r : Reason) :
    OperationEnded op' o r w (endOperation op' o r (setHead op' w)) :=
  .of_setHead hop hname (endOperation_operationEnded (s := setHead op' w) hd o r)

/-- A deferral of a head that its step has written anew (R131). -/
theorem deferHead_deferral_of_setHead (hd : isDriven op' = true → w.claims.own = none) (r : Reason) :
    Deferral op' r w (followUp (deferHead r (setHead op' w))) := by
  obtain ⟨hwithin, hbeyond⟩ := deferHead_deferral (s := setHead op' w) rfl hd r
  refine ⟨hwithin, fun hl => ?_⟩
  obtain ⟨u, hu, ht⟩ := hbeyond hl
  exact ⟨u, .of_setHead hop hname hu, ht⟩

end Rewritten

/-- A HELD claim released without travel, the queue left as it was before the write. -/
theorem released_of_setHead {w : State} (op' : Operation) {c : OwnClaim} (hown : w.claims.own = some c) :
    ∃ u, ReleasedUndriven c w u ∧ u.req = w.req ∧ u.claims.own = none ∧
      endHeldClaim false (setHead op' w) = setHead op' u := by
  have hreq : (endHeldClaim false (setHead op' w)).req = (setHead op' w).req :=
    endHeldClaim_touches false _ .req (by decide)
  obtain ⟨⟨hclaims, hcount, hframes, hevents, htouch⟩, hqueued⟩ :=
    endHeldClaim_releasedUndriven (s := setHead op' w) (c := c) hown
  refine ⟨(endHeldClaim false (setHead op' w)).withReq w.req,
    ⟨⟨hclaims, hcount, hframes, hevents, htouch.withReq_of_setHead⟩, hqueued⟩, rfl, ?_, (setHead_withReq_of hreq).symm⟩
  show (endHeldClaim false (setHead op' w)).claims.own = none
  rw [hclaims]

/-! ### Grant handling (R130) -/

theorem startDrive_drive (d : ObjDesc) (op : Operation) (s : State) :
    (startDrive d op s).drive =
      { record := some (newDrive (setCommanded op.object s) d op)
        openOutputs := if op.dir = .toOpen then s.drive.openOutputs ||| outputBit op.object else s.drive.openOutputs
        closeOutputs := if op.dir = .toClose then s.drive.closeOutputs ||| outputBit op.object else s.drive.closeOutputs } := by
  have hdrive : (setCommanded op.object s).drive = s.drive := rfl
  cases hd : op.dir <;> simp [startDrive, energize, hd, hdrive]

theorem startDrive_driveStarted {w : State} (d : ObjDesc) (op : Operation) :
    DriveStarted d op w (startDrive d op (setHead { op with state := .travelling } w)) := by
  refine ⟨rfl, ?_, fun j hj => ?_, ?_, ?_⟩
  · show objIn (setCommanded op.object _) op.object = _
    rw [setCommanded, objIn_putObj_same]
    rfl
  · show objIn (setCommanded op.object _) j = _
    rw [setCommanded, objIn_putObj_other _ _ hj]
    rfl
  · rw [startDrive_drive]
    simp only [newDrive]
    cases hd : op.dir <;> cases hk : d.kind <;> rfl
  · exact ((setHead_touches _ w).trans (startDrive_touches d op _)).mono (by decide)

/-- The grant of a head that its step has written anew is handled under the own claim (R130). -/
theorem grantHandling_handled {w : State} {op op' : Operation} {c : OwnClaim} (hop : headOp w = some op)
    (hname : SameName op op') (hown : w.claims.own = some c) :
    GrantHandled op' c w (followUp (grantHandling (setHead op' w))) := by
  have hsight : SameSight w (setHead op' w) := (setHead_touches op' w).sameSight (by decide)
  have heval := hsight.evaluate op'.object op'.dir op'.source
  unfold grantHandling
  rw [headOp_setHead]
  dsimp only
  rw [heval]
  set v := evaluate w op'.object op'.dir op'.source with hv
  refine ⟨fun href => ?_, fun href => ?_⟩
  · obtain ⟨u, hrel, hreq, hnone, heq⟩ := released_of_setHead op' hown
    have hopu : headOp u = some op := by rw [headOp, hreq]; exact hop
    rw [if_pos href, heq]
    exact ⟨u, _, hrel, endOperation_ended_of_setHead hopu hname (fun _ => hnone) _ _, rfl⟩
  · rw [if_neg href]
    have hname' : SameName op (evaluated v op') := hname
    have hdefer : ∃ u, ReleasedUndriven c w u ∧ Deferral (evaluated v op') .notReady u
        (followUp (deferHead .notReady (endHeldClaim false (setHead (evaluated v op') (setHead op' w))))) := by
      obtain ⟨u, hrel, hreq, hnone, heq⟩ := released_of_setHead (evaluated v op') hown
      have hopu : headOp u = some op := by rw [headOp, hreq]; exact hop
      refine ⟨u, hrel, ?_⟩
      rw [show setHead (evaluated v op') (setHead op' w) = setHead (evaluated v op') w from rfl, heq]
      exact deferHead_deferral_of_setHead hopu hname' (fun _ => hnone) _
    refine ⟨fun hready => ?_, fun hready d hd => ?_⟩
    · split
      · exact hdefer
      · rw [if_neg (by exact hready)]
        exact hdefer
    · have hd' : objDesc (setHead { op' with bypassReason := bypassReasonOf v } (setHead op' w)) op'.object =
        some d := hd
      rw [hd']
      dsimp only
      rw [if_pos (by exact hready)]
      exact startDrive_driveStarted d (evaluated v op')

end Sys2Proof.Machine


namespace Sys2Proof.Machine

/-! ### How many head starts follow (R122) -/

/-- A head that ends leaves a shorter queue. -/
def Shortens (n : Nat) (r : State × Bool) : Prop := r.2 = true → r.1.req.queue.length < n

theorem deferHead_shortens (r : Reason) (s : State) : Shortens s.req.queue.length (deferHead r s) := by
  unfold deferHead
  split
  · exact nofun
  · rename_i op hop
    split
    · exact nofun
    · exact fun _ => endOperation_length_lt hop rfl rfl _ _

theorem grantHandling_shortens (s : State) : Shortens s.req.queue.length (grantHandling s) := by
  unfold grantHandling
  split
  · exact nofun
  · rename_i op hop
    have hdefer (op' : Operation) :
        Shortens s.req.queue.length (deferHead .notReady (endHeldClaim false (setHead op' s))) := by
      have h := deferHead_shortens .notReady (endHeldClaim false (setHead op' s))
      rwa [endHeldClaim_queue, setHead_length hop] at h
    dsimp only
    split
    · intro _
      have h := endOperation_length_lt (op' := op) ((endHeldClaim_headOp false s).trans hop) rfl rfl .refused
        (evaluate s op.object op.dir op.source).reason
      rwa [endHeldClaim_queue] at h
    · split
      · exact hdefer _
      · split
        · exact nofun
        · exact hdefer _

theorem claimStep_shortens (op : Operation) (nodes : NodeSet) (s : State) :
    Shortens s.req.queue.length (claimStep op nodes s) := by
  have hreq := startClaim_req op nodes s
  unfold claimStep
  split <;> rename_i u h <;> rw [h] at hreq <;> rw [← show u.req = s.req from hreq]
  · exact nofun
  · exact grantHandling_shortens u
  · exact deferHead_shortens _ u
  · exact deferHead_shortens _ u

theorem startHead_shortens {s : State} {op : Operation} (hop : headOp s = some op) :
    Shortens s.req.queue.length (startHead op s) := by
  unfold startHead
  split
  · exact fun _ => endOperation_length_lt hop rfl rfl _ _
  · split
    · exact fun _ => endOperation_length_lt hop rfl rfl _ _
    · rename_i l _
      have hlen := setHead_length (op' := { op with travelLimit := some l }) hop
      dsimp only
      split
      · rw [← hlen]
        exact fun _ => endOperation_length_lt (headOp_setHead _ _) rfl rfl _ _
      · rename_i nodes _
        generalize bypassReasonOf _ = b
        set op₁ : Operation := { op with travelLimit := some l }
        have h := claimStep_shortens { op₁ with bypassReason := b } nodes
          (setHead { op₁ with bypassReason := b } (setHead op₁ s))
        rwa [setHead_length (headOp_setHead _ _), hlen] at h

theorem headStart_of_head {s : State} {op : Operation} (hop : headOp s = some op) :
    headStart s = startHead op (seePositions op s) := by rw [headStart, hop]

theorem seePositions_eq (op : Operation) (s : State) : seePositions op s = seenBy op s := by
  unfold seePositions seenBy
  split <;> rfl

theorem headStart_shortens {s : State} {op : Operation} (hop : headOp s = some op) :
    Shortens s.req.queue.length (headStart s) := by
  rw [headStart_of_head hop, seePositions_eq]
  exact startHead_shortens (s := seenBy op s) hop

/-- As many head starts as the queue holds operations suffice. -/
theorem runHeads_of_le {n m : Nat} {s : State} (hn : s.req.queue.length ≤ n) (hm : s.req.queue.length ≤ m) :
    runHeads n s = runHeads m s := by
  induction n generalizing m s with
  | zero =>
    have hnone : headOp s = none := by
      have : s.req.queue = [] := List.length_eq_zero_iff.1 (Nat.le_zero.1 hn)
      simp [headOp, this]
    cases m with
    | zero => rfl
    | succ m => simp [runHeads, hnone]
  | succ n ih =>
    cases hop : headOp s with
    | none => cases m <;> simp [runHeads, hop]
    | some op =>
      have hshort := headStart_shortens hop
      cases m with
      | zero =>
        have : s.req.queue = [] := List.length_eq_zero_iff.1 (Nat.le_zero.1 hm)
        simp [headOp, this] at hop
      | succ m =>
        simp only [runHeads, hop]
        split
        · rename_i hflag
          have := hshort hflag
          exact ih (by omega) (by omega)
        · rfl

/-- The next head's start, and what follows it (R122). -/
theorem nextHead_of_head {s : State} {op : Operation} (hop : headOp s = some op) :
    nextHead s = followUp (headStart s) := by
  obtain ⟨rest, hq⟩ := headOp_eq_some_iff.1 hop
  have hshort := headStart_shortens hop
  unfold nextHead followUp
  rw [hq, List.length_cons, runHeads, hop]
  dsimp only
  split
  · rename_i hflag
    have hlt := hshort hflag
    rw [hq, List.length_cons] at hlt
    exact runHeads_of_le (by omega) le_rfl
  · rfl

/-! ### The steps of a head start (R128) -/

theorem startRefusal_iff (p : Position) (dir : Direction) (r : Reason) :
    StartRefusal p dir r ↔ positionRefusal p dir = some r := by
  cases p <;> cases dir <;> simp [StartRefusal, positionRefusal, targetPosition, eq_comm]

theorem travelLimit_of_travelLimitIs {s : State} {d : ObjDesc} {l : Nat} (h : TravelLimitIs s d l) :
    travelLimit s d = some l := by
  obtain ⟨r, hr, p, hp, t, ht, a, ha, rfl⟩ := h
  have hprofile : profileOf r (driveKindOf d.kind) = profileFor r d.kind := by cases hk : d.kind <;> rfl
  unfold travelLimit
  rw [hr]
  dsimp only
  rw [hp, ht]
  dsimp only
  rw [hprofile, ha]
  rfl

theorem travelLimit_of_travelUnrated {s : State} {d : ObjDesc} (h : TravelUnrated s d) : travelLimit s d = none := by
  obtain ⟨r, hr, hcase⟩ := h
  have hprofile : profileOf r (driveKindOf d.kind) = profileFor r d.kind := by cases hk : d.kind <;> rfl
  unfold travelLimit
  rw [hr]
  dsimp only
  rcases hcase with hp | ht | ⟨p, hp, t, ht, ha⟩
  · rw [hp]
  · rw [ht]
    cases supplyPercent s.supply r.nominal <;> rfl
  · rw [hp, ht]
    dsimp only
    rw [hprofile, ha]
    rfl

/-- An empty claim set, HELD at once (R99). -/
theorem startClaim_empty (op : Operation) (s : State) :
    startClaim op 0 s =
      (countGranted (ownChanged (s.withClaims { s.claims with
        own := some (newClaim s op 0), nextId := s.claims.nextId + 1 })), .held) := rfl

theorem startClaim_foreign {op : Operation} {nodes : NodeSet} {s : State} (hn : nodes ≠ 0)
    (hf : foreignOverlap s nodes = true) : startClaim op nodes s = (s, .foreign) := by
  rw [startClaim, if_neg hn, if_pos hf]

theorem startClaim_linkBusy {op : Operation} {nodes : NodeSet} {s : State} (hn : nodes ≠ 0)
    (hf : foreignOverlap s nodes = false) (hq : claimQueued s.link = true) :
    startClaim op nodes s = (s, .linkBusy) := by
  rw [startClaim, if_neg hn, if_neg (by simp [hf]), if_pos hq]

/-- The claim asked for an operation, before its CLAIM is counted as an own-content event. -/
def claimHanded (op : Operation) (nodes : NodeSet) (s : State) : State :=
  handClaim s.claims.nextId (claimFrame s (newClaim s op nodes)) s

theorem startClaim_claiming {op : Operation} {nodes : NodeSet} {s : State} (hn : nodes ≠ 0)
    (hf : foreignOverlap s nodes = false) (hq : claimQueued s.link = false) :
    startClaim op nodes s =
      (ownChanged ((claimHanded op nodes s).withClaims { (claimHanded op nodes s).claims with
        own := some (newClaim s op nodes), nextId := (claimHanded op nodes s).claims.nextId + 1
        answers := freshAnswers (claimHanded op nodes s) nodes }), .claiming) := by
  rw [startClaim, if_neg hn, if_neg (by simp [hf]), if_neg (by simp [hq])]
  rfl

theorem newClaim_eq {s : State} {op : Operation} {l : Nat} (hl : op.travelLimit = some l) (nodes : NodeSet) :
    newClaim s op nodes = claimFor s op l nodes (nodes == 0) (if nodes = 0 then 0 else 1) := by
  simp only [newClaim, claimFor, holdLimitOf, hl, Option.getD_some, Config.holdMargin]

theorem claimStep_claiming {w : State} {op' : Operation} {l : Nat} (hl : op'.travelLimit = some l) {nodes : NodeSet}
    (hn : nodes ≠ 0) (hf : meetsForeign w nodes = false) (hq : claimsQueued w.link = [])
      (ht : transmits w.start.phase = true) :
    ClaimStarted op' l nodes w (followUp (claimStep op' nodes (setHead op' w))) := by
  set x := setHead op' w with hx
  have hnew : newClaim x op' nodes = claimFor w op' l nodes false 1 := by
    rw [newClaim_eq (s := x) hl, if_neg hn, show (nodes == 0) = false by simpa using hn]
    rfl
  have hstart := startClaim_claiming (op := op') (s := x) hn hf (claimQueued_eq_false_iff.2 hq)
  set h := claimHanded op' nodes x with hh
  have htouch : Touches [.link] x h := handClaim_touches _ _ _
  have hclaims : h.claims = w.claims := htouch .claims (by decide)
  have hreq : h.req = x.req := htouch .req (by decide)
  have hview : h.view = w.view := htouch .view (by decide)
  set y := h.withClaims { h.claims with
    own := some (newClaim x op' nodes), nextId := h.claims.nextId + 1, answers := freshAnswers h nodes } with hy
  have hyo := ownChanged_touches y
  have hstep : followUp (claimStep op' nodes x) = setHead { op' with state := .claiming } (ownChanged y) := by
    rw [claimStep, hstart]
    rfl
  rw [hstep]
  have hyreq : (ownChanged y).req = x.req := Eq.trans (hyo .req (by decide)) hreq
  refine ⟨?_, ?_, ?_, ?_, ?_, ?_⟩
  · show (ownChanged y).claims = _
    rw [show (ownChanged y).claims = y.claims from hyo .claims (by decide)]
    show { h.claims with
      own := some (newClaim x op' nodes), nextId := h.claims.nextId + 1, answers := freshAnswers h nodes } = _
    rw [hclaims, hnew, freshAnswers, concernedStations, hview]
    rfl
  · show claimsQueued (ownChanged y).link = _
    rw [ownChanged_claimsQueued]
    have hqueued := handClaim_claimsQueued (s := x) x.claims.nextId (claimFrame x (newClaim x op' nodes)) ht hq
    rw [hnew] at hqueued
    rw [show claimsQueued y.link = claimsQueued h.link from rfl, hh, claimHanded, hnew, hqueued]
    rfl
  · simp only [setHead, State.withReq_req, hyreq]
    rfl
  · have hask : SameAsking x h := handClaim_sameAsking _ _ x
    have hzero : OwnEvents x h 0 := ownEvents_zero (htouch .view (by decide)) (handClaim_markers _ _ x)
    have hev : OwnEvents h (ownChanged y) 1 :=
      OwnEvents.after (sameAsking_of_link rfl rfl rfl rfl) rfl rfl (ownChanged_ownEvents y)
    have := hzero.add hask hev
    exact this
  · show (ownChanged y).link.urgent = _
    rw [(ownChanged_keeps y).1]
    exact handClaim_urgent _ _ x
  · exact ((((setHead_touches op' w).trans htouch).trans ((touches_withClaims h _).trans hyo)).trans
      (setHead_touches _ _)).mono (by decide)

section ClaimStep

variable {w : State} {op op' : Operation} {l : Nat} (hop : headOp w = some op) (hname : SameName op op')
  (hl : op'.travelLimit = some l)
include hop hname hl

theorem claimStep_empty :
    ∃ u, EmptyClaimHeld op' l w u ∧ GrantHandled op' (claimFor w op' l 0 true 0) u
      (followUp (claimStep op' 0 (setHead op' w))) := by
  set x := setHead op' w with hx
  set c := claimFor w op' l 0 true 0 with hc
  have hnew : newClaim x op' 0 = c := newClaim_eq (s := x) hl 0
  set y := x.withClaims { x.claims with own := some c, nextId := x.claims.nextId + 1 } with hy
  set v := countGranted (ownChanged y) with hv
  have hstep : claimStep op' 0 x = grantHandling v := by
    rw [claimStep, startClaim_empty, hnew]
  have hyo := ownChanged_touches y
  have hxv : Touches [.claims, .view, .link, .counters] x v :=
    (((touches_withClaims x _).trans hyo).trans (countGranted_touches _)).mono (by decide)
  have hclaims : v.claims = { w.claims with own := some c, nextId := w.claims.nextId + 1 } := hyo .claims (by decide)
  have hcount : (ownChanged y).counters = w.counters := hyo .counters (by decide)
  refine ⟨v.withReq w.req, ⟨hclaims, ?_, ?_, (ownChanged_keeps y).1, ownChanged_claimsQueued y,
    (hxv.mono (by decide)).withReq_of_setHead⟩, ?_⟩
  · show { (ownChanged y).counters with claimsGranted := bump (ownChanged y).counters.claimsGranted } = _
    rw [hcount]
  · exact (OwnEvents.then (ownChanged_ownEvents y) rfl rfl : OwnEvents y v 1)
  · have hv' : setHead op' (v.withReq w.req) = v := setHead_withReq_of (hxv .req (by decide))
    rw [hstep, ← hv']
    refine grantHandling_handled (w := v.withReq w.req) hop hname ?_
    show v.claims.own = some c
    rw [hclaims]

/-- The claim step, for a head that its head start has written anew (R99, R128). -/
theorem claimStep_asked (hd : isDriven op' = false) (nodes : NodeSet) :
    ClaimAsked op' l nodes w (followUp (claimStep op' nodes (setHead op' w))) := by
  have hdefer (r : Reason) : Deferral op' r w (followUp (deferHead r (setHead op' w))) :=
    deferHead_deferral_of_setHead hop hname (fun h => by simp [hd] at h) r
  refine ⟨fun hn => ?_, fun hn hf => ?_, fun hn hf hq => ?_, fun hn hf hq ht => ?_⟩
  · subst hn
    exact claimStep_empty hop hname hl
  · rw [claimStep, startClaim_foreign (s := setHead op' w) hn hf]
    exact hdefer _
  · have hq' : claimQueued (setHead op' w).link = true := by
      rw [← Bool.not_eq_false, claimQueued_eq_false_iff]
      exact hq
    rw [claimStep, startClaim_linkBusy (s := setHead op' w) hn hf hq']
    exact hdefer _
  · exact claimStep_claiming hl hn hf hq ht

end ClaimStep

/-- The head start of a waiting head (R128). -/
theorem startHead_headStarted {s : State} {op : Operation} (hop : headOp s = some op) (hw : isDriven op = false) :
    HeadStarted op s (followUp (startHead op (seenBy op s))) := by
  have hsight : SameSight s (seenBy op s) := (touches_withHandover s _).sameSight (by decide)
  have hpos := hsight.positionOf op.object
  have hop' : headOp (seenBy op s) = some op := hop
  have hends (o : OpOutcome) (r : Reason) : EndsAtStart op o r (seenBy op s)
    (nextHead (endOperation op o r (seenBy op s))) :=
    ⟨_, endOperation_operationEnded (fun h => by simp [hw] at h) o r, rfl⟩
  refine ⟨fun r hr => ?_, fun hno d hd => ?_⟩
  · rw [startHead, hpos, (startRefusal_iff _ _ _).1 hr]
    exact hends _ _
  have hnone : positionRefusal (positionOf (seenBy op s) op.object) op.dir = none := by
    rw [hpos]
    exact Option.eq_none_iff_forall_ne_some.2 fun r hr => hno r ((startRefusal_iff _ _ _).2 hr)
  have htravel : headTravel (seenBy op s) op = travelLimit s d := by
    rw [headTravel, hsight.objDesc, hd]
    rfl
  refine ⟨fun hun => ?_, fun l hl => ?_⟩
  · rw [startHead, hnone]
    dsimp only
    rw [htravel, travelLimit_of_travelUnrated hun]
    exact hends _ _
  set op₁ : Operation := { op with travelLimit := some l } with hop₁
  have hsight₁ : SameSight s (setHead op₁ (seenBy op s)) :=
    hsight.trans ((setHead_touches op₁ _).sameSight (by decide))
  have heval := hsight₁.evaluate op.object op.dir op.source
  have hw₁ : isDriven op₁ = false := hw
  rw [startHead, hnone]
  dsimp only
  rw [htravel, travelLimit_of_travelLimitIs hl]
  dsimp only
  rw [heval]
  refine ⟨fun hn => ?_, fun nodes hn => ?_⟩
  · rw [hn]
    exact ⟨_, endOperation_ended_of_setHead (op' := op₁) hop' ⟨rfl, rfl⟩ (fun h => by simp [hw₁] at h) _ _, rfl⟩
  · rw [hn]
    exact claimStep_asked (op' := { op₁ with bypassReason := bypassOf (evaluate s op.object op.dir op.source) })
      hop' ⟨rfl, rfl⟩ rfl hw nodes

theorem exec_deferExpiry {s : State} {op : Operation} {e : Nat} (he : s.req.deferTimer = some e)
    (hop : headOp s = some op) (hst : op.state = .deferred) :
    exec .deferExpiry s = .next (nextHead (stopDeferTimer (s.reachTime e))) := by
  have harm : exec .deferExpiry s = execDeferExpiry s := rfl
  simp [harm, execDeferExpiry, hop, he, hst]

/-- Settles O28. -/
theorem deferExpiryTakesTheHeadStart : Obligations.DeferExpiryTakesTheHeadStart := by
  refine ⟨fun s e he op hop hst => exec_deferExpiry he hop hst, fun s _ op hop hst => ?_⟩
  have hw : isDriven op = false := by rcases hst with h | h <;> simp [isDriven, h]
  rw [nextHead_of_head hop, headStart_of_head hop, seePositions_eq]
  exact startHead_headStarted hop hw

end Sys2Proof.Machine


namespace Sys2Proof.Machine

/-! ### The window expiry (R102, R104) -/

theorem exec_windowExpiry {s : State} {d : Nat} {own : OwnClaim} (hd : s.claims.window = some d)
    (hown : s.claims.own = some own) (hheld : own.held = false) :
    exec .windowExpiry s = .next (judgeWindow (stopWindow (s.reachTime d))) := by
  have harm : exec .windowExpiry s = execWindowExpiry s := rfl
  simp [harm, execWindowExpiry, hown, hd, hheld]

theorem answersGrant_iff (s : State) : answersGrant s = true ↔ AllAssented s := by
  unfold answersGrant AllAssented
  rw [List.all_eq_true]
  refine forall₂_congr fun e _ => ?_
  cases entryOf s e.1 <;> simp

theorem setHead_self {s : State} {op : Operation} (hop : headOp s = some op) : setHead op s = s := by
  obtain ⟨rest, hq⟩ := headOp_eq_some_iff.1 hop
  have hreq : s.req = (setHead op s).req := by
    simp only [setHead, State.withReq_req, hq, List.tail_cons]
    rw [← hq]
  exact setHead_withReq_of hreq

theorem grantClaim_spec (c : OwnClaim) (s : State) : Granted c s (grantClaim c s) := by
  set y := countGranted
    (s.withClaims { s.claims with own := some { c with held := true, round := 0 }, answers := [], window := none })
  have htouch := ownChanged_touches y
  exact ⟨htouch .claims (by decide), htouch .counters (by decide), (ownChanged_ownEvents y).after
    (sameAsking_of_link rfl rfl rfl rfl) rfl rfl, (ownChanged_keeps y).1, ownChanged_claimsQueued y,
    (grantClaim_touches c s).mono (by decide)⟩

/-- A claim that is granted to the head, and its grant handled (R107, R130). -/
theorem granted_handled {s : State} {op : Operation} (c : OwnClaim) (hop : headOp s = some op) :
    Granted c s (grantClaim c s) ∧
      GrantHandled op { c with held := true, round := 0 } (grantClaim c s)
        (followUp (grantHandling (grantClaim c s))) := by
  have hg := grantClaim_spec c s
  have hop' : headOp (grantClaim c s) = some op := by
    rw [headOp, show (grantClaim c s).req = s.req from grantClaim_touches c s .req (by decide)]
    exact hop
  have hown : (grantClaim c s).claims.own = some { c with held := true, round := 0 } := by rw [hg.1]
  have h := grantHandling_handled hop' ⟨rfl, rfl⟩ hown
  rw [setHead_self hop'] at h
  exact ⟨hg, h⟩

theorem adjustedAnswers_keys (s : State) (nodes : NodeSet) :
    (adjustedAnswers s nodes).map (·.1) = concernedStations s nodes := by
  simp [adjustedAnswers, Function.comp_def]

theorem tableGet_map_mem {α : Type} (f : Nat → α) {l : List Nat} {j : Nat} (h : j ∈ l) :
    tableGet (l.map fun st => (st, f st)) j = some (f j) := by
  induction l with
  | nil => cases h
  | cons x l ih =>
    rw [List.map_cons, tableGet]
    split
    · rename_i hx
      rw [hx]
    · rename_i hx
      exact ih ((List.mem_cons.1 h).resolve_left (Ne.symm hx))

theorem adjustedAnswers_get {s : State} {nodes : NodeSet} {j : Nat} (h : j ∈ concernedStations s nodes) :
    tableGet (adjustedAnswers s nodes) j = some ((tableGet s.claims.answers j).getD .awaiting) :=
  tableGet_map_mem _ h

/-- A new round (R104). -/
theorem newRound_spec {s : State} (c : OwnClaim) (hq : claimsQueued s.link = []) (ht : transmits s.start.phase = true) :
    (newRound c s).claims = { s.claims with
        own := some { c with round := c.round + 1 }, answers := adjustedAnswers s c.nodes, window := none } ∧
      (newRound c s).link.normal = s.link.normal ++ [.claim c.id (ownFrame s .claim 0
        (claimBody c.id (c.round + 1) c.cls c.deferCount c.holdLimit c.nodes)) 0 false] ∧
      (newRound c s).link.urgent = s.link.urgent := by
  set y := s.withClaims { s.claims with
    own := some { c with round := c.round + 1 }, answers := adjustedAnswers s c.nodes, window := none } with hy
  have hround : newRound c s = handClaim c.id (claimFrame y { c with round := c.round + 1 }) y := rfl
  rw [hround]
  refine ⟨handClaim_touches _ _ y .claims (by decide), ?_, handClaim_urgent _ _ y⟩
  have hpass : (transmits y.start.phase && !claimQueued y.link) = true := by
    rw [show transmits y.start.phase = true from ht, show claimQueued y.link = false from claimQueued_eq_false_iff.2 hq]
    rfl
  rw [handClaim, if_pos hpass]
  simp only [State.pick_link, pick_normal, State.withLink_link]
  rfl

/-- Settles O45: the rows of the judgement. -/
theorem windowExpiriesAreJudged : Obligations.WindowExpiriesAreJudged := by
  intro s d hd own hown hheld
  have hexec := exec_windowExpiry hd hown hheld
  set u := stopWindow (s.reachTime d) with hu
  have hown' : u.claims.own = some own := hown
  have hgrant : answersGrant u = true ↔ AllAssented s := answersGrant_iff u
  have hbypass : bypassHolds u = bypassHolds s :=
    (((reachTime_touches s d).trans (touches_withClaims _ _)).sameSight (by decide)).bypassHolds
  refine ⟨u, rfl, fun hrow op hop => ?_, fun hno hround hq ht => ?_, fun hno hround hrow op hop => ?_⟩
  · obtain ⟨hg, hh⟩ := granted_handled (s := u) own hop
    have hjudge : judgeWindow u = followUp (grantHandling (grantClaim own u)) := by
      rw [judgeWindow, hown']
      dsimp only
      rw [if_neg (by simp [hheld])]
      by_cases hall : answersGrant u = true
      · rw [if_pos hall]
      · obtain ⟨hlast, hlocal, hby⟩ := hrow.resolve_left fun h => hall (hgrant.2 h)
        rw [if_neg hall, if_neg (by simp only [Config.lastRound]; omega), if_pos ⟨hlocal, by rw [hbypass]; exact hby⟩]
    rw [hjudge] at hexec
    exact ⟨_, _, hexec, hg, hh⟩
  · have hjudge : judgeWindow u = newRound own u := by
      rw [judgeWindow, hown']
      dsimp only
      rw [if_neg (by simp [hheld]), if_neg (mt hgrant.1 hno), if_pos (by exact hround)]
    rw [hjudge] at hexec
    obtain ⟨hclaims, hnormal, hurgent⟩ := newRound_spec (s := u) own hq ht
    have hkeys := adjustedAnswers_keys u own.nodes
    refine ⟨_, hexec, ?_, ?_, fun j hj => ?_, hnormal, hurgent, (newRound_touches own u).mono (by decide)⟩
    · rw [hclaims]
      rfl
    · rw [hclaims]
      exact hkeys
    · rw [hclaims]
      exact adjustedAnswers_get (s := u) hj
  · have hjudge : judgeWindow u = withdrawAndReport (.defer .noAnswer) none u := by
      rw [judgeWindow, hown']
      dsimp only
      rw [if_neg (by simp [hheld]), if_neg (mt hgrant.1 hno), if_neg (by simp only [Config.lastRound]; omega), if_neg]
      rintro ⟨hlocal, hby⟩
      rw [hbypass] at hby
      rcases hrow with h | h
      · simp [hlocal] at h
      · simp [hby] at h
    rw [hjudge] at hexec
    obtain ⟨v, hw, hdef⟩ := withdrawAndReport_defers (s := u) hown' hop .noAnswer none
    exact ⟨v, _, hexec, hw, hdef⟩

/-! ### The re-evaluation of a CLAIMING claim (R105) -/

theorem exec_viewChange {s : State} {v : ViewReport} (h : s.handover.views.head? = some v) :
    exec .viewChange s =
      .next (takeViewReport v (s.withHandover { s.handover with views := s.handover.views.tail })) := by
  obtain ⟨rest, hq⟩ := List.head?_eq_some_iff.1 h
  have harm : exec .viewChange s = execViewChange s := rfl
  simp [harm, execViewChange, hq]

/-- The report taken, with a record gone where its station is STALE, before the re-evaluation (R116; log 15). -/
def viewReported (v : ViewReport) (s : State) : State :=
  if v.state = some .stale then removeForeign v.station s else s

theorem viewReported_at (v : ViewReport) (s : State) : ForeignAt v.station s (viewReported v s) := by
  unfold viewReported
  split
  · exact removeForeign_at _ s
  · exact .refl _ s

theorem viewReported_touches (v : ViewReport) (s : State) : Touches [.claims] s (viewReported v s) := by
  unfold viewReported
  split
  · exact removeForeign_touches _ s
  · exact (Touches.refl _ s)

theorem takeViewReport_idle {v : ViewReport} {s : State}
    (h : (viewReported v s).claims.own = none ∨ ∃ own, (viewReported v s).claims.own = some own ∧ own.held = true) :
    takeViewReport v s = viewReported v s := by
  unfold takeViewReport
  change (match (viewReported v s).claims.own with
    | none => viewReported v s
    | some c => if c.held then viewReported v s else reevaluate c (viewReported v s)) = _
  rcases h with h | ⟨own, h, hheld⟩ <;> rw [h]
  exact if_pos hheld

theorem takeViewReport_claiming {v : ViewReport} {s : State} {own : OwnClaim}
    (h : (viewReported v s).claims.own = some own) (hheld : own.held = false) :
    takeViewReport v s = reevaluate own (viewReported v s) := by
  unfold takeViewReport
  change (match (viewReported v s).claims.own with
    | none => viewReported v s
    | some c => if c.held then viewReported v s else reevaluate c (viewReported v s)) = _
  rw [h]
  exact if_neg (by simp [hheld])

theorem setBypassReason_eq (r : EvalResult) (s : State) : setBypassReason r s = headEvaluated r s := by
  unfold setBypassReason headEvaluated
  cases s.req.queue <;> rfl

theorem headOp_headEvaluated {s : State} {op : Operation} (hop : headOp s = some op) (r : EvalResult) :
    headOp (headEvaluated r s) = some (evaluated r op) := by
  obtain ⟨rest, hq⟩ := headOp_eq_some_iff.1 hop
  simp [headOp, headEvaluated, hq]

/-- A withdrawal whose report ends the head (R109, R129). -/
theorem withdrawAndReport_refused {s : State} {own : OwnClaim} {op : Operation} (hown : s.claims.own = some own)
    (hop : headOp s = some op) (r : Reason) :
    ∃ w x, Withdrawn own (.reason r) none s w ∧ OperationEnded op .refused r w x ∧
      withdrawAndReport (.refused r) none s = nextHead x := by
  have hop' : headOp (withdrawClaim (.reason r) none s) = some op := by rw [withdrawClaim_headOp, hop]
  refine ⟨_, _, withdrawClaim_withdrawn hown _ _,
    endOperation_operationEnded (fun _ => withdrawClaim_own (.reason r) none s) _ _, ?_⟩
  unfold withdrawAndReport takeReport
  rw [show headOp (withdrawClaim (reportCause (.refused r)) none s) = some op from hop']
  rfl

theorem withdrawAndReport_positionChanged {s : State} {own : OwnClaim} {op : Operation}
    (hown : s.claims.own = some own) (hop : headOp s = some op) :
    ∃ w x, Withdrawn own (.reason .positionChanged) none s w ∧ OperationEnded op .failed .positionChanged w x ∧
      withdrawAndReport .positionChanged none s = nextHead x := by
  have hop' : headOp (withdrawClaim (.reason .positionChanged) none s) = some op := by rw [withdrawClaim_headOp, hop]
  refine ⟨_, _, withdrawClaim_withdrawn hown _ _,
    endOperation_operationEnded (fun _ => withdrawClaim_own (.reason .positionChanged) none s) _ _, ?_⟩
  unfold withdrawAndReport takeReport
  rw [show headOp (withdrawClaim (reportCause .positionChanged) none s) = some op from hop']
  rfl

/-- Settles O44: the record goes first, then the rows of the re-evaluation. -/
theorem viewChangesReevaluateTheClaim : Obligations.ViewChangesReevaluateTheClaim := by
  intro s v hv
  have hexec := exec_viewChange hv
  set x := s.withHandover { s.handover with views := s.handover.views.tail } with hx
  have hat := viewReported_at v x
  have htouch := viewReported_touches v x
  set u := viewReported v x with hu
  have hsu : Touches [.handover, .claims] s u := (touches_withHandover s _).trans htouch
  have hsight : SameSight s u := hsu.sameSight (by decide)
  have hown' : u.claims.own = s.claims.own := by rw [hat.claims]; rfl
  have hopu : headOp u = headOp s := by rw [headOp, show u.req = s.req from hsu .req (by decide), headOp]
  refine ⟨u, hsu, htouch .handover (by decide), hat.claims, fun hst => ?_, hat.others, fun hst => ?_, fun hno => ?_,
    fun own hown hheld => ?_⟩
  · rw [hu, viewReported, if_pos hst]
    exact tableGet_del_same _ _
  · rw [hu, viewReported, if_neg hst]
    rfl
  · rw [hexec, takeViewReport_idle (by rw [← hu, hown']; exact hno)]
  rw [hown] at hown'
  rw [takeViewReport_claiming hown' hheld, ← hu] at hexec
  refine ⟨fun hpos op hop => ?_, fun hpos r hr => ?_⟩
  · rw [reevaluate, if_pos (by rw [hsight.positionOf]; exact hpos)] at hexec
    obtain ⟨w, y, hw, hend, heq⟩ := withdrawAndReport_positionChanged hown' (hopu.trans hop)
    exact ⟨w, y, hw, hend, by rw [hexec, heq]⟩
  rw [reevaluate, if_neg (by rw [hsight.positionOf]; exact not_not.2 hpos)] at hexec
  dsimp only at hexec
  rw [hsight.evaluate, ← hr, setBypassReason_eq] at hexec
  have hownr : (headEvaluated r u).claims.own = some own := hown'
  refine ⟨fun hn op hop => ?_, fun nodes hn hne op hop => ?_, fun hn => ?_⟩
  · rw [hn] at hexec
    obtain ⟨w, y, hw, hend, heq⟩ := withdrawAndReport_refused hownr (headOp_headEvaluated (hopu.trans hop) r) r.reason
    exact ⟨w, y, hw, hend, by rw [hexec, heq]⟩
  · rw [hn] at hexec
    dsimp only at hexec
    rw [if_pos hne] at hexec
    obtain ⟨w, hw, hdef⟩ := withdrawAndReport_defers hownr (headOp_headEvaluated (hopu.trans hop) r) .scope none
    exact ⟨w, _, hw, hdef, hexec⟩
  · rw [hn] at hexec
    dsimp only at hexec
    rw [if_neg (not_not.2 rfl)] at hexec
    have hstations : concernedStations (headEvaluated r u) own.nodes = concernedStations s own.nodes := by
      simp only [concernedStations]
      rw [show (headEvaluated r u).view.entries = s.view.entries from hsight.entries]
    have hanswers : (headEvaluated r u).claims.answers = s.claims.answers := by
      rw [show (headEvaluated r u).claims = u.claims from rfl, hat.claims]
      rfl
    refine ⟨_, hexec, touches_withClaims _ _, rfl, ?_, fun j hj => ?_⟩
    · exact (adjustedAnswers_keys _ _).trans hstations
    · rw [← hanswers]
      exact adjustedAnswers_get (by rw [hstations]; exact hj)

end Sys2Proof.Machine


namespace Sys2Proof.Machine

/-! ### Another station's CLAIM (R110 to R112) -/

theorem exec_claim {s : State} {f : Frame} (hf : inboundHead s = some f) (ht : f.type = .claim) :
    exec .claim s = .next (takeClaim f (delivered s)) := by
  have harm : exec .claim s = execClaim s := rfl
  simp [harm, execClaim, hf, ht, finishDelivery_eq_delivered]

theorem handedOver_nil (s : State) : HandedOver s s [] := ⟨handsOver_nil rfl rfl, rfl, rfl, Touches.refl _ _⟩

theorem takeClaim_discarded {s : State} {f : Frame}
    (h : f.dst ≠ 0 ∨ parseClaim f.body = none ∨ entryOf s f.src = none) : takeClaim f s = s := by
  unfold takeClaim
  split
  · rename_i c hdst hc
    rcases h with h | h | h
    · exact absurd hdst h
    · rw [hc] at h
      cases h
    · rw [h]
  · rfl

theorem takeClaim_of_entry {s : State} {f : Frame} {c : ClaimPart} {e : Entry} (hdst : f.dst = 0)
    (hc : parseClaim f.body = some c) (he : entryOf s f.src = some e) :
    takeClaim f s = if e.state = .stale then claimFromStale f.src c s else judgeClaim f.src c s := by
  unfold takeClaim
  simp only [hdst, hc, he]

theorem recordForeign_recorded (s : State) (station : Nat) (c : ClaimPart) (a : Bool) :
    Recorded s (recordForeign station c a s) station c a :=
  ⟨tableGet_put_same _ _ _, (recordForeign_at station c a s).others, rfl⟩

theorem ownOverlaps_iff (s : State) (nodes : NodeSet) (held : Bool) :
    ownOverlaps s nodes held = true ↔
      ∃ own, s.claims.own = some own ∧ own.held = held ∧ nodesOverlap own.nodes nodes = true := by
  unfold ownOverlaps
  cases s.claims.own <;> simp

theorem ownOverlaps_of_own {s : State} {own : OwnClaim} (h : s.claims.own = some own) (nodes : NodeSet) (held : Bool) :
    ownOverlaps s nodes held = (own.held == held && nodesOverlap own.nodes nodes) := by
  unfold ownOverlaps
  rw [h]

theorem ownRankBetter_of_own {s : State} {own : OwnClaim} (h : s.claims.own = some own) (station : Nat)
    (c : ClaimPart) :
    ownRankBetter s station c = rankBetter (rankOfOwn s own) (rankOfPart station c) := by
  unfold ownRankBetter
  rw [h]
  rfl

/-- The rows of R112, as the statements put them. -/
theorem claimResponse_held {s : State} {c : ClaimPart} (station : Nat) (h : ownOverlaps s c.nodes true = true) :
    claimResponse s station c = .objectHeld := by
  obtain ⟨own, hown, hheld, hover⟩ := (ownOverlaps_iff s c.nodes true).1 h
  simp [claimResponse, hown, hheld, hover]

theorem claimResponse_claiming {s : State} {c : ClaimPart} (station : Nat) (h : ownOverlaps s c.nodes false = true) :
    claimResponse s station c = if ownRankBetter s station c then .objectRank else .giveWay := by
  obtain ⟨own, hown, hheld, hover⟩ := (ownOverlaps_iff s c.nodes false).1 h
  rw [ownRankBetter_of_own hown]
  simp [claimResponse, hown, hheld, hover]

theorem claimResponse_apart {s : State} {c : ClaimPart} (station : Nat) (h : ownOverlaps s c.nodes true = false)
    (h' : ownOverlaps s c.nodes false = false) :
    claimResponse s station c = if selfConcerned s c.nodes then .assent else .silent := by
  cases hown : s.claims.own with
  | none => simp [claimResponse, hown]
  | some own =>
    rw [ownOverlaps_of_own hown] at h h'
    have hover : nodesOverlap own.nodes c.nodes = false := by cases hh : own.held <;> simp_all
    simp [claimResponse, hown, hover]

theorem judgeClaim_in_service {s : State} (hs : inService s = true) (station : Nat) (c : ClaimPart) :
    judgeClaim station c s =
      respondClaim (claimResponse s station c) (selfConcerned s c.nodes) station c
        (recordForeign station c (assentedBy (selfConcerned s c.nodes) (claimResponse s station c)) s) := by
  rw [judgeClaim, if_pos hs]

theorem claimFromStale_eq (station : Nat) (c : ClaimPart) (s : State) :
    claimFromStale station c s = if ownOverlaps s c.nodes true then handObject station c.id .held s else s := by
  cases hown : s.claims.own with
  | none => simp [claimFromStale, ownOverlaps, hown]
  | some own => simp [claimFromStale, ownOverlaps, hown]

theorem handObject_handedOver {s w : State} (hc : w.copy = s.copy) (station : Nat) (id : Byte) (r : ObjectReason) :
    HandedOver w (handObject station id r w) [ownFrame s .object station [id, objectReasonCode r]] := by
  rw [← ownFrame_congr hc]
  exact handUrgent_handedOver _ w

theorem assentIf_handedOver {s w : State} (hc : w.copy = s.copy) (concerned : Bool) (station : Nat) (id : Byte) :
    HandedOver w (assentIf concerned station id w) (if concerned then [ownFrame s .assent station [id]] else []) := by
  cases concerned with
  | false => exact handedOver_nil w
  | true =>
    rw [if_pos rfl, ← ownFrame_congr hc]
    exact handUrgent_handedOver _ w

/-- Settles O42: the claim is discarded, recorded, or recorded and answered by its row. -/
theorem claimsAreAnswered : Obligations.ClaimsAreAnswered := by
  intro s f hf ht
  have hexec := exec_claim hf ht
  refine ⟨fun h => by rw [hexec, takeClaim_discarded (s := delivered s) h], fun hdst c hc => ⟨fun hstale => ?_,
    fun hcur hout => ?_, fun hcur hp hd => ?_⟩⟩
  · unfold entryState at hstale
    cases he : entryOf s f.src with
    | none => simp [he] at hstale
    | some e =>
      rw [takeClaim_of_entry (s := delivered s) hdst hc he, if_pos (by simpa [he] using hstale),
        claimFromStale_eq] at hexec
      refine ⟨_, hexec, ?_⟩
      show HandedOver (delivered s) _ (if ownOverlaps (delivered s) c.nodes true then _ else _)
      split
      · exact handObject_handedOver rfl _ _ _
      · exact handedOver_nil _
  all_goals
    obtain ⟨e, he⟩ : ∃ e, entryOf s f.src = some e := by
      cases he : entryOf s f.src with
      | none => simp [he, entryCurrent] at hcur
      | some e => exact ⟨e, rfl⟩
    have hfresh : ¬ e.state = .stale := by simpa [he, entryCurrent] using hcur
    rw [takeClaim_of_entry (s := delivered s) hdst hc he, if_neg hfresh] at hexec
  · have hserv : ¬ inService (delivered s) = true := by
      rw [inService_iff]
      rintro ⟨hp, hd⟩
      exact hout.elim (fun h => h hp) fun h => h hd
    rw [judgeClaim, if_neg hserv] at hexec
    exact ⟨_, hexec, recordForeign_recorded _ _ _ _, recordForeign_touches _ _ _ _⟩
  rw [judgeClaim_in_service (s := delivered s) ((inService_iff _).2 ⟨hp, hd⟩)] at hexec
  have hrec (a : Bool) := recordForeign_recorded (delivered s) f.src c a
  have htouch (a : Bool) := recordForeign_touches f.src c a (delivered s)
  refine ⟨fun h => ?_, fun h hrank => ?_, fun h hrank own hown op hop => ?_, fun h h' => ?_⟩
  · rw [claimResponse_held (s := delivered s) f.src h] at hexec
    exact ⟨_, _, hexec, hrec _, htouch _, handObject_handedOver rfl _ _ _⟩
  · rw [claimResponse_claiming (s := delivered s) f.src h, if_pos (by exact hrank)] at hexec
    exact ⟨_, _, hexec, hrec _, htouch _, handObject_handedOver rfl _ _ _⟩
  · have hrank' : ¬ ownRankBetter (delivered s) f.src c = true := by
      rw [show ownRankBetter (delivered s) f.src c = false from hrank]
      decide
    rw [claimResponse_claiming (s := delivered s) f.src h, if_neg hrank'] at hexec
    set u := recordForeign f.src c (assentedBy (selfConcerned (delivered s) c.nodes) .giveWay) (delivered s) with hu
    obtain ⟨v, hw, hdef⟩ := withdrawAndReport_defers (s := u) (own := own) (op := op) hown hop .conflict none
    refine ⟨u, v, _, _, hexec, hrec _, htouch _, hw, hdef, assentIf_handedOver ?_ _ _ _⟩
    exact withdrawAndReport_touches _ _ u .copy (by decide)
  · rw [claimResponse_apart (s := delivered s) f.src h h'] at hexec
    cases hself : selfConcerned s c.nodes with
    | true =>
      rw [show selfConcerned (delivered s) c.nodes = true from hself, if_pos rfl] at hexec
      exact ⟨_, _, hexec, hrec _, htouch _, assentIf_handedOver rfl true _ _⟩
    | false =>
      rw [show selfConcerned (delivered s) c.nodes = false from hself, if_neg (by decide)] at hexec
      exact ⟨_, _, hexec, hrec _, htouch _, handedOver_nil _⟩

end Sys2Proof.Machine


namespace Sys2Proof.Machine

/-! ### The bytes of the maintenance port (R170) -/

theorem gatheredNow_standing (s : State) : gatheredNow s = standingBytes s := by
  unfold gatheredNow standingBytes
  cases s.port.lastByte with
  | none => rfl
  | some t =>
    have hgap : gapPassed s t = true ↔ ¬ s.now ≤ t + 20 := by
      rw [gapPassed, decide_eq_true_iff]
      exact Nat.not_le.symm
    dsimp only
    rw [Option.any_some]
    by_cases h : s.now ≤ t + 20
    · rw [if_neg (by rw [hgap]; exact not_not.2 h), if_pos h]
    · rw [if_pos (hgap.2 h), if_neg h]

theorem checkBytes_length (l : List Byte) : (checkBytes l).length = 2 := rfl

theorem byteOf_toNat {n : Nat} (h : n < 256) : (byteOf n).toNat = n := by simp [byteOf]; omega

theorem receive_other {b : Byte} (h : b ≠ portStart) (l : List Byte) : receive (b :: l) = receive l := by
  conv_lhs => unfold receive
  exact if_neg h

/-- Bytes that are no start byte are passed over. -/
theorem receive_skipped {skipped : List Byte} (h : 0x7E ∉ skipped) (l : List Byte) :
    receive (skipped ++ l) = receive l := by
  induction skipped with
  | nil => rfl
  | cons b rest ih =>
    obtain ⟨hb, hrest⟩ := not_or.1 (mt List.mem_cons.2 h)
    rw [List.cons_append, receive_other (Ne.symm hb), ih hrest]

theorem receive_frame (code length : Byte) (tail : List Byte) :
    receive (0x7E :: code :: length :: tail) = judgeFrame code length tail := by
  rw [receive, if_pos (by rfl)]

/-- A frame whose argument length is admitted, with the two bytes in the place of its check. -/
theorem judgeFrame_complete {code : Byte} {args check : List Byte} (hlen : args.length ≤ 125)
    (hcheck : check.length = 2) :
    judgeFrame code (byteOf args.length) (args ++ check) =
      if check = frameCheck code args then .command code args [] else .checkFailed [] := by
  have hn : (byteOf args.length).toNat = args.length := byteOf_toNat (by omega)
  have hslice : slice (args ++ check) args.length 2 = check := by
    rw [slice, List.drop_left, List.take_of_length_le (by omega)]
  have hdrop : (args ++ check).drop (args.length + 2) = [] := List.drop_eq_nil_of_le (by simp [hcheck])
  rw [judgeFrame, hn, if_neg (by simp only [Config.recordLength]; omega), if_neg (by simp [hcheck]), List.take_left,
    hslice, hdrop]
  exact if_congr eq_comm rfl rfl

theorem receive_complete {code : Byte} {args check : List Byte} (hlen : args.length ≤ 125) (hcheck : check.length = 2) :
    receive (uncheckedFrame code args ++ check) =
      if check = frameCheck code args then .command code args [] else .checkFailed [] := by
  rw [← judgeFrame_complete hlen hcheck, ← receive_frame]
  rfl

theorem receive_arrived {s : State} {code : Byte} {args bytes : List Byte} (h : Arrives s code args bytes) :
    receive (gatheredNow s ++ bytes) = .command code args [] := by
  obtain ⟨hlen, skipped, hskip, heq⟩ := h
  rw [gatheredNow_standing, heq, receive_skipped hskip]
  exact (receive_complete (check := frameCheck code args) hlen rfl).trans (if_pos rfl)

/-- Bytes that begin a frame and do not complete it stay gathered. -/
theorem receive_incomplete {code : Byte} {args l rest : List Byte} (hlen : args.length ≤ 125) (hrest : rest ≠ [])
    (h : l ++ rest = uncheckedFrame code args ++ frameCheck code args) : receive l = .gathering l := by
  have htotal : l.length < args.length + 5 := by
    have hl := congrArg List.length h
    have hpos := List.length_pos_of_ne_nil hrest
    simp only [List.length_append, uncheckedFrame, List.length_cons, frameCheck, checkBytes_length] at hl
    omega
  have hn : (byteOf args.length).toNat = args.length := byteOf_toNat (by omega)
  match l with
  | [] => rfl
  | [b] =>
    obtain ⟨rfl, -⟩ := List.cons.inj h
    rfl
  | [b, c] =>
    obtain ⟨rfl, -⟩ := List.cons.inj h
    rfl
  | b :: c :: d :: tail =>
    obtain ⟨hb, h⟩ := List.cons.inj h
    obtain ⟨hc, h⟩ := List.cons.inj h
    obtain ⟨hd, -⟩ := List.cons.inj h
    subst hb hc hd
    simp only [List.length_cons] at htotal
    rw [receive_frame, judgeFrame, hn, if_neg (by simp only [Config.recordLength]; omega), if_pos (by omega)]
    rfl

/-! ### The exchange (R171) -/

/-- The bytes of a command gone from those gathered, and the exchange taken (R170, R171). -/
def commandTaken (code : Byte) (s : State) : State := takeExchange code (clearGathered s)

theorem commandTaken_touches (code : Byte) (s : State) : Touches [.port] s (commandTaken code s) :=
  ((touches_withPort s _).trans (touches_withPort _ _)).mono (by decide)

theorem setGathered_nil (bytes : List Byte) (s : State) : setGathered [] bytes s = clearGathered s := rfl

section Frames

variable {s : State} {code : Byte} {args bytes : List Byte} (h : Arrives s code args bytes) {takes : Byte → Bool}
  (htakes : takes code = true)
include h htakes

theorem portFrame_arrived (ok : List Byte → Bool) (act : Byte → List Byte → State → State) :
    portFrame takes ok act bytes s = portCommand code (ok args) (act code args) (clearGathered s) := by
  unfold portFrame
  rw [receive_arrived h]
  dsimp only
  rw [if_pos htakes, setGathered_nil]

theorem portFrame_taken (hidle : PortIdle s) {ok : List Byte → Bool} (hok : ok args = true)
    (act : Byte → List Byte → State → State) :
    portFrame takes ok act bytes s = act code args (commandTaken code s) := by
  rw [portFrame_arrived h htakes, portCommand, show (clearGathered s).port.outstanding = none from hidle]
  dsimp only
  rw [if_pos hok]
  rfl

theorem portFrame_badArgument (hidle : PortIdle s) {ok : List Byte → Bool} (hok : ok args = false)
    (act : Byte → List Byte → State → State) :
    portFrame takes ok act bytes s = respondWith code statusBadArgument [] (commandTaken code s) := by
  rw [portFrame_arrived h htakes, portCommand, show (clearGathered s).port.outstanding = none from hidle]
  dsimp only
  rw [if_neg (by simp [hok])]
  rfl

theorem portFrame_busy (hbusy : s.port.outstanding ≠ none) (ok : List Byte → Bool)
    (act : Byte → List Byte → State → State) :
    portFrame takes ok act bytes s = oweBusy code (clearGathered s) := by
  obtain ⟨c, hc⟩ := Option.ne_none_iff_exists'.1 hbusy
  rw [portFrame_arrived h htakes, portCommand, show (clearGathered s).port.outstanding = some c from hc]

end Frames

/-- What a kick leaves as it is (R171). -/
theorem kick_eq (p : Port) : p.kick = { p with sending := p.kick.sending } := by
  unfold Port.kick
  split <;> rfl

theorem kick_sending (p : Port) :
    p.kick.sending =
      if p.sending = none then
        (p.owedBusy.map fun code => { busy := true, bytes := responseBytes (busyResponse code) }).or
          (p.response.map fun r => { busy := false, bytes := responseBytes r })
      else p.sending := by
  unfold Port.kick
  split <;> rename_i h <;> simp_all

theorem respondWith_port (code status : Byte) (data : List Byte) (s : State) :
    (respondWith code status data s).port =
      ({ s.port with response := some { code := code, status := status, data := data } } : Port).kick := rfl

theorem responseBytes_eq (code status : Byte) (data : List Byte) :
    responseBytes { code := code, status := status, data := data } =
      0x7D :: code :: status :: (halfBytes data.length ++ data ++
        checkBytes (code :: status :: (halfBytes data.length ++ data))) := by
  simp [responseBytes]

/-- A response given while the exchange is taken, in any state with that exchange. -/
theorem respondWith_answers {s x : State} {code : Byte} (hx : x.port = (commandTaken code s).port) (status : Byte)
    (data : List Byte) : PortAnswers s (respondWith code status data x) code status data := by
  unfold PortAnswers
  rw [respondWith_port, hx]
  set p : Port := { (commandTaken code s).port with
    response := some { code := code, status := status, data := data } } with hp
  have hsend := kick_sending p
  rw [kick_eq]
  refine ⟨rfl, rfl, rfl, rfl, rfl, fun hs ho => ?_, fun hs => ?_⟩
  · show p.kick.sending = _
    rw [hsend, if_pos (show p.sending = none from hs), show p.owedBusy = none from ho, ← responseBytes_eq]
    rfl
  · show p.kick.sending = _
    rw [hsend, if_neg (show ¬ p.sending = none from hs)]
    rfl

theorem respondWith_answered (s : State) (code status : Byte) (data : List Byte) :
    Answered s (respondWith code status data (commandTaken code s)) code status data :=
  ⟨respondWith_answers rfl status data,
    ((commandTaken_touches code s).trans (respondWith_touches _ _ _ _)).mono (by decide)⟩

end Sys2Proof.Machine


namespace Sys2Proof.Machine

/-! ### The end of a response (R171, R175) -/

theorem exec_responseSent {s : State} {x : Sending} (h : s.port.sending = some x) :
    exec .responseSent s = .next (if x.busy then busyEnded s else responseEnded s) := by
  have harm : exec .responseSent s = execResponseSent s := rfl
  simp [harm, execResponseSent, h]

theorem restartsNode_iff (status : Byte) :
    restartsNode status = true ↔ status = 0x01 ∨ status = 0x02 ∨ status = 0x03 := by
  simp [restartsNode, statusAccepted, statusErased, statusRestarting, or_assoc]

/-- Settles O49. -/
theorem responsesEnd : Obligations.ResponsesEnd := by
  intro s x hx
  have hexec := exec_responseSent hx
  refine ⟨fun hb => ?_, fun hb r hr => ⟨fun hst => ?_, fun hst => ?_⟩⟩
  · rw [if_pos hb] at hexec
    set p : Port := { s.port with owedBusy := none, sending := none }
    refine ⟨_, hexec, touches_withPort _ _, ?_⟩
    show p.kick.owedBusy = _ ∧ p.kick.outstanding = _ ∧ p.kick.response = _ ∧ p.kick.gathered = _ ∧
      p.kick.lastByte = _ ∧ p.kick.sending = _
    rw [kick_sending p, kick_eq p]
    exact ⟨rfl, rfl, rfl, rfl, rfl, rfl⟩
  · have hno : ¬ restartsNode r.status = true := by
      rw [restartsNode_iff]
      tauto
    rw [if_neg (by simp [hb]), responseEnded, hr] at hexec
    dsimp only at hexec
    rw [if_neg hno] at hexec
    set p : Port := { s.port with outstanding := none, response := none, sending := none }
    refine ⟨_, hexec, touches_withPort _ _, ?_⟩
    show p.kick.outstanding = _ ∧ p.kick.response = _ ∧ p.kick.owedBusy = _ ∧ p.kick.gathered = _ ∧
      p.kick.lastByte = _ ∧ p.kick.sending = _
    rw [kick_sending p, kick_eq p]
    refine ⟨rfl, rfl, rfl, rfl, rfl, ?_⟩
    cases s.port.owedBusy <;> simp [p, busyResponse, statusBusy]
  · rw [if_neg (by simp [hb]), responseEnded, hr] at hexec
    dsimp only at hexec
    rw [if_pos ((restartsNode_iff _).2 hst)] at hexec
    exact ⟨_, hexec, rfl, rfl, rfl, rfl, rfl, rfl, rfl, rfl, rfl, rfl, rfl, rfl, rfl, rfl, rfl, rfl, rfl, rfl⟩

/-! ### What the port turns away (R170, R171) -/

theorem oweBusy_of_free {s : State} (h : s.port.owedBusy = none) (code : Byte) :
    oweBusy code s = s.withPort ({ s.port with owedBusy := some code } : Port).kick := by rw [oweBusy, h]

theorem oweBusy_of_owed {s : State} (h : s.port.owedBusy ≠ none) (code : Byte) : oweBusy code s = s := by
  obtain ⟨c, hc⟩ := Option.ne_none_iff_exists'.1 h
  rw [oweBusy, hc]

/-- A command of the port as the exchange takes it (R170, R175): the bytes it takes, its arguments, and what it does. -/
def PortTakes (code : Byte) (bytes : List Byte) (ok : List Byte → Bool) (act : Byte → List Byte → State → State) :
    Prop :=
  ∃ takes : Byte → Bool, takes code = true ∧
    ∀ s, exec (portInstr code bytes) s = .next (portFrame takes ok act bytes s)

theorem arguments_none (args : List Byte) : args.isEmpty = false ↔ args ≠ [] := by cases args <;> simp

theorem arguments_station (args : List Byte) :
    (args.length == 1 && stationOk (natAt args 0)) = false ↔
      args.length ≠ 1 ∨ natAt args 0 < 1 ∨ 63 < natAt args 0 := by
  simp only [stationOk, Bool.and_eq_false_iff, beq_eq_false_iff_ne, decide_eq_false_iff_not, Nat.not_le]

theorem arguments_slot (args : List Byte) :
    (args.length == 1 && slotOk (natAt args 0)) = false ↔ args.length ≠ 1 ∨ natAt args 0 < 1 ∨ 8 < natAt args 0 := by
  simp only [slotOk, Bool.and_eq_false_iff, beq_eq_false_iff_ne, decide_eq_false_iff_not, Nat.not_le]

theorem knownPortCode_eq_false_iff (code : Byte) : knownPortCode code = false ↔ code = 0 ∨ 10 < code.toNat := by
  simp only [knownPortCode, Bool.and_eq_false_iff, decide_eq_false_iff_not, Nat.not_le]
  bv_omega

theorem knownPortCode_cases {code : Byte} (h : knownPortCode code = true) :
    code = 1 ∨ code = 2 ∨ code = 3 ∨ code = 4 ∨ code = 5 ∨ code = 6 ∨ code = 7 ∨ code = 8 ∨ code = 9 ∨ code = 10 := by
  simp only [knownPortCode, Bool.and_eq_true, decide_eq_true_eq] at h
  bv_omega

/-- Each of the ten commands, as the exchange takes it. -/
theorem portInstr_known {code : Byte} (h : knownPortCode code = true) (bytes : List Byte) :
    ∃ ok act, PortTakes code bytes ok act ∧ ∀ args, ok args = false ↔ argumentsWrong code args := by
  rcases knownPortCode_cases h with rfl | rfl | rfl | rfl | rfl | rfl | rfl | rfl | rfl | rfl
  case inr.inr.inl => exact ⟨_, _, ⟨_, by rfl, fun s => rfl⟩, fun args => beq_eq_false_iff_ne⟩
  case inr.inr.inr.inr.inl => exact ⟨_, _, ⟨_, by rfl, fun s => rfl⟩, arguments_station⟩
  case inr.inr.inr.inr.inr.inl => exact ⟨_, _, ⟨_, by rfl, fun s => rfl⟩, arguments_slot⟩
  all_goals exact ⟨_, _, ⟨_, by rfl, fun s => rfl⟩, arguments_none⟩

/-- A code that is none of the ten is answered with itself (R170). -/
theorem portInstr_unknown {code : Byte} (h : knownPortCode code = false) (bytes : List Byte) :
    PortTakes code bytes (fun _ => true) fun received _ => respondWith received statusUnknownCommand [] := by
  have hne (c : Byte) (hc : knownPortCode c = true) : ¬ code = c := by
    rintro rfl
    simp [hc] at h
  have hinstr : portInstr code bytes = .unknownCommand code bytes := by
    rw [portInstr, if_neg (hne 0x01 (by decide)), if_neg (hne 0x02 (by decide)), if_neg (hne 0x03 (by decide)),
      if_neg (hne 0x04 (by decide)), if_neg (hne 0x05 (by decide)), if_neg (hne 0x06 (by decide)),
      if_neg (hne 0x07 (by decide)), if_neg (hne 0x08 (by decide)), if_neg (hne 0x09 (by decide)),
      if_neg (hne 0x0A (by decide))]
  exact ⟨fun received => received == code && !knownPortCode code, by simp [h], fun s => by rw [hinstr]; rfl⟩

/-- Whatever its code, a command is one that the exchange takes. -/
theorem portInstr_takes (code : Byte) (bytes : List Byte) : ∃ ok act, PortTakes code bytes ok act := by
  cases h : knownPortCode code with
  | true =>
    obtain ⟨ok, act, hp, -⟩ := portInstr_known h bytes
    exact ⟨ok, act, hp⟩
  | false => exact ⟨_, _, portInstr_unknown h bytes⟩

theorem busy_turned_away (s : State) (code : Byte) (args bytes : List Byte) (h : Arrives s code args bytes)
    (hbusy : s.port.outstanding ≠ none) :
    ∃ t, exec (portInstr code bytes) s = .next t ∧ Touches [.port] s t ∧
      t.port.outstanding = s.port.outstanding ∧ t.port.response = s.port.response ∧ t.port.gathered = [] ∧
      t.port.lastByte = none ∧
      (s.port.owedBusy = none → t.port.owedBusy = some code ∧
        (s.port.sending = none → ∃ x, t.port.sending = some x ∧ x.busy = true ∧
          x.bytes = responseBytes { code := code, status := 0x07, data := [] }) ∧
        (s.port.sending ≠ none → t.port.sending = s.port.sending)) ∧
      (s.port.owedBusy ≠ none → t.port = { s.port with gathered := [], lastByte := none }) := by
  obtain ⟨ok, act, takes, htakes, hexec⟩ := portInstr_takes code bytes
  have hrun := hexec s
  rw [portFrame_busy h htakes hbusy] at hrun
  cases ho : s.port.owedBusy with
  | none =>
    rw [oweBusy_of_free (s := clearGathered s) ho] at hrun
    set p : Port := { (clearGathered s).port with owedBusy := some code } with hp
    have hsend := kick_sending p
    refine ⟨_, hrun, ((touches_withPort s _).trans (touches_withPort _ p.kick)).mono (by decide), ?_⟩
    show p.kick.outstanding = _ ∧ p.kick.response = _ ∧ p.kick.gathered = _ ∧ p.kick.lastByte = _ ∧
      (_ → p.kick.owedBusy = _ ∧ (_ → ∃ x, p.kick.sending = some x ∧ _) ∧ (_ → p.kick.sending = _)) ∧ _
    rw [hsend, kick_eq p]
    refine ⟨rfl, rfl, rfl, rfl, fun _ => ⟨rfl, fun hs => ?_, fun hs => ?_⟩, fun hn => absurd rfl hn⟩
    · rw [if_pos (show p.sending = none from hs)]
      exact ⟨_, rfl, rfl, rfl⟩
    · rw [if_neg (show ¬ p.sending = none from hs)]
      rfl
  | some c =>
    rw [oweBusy_of_owed (s := clearGathered s) (by rw [show (clearGathered s).port.owedBusy = some c from ho]; simp)]
      at hrun
    exact ⟨_, hrun, touches_withPort _ _, rfl, rfl, rfl, rfl, nofun, fun _ => rfl⟩

theorem badArgument_answered (s : State) (code : Byte) (args bytes : List Byte) (hidle : PortIdle s)
    (h : Arrives s code args bytes) :
    (1 ≤ code.toNat → code.toNat ≤ 10 → argumentsWrong code args →
      ∃ t, exec (portInstr code bytes) s = .next t ∧ Answered s t code 0x0A []) ∧
    ((code = 0 ∨ 10 < code.toNat) →
      ∃ t, exec (portInstr code bytes) s = .next t ∧ Answered s t code 0x09 []) := by
  refine ⟨fun h1 h10 hwrong => ?_, fun hno => ?_⟩
  · have hknown : knownPortCode code = true := by simp [knownPortCode, h1, h10]
    obtain ⟨ok, act, ⟨takes, htakes, hexec⟩, hok⟩ := portInstr_known hknown bytes
    have hrun := hexec s
    rw [portFrame_badArgument h htakes hidle ((hok args).2 hwrong)] at hrun
    exact ⟨_, hrun, respondWith_answered s code _ _⟩
  · obtain ⟨takes, htakes, hexec⟩ := portInstr_unknown ((knownPortCode_eq_false_iff code).2 hno) bytes
    have hrun := hexec s
    rw [portFrame_taken h htakes hidle rfl] at hrun
    exact ⟨_, hrun, respondWith_answered s code _ _⟩

theorem incomplete_gathered (s : State) (code : Byte) (args bytes rest : List Byte) (hlen : args.length ≤ 125)
    (hrest : rest ≠ []) (h : standingBytes s ++ bytes ++ rest = uncheckedFrame code args ++ frameCheck code args) :
    ∃ t, exec (portInstr code bytes) s = .next t ∧
      t.port = { s.port with
        gathered := standingBytes s ++ bytes
        lastByte := if bytes ≠ [] then some s.now else if standingBytes s = [] then none else s.port.lastByte } ∧
      Touches [.port] s t := by
  obtain ⟨ok, act, takes, htakes, hexec⟩ := portInstr_takes code bytes
  have hrun := hexec s
  rw [portFrame, gatheredNow_standing, receive_incomplete hlen hrest h] at hrun
  refine ⟨_, hrun, ?_, touches_withPort _ _⟩
  have hlast : lastByteOf (standingBytes s ++ bytes) bytes s =
      if bytes ≠ [] then some s.now else if standingBytes s = [] then none else s.port.lastByte := by
    unfold lastByteOf
    by_cases hb : bytes = [] <;> simp [hb]
  show { s.port with
    gathered := standingBytes s ++ bytes, lastByte := lastByteOf (standingBytes s ++ bytes) bytes s } = _
  rw [hlast]

/-- Settles O48. -/
theorem portTurnsAway : Obligations.PortTurnsAway := by
  refine ⟨busy_turned_away, badArgument_answered, incomplete_gathered,
    fun s code args check bytes hlen hcheck hne h => ?_,
    fun s code length bytes hlong h => ?_, fun s => ⟨_, rfl, rfl, touches_withPort _ _⟩,
      fun s => ⟨fun hn => ?_, fun b hb => ?_⟩⟩
  · have harm : exec (.portFrameCheckFailed bytes) s = execPortFrameCheckFailed bytes s := rfl
    rw [execPortFrameCheckFailed, gatheredNow_standing, h, receive_complete hlen hcheck, if_neg hne] at harm
    exact ⟨_, harm, rfl, touches_withPort _ _⟩
  · have harm : exec (.portArgumentLengthExceeded bytes) s = execPortArgumentLengthExceeded bytes s := rfl
    rw [execPortArgumentLengthExceeded, gatheredNow_standing, h, receive_frame, judgeFrame,
      if_pos (by exact hlong)] at harm
    exact ⟨_, harm, rfl, touches_withPort _ _⟩
  · have harm : exec .portByteTimeout s = execPortByteTimeout s := rfl
    rw [harm, execPortByteTimeout, hn]
  · have harm : exec .portByteTimeout s = execPortByteTimeout s := rfl
    rw [execPortByteTimeout, hb] at harm
    exact ⟨_, harm, rfl, rfl, (reachTime_touches s _).trans (touches_withPort _ _)⟩

end Sys2Proof.Machine


namespace Sys2Proof.Machine

/-! ### The end of a departure (R15, R167, R175) -/

theorem finishDeparture_touches_erase (s : State) : Touches [.port, .store, .faults] s (finishDeparture .erase s) :=
  finishDeparture_touches .erase s |>.mono (by decide)

theorem relayFor_all (p : CauseSet) : relayFor p 0b11111 = (p != 0) := by
  revert p; decide

theorem eraseStore_faults (s : State) :
    (eraseStore s).faults =
      { pending := s.faults.pending, holding := s.faults.holding &&& ~~~ causeBit .configInvalid
        relay := s.faults.pending != 0 } := by
  rw [← relayFor_all]
  rfl

/-- The response of a command that restarts the node (R175). -/
def departureResponse : Departure → Response
  | .restart => { code := 0x0A, status := 0x03, data := [] }
  | .erase => { code := 0x04, status := 0x02, data := [] }

/-- The end of a departure, as the statements put it. -/
theorem finishDeparture_ended (d : Departure) (s : State) : DepartureEnded d s (finishDeparture d s) := by
  set r := departureResponse d with hr
  set p : Port := { s.port with response := some r } with hp
  have hport : (finishDeparture d s).port = p.kick := by cases d <;> rfl
  have hsend := kick_sending p
  refine ⟨by rw [hport, kick_eq p], by rw [hport, kick_eq p], by rw [hport, kick_eq p], by rw [hport, kick_eq p],
    by rw [hport, kick_eq p]; cases d <;> rfl, fun hs ho => ?_, fun hs => ?_, ?_, ?_⟩
  · rw [hport, hsend, if_pos (show p.sending = none from hs), show p.owedBusy = none from ho, kick_eq p]
    rfl
  · rw [hport, hsend, if_neg (show ¬ p.sending = none from hs)]
  · rintro rfl
    exact touches_withPort _ _
  · rintro rfl
    exact ⟨rfl, eraseStore_faults s, finishDeparture_touches_erase s⟩

end Sys2Proof.Machine


namespace Sys2Proof.Machine

/-! ### A CLAIMING claim dropped without report (R109, R167, R168) -/

theorem ownHolds_false_iff (s : State) : ownHolds s false = true ↔ ∃ c, s.claims.own = some c ∧ c.held = false := by
  unfold ownHolds
  cases s.claims.own <;> simp

theorem dropClaiming_of_claiming {s : State} {c : OwnClaim} (hown : s.claims.own = some c) (hheld : c.held = false)
    (cause : EndCause) :
    dropClaiming cause s = claimToIdle c.id cause none (countWithdrawn (removeClaim s)) := by
  rw [dropClaiming, hown]
  exact if_neg (by simp [hheld])

theorem dropClaiming_of_not_claiming {s : State} (h : ownHolds s false = false) (cause : EndCause) :
    dropClaiming cause s = s := by
  unfold dropClaiming
  split
  · rfl
  · rename_i c hown
    refine if_pos ?_
    by_contra hheld
    have := (ownHolds_false_iff s).2 ⟨c, hown, by simpa using hheld⟩
    simp [h] at this

section Dropped

variable {s : State} {c : OwnClaim} (hown : s.claims.own = some c) (hheld : c.held = false) (cause : EndCause)
include hown hheld

theorem dropClaiming_claims :
    (dropClaiming cause s).claims = { s.claims with
      own := none, answers := [], window := none
      lastEnding := some { id := c.id, cause := cause, objection := none } } := by
  have hrem : (removeClaim s).claims = s.claims := removeClaim_touches s .claims (by decide)
  rw [dropClaiming_of_claiming hown hheld, claimToIdle_claims, show (countWithdrawn _).claims = _ from hrem]

theorem dropClaiming_counters :
    (dropClaiming cause s).counters = { s.counters with claimsWithdrawn := bump s.counters.claimsWithdrawn } := by
  have hrem : (removeClaim s).counters = s.counters := removeClaim_touches s .counters (by decide)
  rw [dropClaiming_of_claiming hown hheld, claimToIdle_counters]
  simp only [countWithdrawn, State.withCounters_counters]
  rw [hrem]

theorem dropClaiming_emits : Emits [] 1 s (dropClaiming cause s) := by
  rw [dropClaiming_of_claiming hown hheld]
  have hask : SameAsking s (countWithdrawn (removeClaim s)) :=
    (removeClaim_sameAsking s).trans (countWithdrawn_sameBooks _).sameAsking
  exact ((removeClaim_emits s).then (countWithdrawn_sameBooks _)).trans hask (claimToIdle_emits c.id cause none _)

theorem dropClaiming_urgent : (dropClaiming cause s).link.urgent = s.link.urgent := by
  rw [dropClaiming_of_claiming hown hheld]
  exact (ownChanged_keeps _).1.trans (removeClaim_urgent s)

theorem dropClaiming_claimsQueued :
    claimsQueued (dropClaiming cause s).link =
      if claimOnLine s.link then (claimsQueued s.link).map markRemoved else [] := by
  rw [dropClaiming_of_claiming hown hheld, claimToIdle_claimsQueued]
  exact removeClaim_claimsQueued s

end Dropped

/-- The CLAIM that a drop of the own claim leaves in the normal queue (R46, R109). -/
theorem dropped_claimsQueued (cause : EndCause) (s : State) :
    claimsQueued (dropClaiming cause s).link =
      if ownHolds s false then (if claimOnLine s.link then (claimsQueued s.link).map markRemoved else [])
      else claimsQueued s.link := by
  cases h : ownHolds s false with
  | false => rw [dropClaiming_of_not_claiming h]; rfl
  | true =>
    obtain ⟨c, hown, hheld⟩ := (ownHolds_false_iff s).1 h
    exact dropClaiming_claimsQueued hown hheld cause

/-! ### The departure begun (R50, R167) -/

theorem markFinal_markFinal (i : NormalItem) : markFinal (markFinal i) = markFinal i := by cases i <;> rfl

theorem requestFinal_urgent (s : State) : (requestFinal s).link.urgent = s.link.urgent := by
  unfold requestFinal
  split <;> simp

theorem requestFinal_claimsQueued (s : State) : claimsQueued (requestFinal s).link = claimsQueued s.link := by
  unfold requestFinal claimsQueued
  split
  · simp only [State.withLink_link]
    rw [filter_map_of_kind markFinal isMarker_markFinal not]
    exact map_eq_self_of_forall fun i hi => markFinal_of_claim (by simpa using (List.mem_filter.1 hi).2)
  · simp [isMarker]

/-- A FINAL STATUS waits once it has been asked for (R50). -/
theorem requestFinal_waits (s : State) :
    ((requestFinal s).link.normal.any fun i => isMarker i && i == markFinal i) = true := by
  unfold requestFinal
  split
  · rename_i h
    obtain ⟨i, hi, hm⟩ := List.any_eq_true.1 h
    refine List.any_eq_true.2 ⟨markFinal i, List.mem_map_of_mem hi, ?_⟩
    rw [isMarker_markFinal, hm, markFinal_markFinal]
    simp
  · simp [isMarker, markFinal]

/-- The own claim dropped at a departure, and the FINAL STATUS asked for (R109, R167). -/
def leaving (s : State) : State := requestFinal (dropClaiming .leaving s)

theorem leaving_touches (s : State) : Touches [.link, .counters, .claims, .view] s (leaving s) :=
  ((dropClaiming_touches .leaving s).trans (requestFinal_touches _)).mono (by decide)

theorem leaving_entries (s : State) : (leaving s).view.entries = s.view.entries := by
  refine Eq.trans (congrArg View.entries (requestFinal_touches _ .view (by decide))) ?_
  cases h : ownHolds s false with
  | false => rw [dropClaiming_of_not_claiming h]
  | true =>
    obtain ⟨c, hown, hheld⟩ := (ownHolds_false_iff s).1 h
    exact (dropClaiming_emits hown hheld .leaving).events.entries

theorem leaving_urgent (s : State) : (leaving s).link.urgent = s.link.urgent := by
  refine (requestFinal_urgent _).trans ?_
  cases h : ownHolds s false with
  | false => rw [dropClaiming_of_not_claiming h]
  | true =>
    obtain ⟨c, hown, hheld⟩ := (ownHolds_false_iff s).1 h
    exact dropClaiming_urgent hown hheld .leaving

theorem leaving_of_claiming {s : State} (h : ownHolds s false = true) :
    (leaving s).claims.own = none ∧ (leaving s).claims.window = none ∧
      (leaving s).counters = { s.counters with claimsWithdrawn := bump s.counters.claimsWithdrawn } := by
  obtain ⟨c, hown, hheld⟩ := (ownHolds_false_iff s).1 h
  have hclaims : (leaving s).claims = _ :=
    Eq.trans (requestFinal_touches _ .claims (by decide)) (dropClaiming_claims hown hheld .leaving)
  have hcounters : (leaving s).counters = _ :=
    Eq.trans (requestFinal_touches _ .counters (by decide)) (dropClaiming_counters hown hheld .leaving)
  rw [hclaims]
  exact ⟨rfl, rfl, hcounters⟩

theorem leaving_of_not_claiming {s : State} (h : ownHolds s false = false) :
    (leaving s).claims = s.claims ∧ (leaving s).counters = s.counters := by
  have hsame := requestFinal_touches (dropClaiming .leaving s)
  rw [dropClaiming_of_not_claiming h] at hsame
  rw [leaving, dropClaiming_of_not_claiming h]
  exact ⟨hsame .claims (by decide), hsame .counters (by decide)⟩

theorem leaving_claimsQueued (s : State) :
    claimsQueued (leaving s).link =
      if ownHolds s false then (if claimOnLine s.link then (claimsQueued s.link).map markRemoved else [])
      else claimsQueued s.link :=
  (requestFinal_claimsQueued _).trans (dropped_claimsQueued .leaving s)

/-- The departure taken and the queue emptied (R167). -/
def departing (d : Departure) (s : State) : State :=
  (s.withStart { s.start with departure := some d }).withReq { s.req with queue := [], deferTimer := none }

theorem beginDeparture_begun (d : Departure) (code : Byte) (s : State) :
    DepartureBegun d code s (beginDeparture d (commandTaken code s)) := by
  obtain ⟨x, hx⟩ : ∃ x, x = departing d (commandTaken code s) := ⟨_, rfl⟩
  have ht : beginDeparture d (commandTaken code s) = leaving x := by rw [hx]; rfl
  have hsx : Touches [.port, .start, .req] s x := by
    rw [hx]
    exact ((commandTaken_touches code s).trans ((touches_withStart _ _).trans (touches_withReq _ _))).mono (by decide)
  have hxt := leaving_touches x
  have hstart : x.start = { s.start with departure := some d } := by rw [hx]; rfl
  have hreq : x.req = { s.req with queue := [], deferTimer := none } := by rw [hx]; rfl
  have hport : x.port = { s.port with outstanding := some code, gathered := [], lastByte := none } := by rw [hx]; rfl
  have hlink : x.link = s.link := hsx .link (by decide)
  have hclaims : x.claims = s.claims := hsx .claims (by decide)
  have hcounters : x.counters = s.counters := hsx .counters (by decide)
  have hholds : ownHolds x false = ownHolds s false := by rw [ownHolds, ownHolds, hclaims]
  rw [ht]
  refine ⟨Eq.trans (hxt .start (by decide)) hstart, Eq.trans (hxt .req (by decide)) hreq,
    Eq.trans (hxt .port (by decide)) hport, Eq.trans (hxt .store (by decide)) (hsx .store (by decide)),
    Eq.trans (hxt .drive (by decide)) (hsx .drive (by decide)), ?_, requestFinal_waits _, ?_,
    ⟨fun h => ?_, fun h => ?_⟩, ?_, (hsx.trans hxt).mono (by decide)⟩
  · exact (leaving_entries x).trans (congrArg View.entries (hsx .view (by decide)))
  · rw [leaving_urgent, hlink]
  · rw [← hcounters]
    exact leaving_of_claiming (hholds.trans h)
  · rw [← hcounters, ← hclaims]
    exact leaving_of_not_claiming (hholds.trans h)
  · rw [leaving_claimsQueued, hholds, hlink]

/-! ### The commands that change the node (R174, R175) -/

section Commands

variable {s : State} {bytes : List Byte} (hidle : PortIdle s)
include hidle

theorem exec_clearCounters (h : Arrives s 0x09 [] bytes) :
    exec (.clearCounters bytes) s =
      .next (respondWith 0x09 0x04 [] ((commandTaken 0x09 s).withCounters Counters.zero)) := by
  have harm : exec (.clearCounters bytes) s = execClearCounters bytes s := rfl
  rw [harm, execClearCounters, portFrame_taken h rfl hidle rfl]
  rfl

theorem exec_writeConfig {record : List Byte} (hlen : record.length = 125) (h : Arrives s 0x03 record bytes) :
    exec (.writeConfig bytes) s = .next (writeConfig record (commandTaken 0x03 s)) := by
  have harm : exec (.writeConfig bytes) s = execWriteConfig bytes s := rfl
  rw [harm, execWriteConfig, portFrame_taken h rfl hidle (by simp [hlen, Config.recordLength])]

theorem exec_eraseConfig (h : Arrives s 0x04 [] bytes) :
    exec (.eraseConfig bytes) s = .next (eraseConfig (commandTaken 0x04 s)) := by
  have harm : exec (.eraseConfig bytes) s = execEraseConfig bytes s := rfl
  rw [harm, execEraseConfig, portFrame_taken h rfl hidle rfl]

theorem exec_restart (h : Arrives s 0x0A [] bytes) :
    exec (.restart bytes) s = .next (restartNode (commandTaken 0x0A s)) := by
  have harm : exec (.restart bytes) s = execRestart bytes s := rfl
  rw [harm, execRestart, portFrame_taken h rfl hidle rfl]

end Commands

/-- Settles O47. -/
theorem commandsThatChangeTheNode : Obligations.CommandsThatChangeTheNode := by
  intro s bytes hidle
  refine ⟨fun h => ?_, fun record hlen h => ⟨fun hp => ?_, fun hp p hc => ?_, fun hp hc => ?_⟩, fun h => ⟨fun hb => ?_,
    fun hp hb => ⟨fun hr => ?_, fun hr => ?_⟩⟩, fun h => ⟨fun hb => ?_, fun hb => ⟨fun hr => ?_, fun hr => ?_⟩⟩⟩
  · exact ⟨_, exec_clearCounters hidle h, rfl, rfl, rfl, rfl, rfl, rfl, rfl, rfl, rfl, respondWith_answers rfl _ _,
      (((commandTaken_touches _ s).trans (touches_withCounters _ _)).trans (respondWith_touches _ _ _ _)).mono
        (by decide)⟩
  · refine ⟨_, exec_writeConfig hidle hlen h, ?_⟩
    rw [writeConfig, if_pos (by exact hp)]
    exact respondWith_answered s _ _ _
  · refine ⟨_, exec_writeConfig hidle hlen h, ?_⟩
    rw [writeConfig, if_neg (by exact not_not.2 hp), hc]
    exact respondWith_answered s _ _ _
  · refine ⟨_, exec_writeConfig hidle hlen h, ?_⟩
    rw [writeConfig, if_neg (by exact not_not.2 hp), hc]
    exact ⟨rfl, respondWith_answers rfl _ _, rfl, (((commandTaken_touches _ s).trans (storeRecord_touches _ _)).trans
      (respondWith_touches _ _ _ _)).mono (by decide)⟩
  · refine ⟨_, exec_eraseConfig hidle h, ?_⟩
    rw [eraseConfig, if_pos (by exact hb)]
    exact respondWith_answered s _ _ _
  · refine ⟨_, exec_eraseConfig hidle h, ?_⟩
    rw [eraseConfig, if_neg (by exact not_or.2 ⟨hp, Bool.eq_false_iff.1 hb⟩), if_pos (by exact hr)]
    exact beginDeparture_begun _ _ _
  · refine ⟨_, exec_eraseConfig hidle h, ?_⟩
    rw [eraseConfig, if_neg (by exact not_or.2 ⟨hp, Bool.eq_false_iff.1 hb⟩), if_neg (by exact hr)]
    exact ⟨rfl, eraseStore_faults (commandTaken 0x04 s), respondWith_answers rfl _ _,
      ((commandTaken_touches _ s).trans (finishDeparture_touches_erase _)).mono (by decide)⟩
  · refine ⟨_, exec_restart hidle h, ?_⟩
    rw [restartNode, if_pos (by exact hb)]
    exact respondWith_answered s _ _ _
  · refine ⟨_, exec_restart hidle h, ?_⟩
    rw [restartNode, if_neg (by exact Bool.eq_false_iff.1 hb), if_pos (by exact hr)]
    exact beginDeparture_begun _ _ _
  · refine ⟨_, exec_restart hidle h, ?_⟩
    rw [restartNode, if_neg (by exact Bool.eq_false_iff.1 hb), if_neg (by exact hr)]
    exact respondWith_answered s _ _ _

end Sys2Proof.Machine


namespace Sys2Proof.Machine

/-! ### The reads (R172 to R174, R180) -/

/-- What READ_VIEW shows is not of the exchange. -/
theorem viewData_commandTaken (code : Byte) (s : State) (station : Nat) :
    viewData (commandTaken code s) station = viewData s station := by
  have hsight : SameSight s (commandTaken code s) := (commandTaken_touches code s).sameSight (by decide)
  have hown : ownContent (commandTaken code s) = ownContent s := by
    simp only [ownContent, hsight.ownObjectsFrom, hsight.ownSensorsFrom]
    rfl
  unfold viewData
  rw [hown]
  rfl

section Reads

variable {s : State} {bytes : List Byte} (hidle : PortIdle s)
include hidle

theorem exec_readIdentity (h : Arrives s 0x01 [] bytes) :
    exec (.readIdentity bytes) s = .next (respondWith 0x01 0x00 identityData (commandTaken 0x01 s)) := by
  have harm : exec (.readIdentity bytes) s = execReadIdentity bytes s := rfl
  rw [harm, execReadIdentity, portFrame_taken h rfl hidle rfl]
  rfl

theorem exec_readConfig (h : Arrives s 0x02 [] bytes) :
    exec (.readConfig bytes) s = .next (respondWith 0x02 0x00 (configData s.store) (commandTaken 0x02 s)) := by
  have harm : exec (.readConfig bytes) s = execReadConfig bytes s := rfl
  rw [harm, execReadConfig, portFrame_taken h rfl hidle rfl]
  rfl

theorem exec_readView {b : Byte} (h1 : 1 ≤ b.toNat) (h63 : b.toNat ≤ 63) (h : Arrives s 0x05 [b] bytes) :
    exec (.readView bytes) s = .next (respondWith 0x05 0x00 (viewData s b.toNat) (commandTaken 0x05 s)) := by
  have hok : ([b].length == 1 && stationOk (natAt [b] 0)) = true := by simp [stationOk, natAt, byteAt, h1, h63]
  have harm : exec (.readView bytes) s = execReadView bytes s := rfl
  rw [harm, execReadView, portFrame_taken h rfl hidle hok, ← viewData_commandTaken 0x05 s]
  rfl

theorem exec_readObject {b : Byte} (h1 : 1 ≤ b.toNat) (h8 : b.toNat ≤ 8) (h : Arrives s 0x06 [b] bytes) :
    exec (.readObject bytes) s = .next (answerReadObject b.toNat (commandTaken 0x06 s)) := by
  have hok : ([b].length == 1 && slotOk (natAt [b] 0)) = true := by simp [slotOk, natAt, byteAt, h1, h8]
  have harm : exec (.readObject bytes) s = execReadObject bytes s := rfl
  rw [harm, execReadObject, portFrame_taken h rfl hidle hok]
  rfl

theorem exec_readClaims (h : Arrives s 0x07 [] bytes) :
    exec (.readClaims bytes) s = .next (respondWith 0x07 0x00 (claimsData s) (commandTaken 0x07 s)) := by
  have harm : exec (.readClaims bytes) s = execReadClaims bytes s := rfl
  rw [harm, execReadClaims, portFrame_taken h rfl hidle rfl]
  rfl

theorem exec_readCounters (h : Arrives s 0x08 [] bytes) :
    exec (.readCounters bytes) s = .next (respondWith 0x08 0x00 (countersData s.counters) (commandTaken 0x08 s)) := by
  have harm : exec (.readCounters bytes) s = execReadCounters bytes s := rfl
  rw [harm, execReadCounters, portFrame_taken h rfl hidle rfl]
  rfl

end Reads

theorem identityData_eq : identityData = [0x09, 0x0D, 0x01, 0xA2, 0x03] := by decide

theorem countersData_eq (c : Counters) :
    countersData c = halfBytes c.headerErrors ++ halfBytes c.bodyErrors ++ halfBytes c.overruns ++
      halfBytes c.txAbandoned ++ halfBytes c.txDropped ++ halfBytes c.claimsGranted ++ halfBytes c.claimsWithdrawn ++
      halfBytes c.opsDone ++ halfBytes c.opsFailed := by
  simp [countersData]

/-! ### READ_VIEW -/

theorem viewData_own {s : State} {c : Content} {station : Nat} (hc : ownContent s = some c)
    (h : ownAddress s = station) :
    viewData s station = [4, 0, 0, 0] ++ statusBody c s.view.joining (ownClaimPart s) := by
  rw [viewData, hc]
  exact if_pos h.symm

theorem viewData_peer {s : State} {station : Nat} (h : ownAddress s ≠ station) :
    viewData s station = peerViewData s station := by
  unfold viewData
  split
  · exact if_neg (Ne.symm h)
  · rfl

theorem peerViewData_absent {s : State} {station : Nat} (h : entryOf s station = none) :
    peerViewData s station = [0, 0, 0, standingByte s station] := by rw [peerViewData, h]

theorem peerViewData_entry {s : State} {station : Nat} {e : Entry} (h : entryOf s station = some e) :
    peerViewData s station =
      [entryStateCode e.state] ++ halfBytes (min (s.now - e.lastGood) 65535) ++ [standingByte s station] ++
        statusBody (contentAsRead e.state e.content) false none := by
  rw [peerViewData, h]
  rfl

/-- Without a record and without an entry READ_VIEW shows nothing. -/
theorem viewData_empty {s : State} (hcopy : s.copy = none) (hent : s.view.entries = []) (station : Nat) :
    viewData s station = [0, 0, 0, 0] := by
  have hc : ownContent s = none := by simp [ownContent, hcopy]
  have he : entryOf s station = none := by simp [entryOf, hent, tableGet]
  rw [viewData, hc]
  dsimp only
  rw [peerViewData_absent he]
  simp [standingByte, isMissing, hcopy]

/-! ### READ_OBJECT -/

theorem answerReadObject_none {s : State} {k : Nat} (h : objDesc s k = none ∨ s.store.status ≠ .inForce) :
    answerReadObject k s = respondWith 0x06 0x08 (noObjectData s) s := by
  unfold answerReadObject
  split
  · rename_i r d hr hd
    rcases h with h | h
    · rw [hd] at h
      cases h
    · simp [recordInForce, h] at hr
  · rfl

theorem answerReadObject_some {s : State} {k : Nat} {d : ObjDesc} (hd : objDesc s k = some d)
    (hst : s.store.status = .inForce) : answerReadObject k s = respondWith 0x06 0x00 (objectData s k d) s := by
  obtain ⟨r, hr⟩ : ∃ r, s.copy = some r := Option.isSome_iff_exists.1 (copy_isSome_of_objDesc hd)
  have hin : recordInForce s = some r := by rw [recordInForce, if_pos hst, hr]
  rw [answerReadObject, hin, hd]
  rfl

theorem combCode_rawComb (d : ObjDesc) (o : ObjIn) :
    combCode (rawComb d o) =
      (if o.openContact = d.openInverted then 0 else 2) + (if o.closedContact = d.closedInverted then 0 else 1) := by
  unfold rawComb indicates
  cases o.openContact <;> cases d.openInverted <;> cases o.closedContact <;> cases d.closedInverted <;> rfl

theorem readyCode_rawReady (d : ObjDesc) (o : ObjIn) :
    readyCode (rawReady d o) = if o.readyContact = d.readyInverted then 2 else 1 := by
  unfold rawReady indicates
  cases o.readyContact <;> cases d.readyInverted <;> rfl

theorem remaining_eq (s : State) (timer : Option Nat) : remaining s timer = timer.getD s.now - s.now := by
  cases timer <;> simp [remaining]

theorem reasonByte_eq (r : Option Reason) : reasonByte r = (r.map reasonCode).getD 0 := by cases r <;> rfl

theorem flagByte_eq (b : Bool) : flagByte b = if b then 1 else 0 := rfl

theorem sourceCode_eq (x : Source) : sourceCode x = if x = .remote then 1 else 2 := by cases x <;> rfl

theorem driveKindCode_eq (k : DriveKind) : driveKindCode k = if k = .motor then 1 else 2 := by cases k <;> rfl

theorem operationData_eq (op : Operation) :
    operationData op =
      [byteOf op.requester, op.tag, directionCode op.dir, byteOf op.cls, if op.source = .remote then 1 else 2,
        opStateCode op.state, byteOf op.deferCount, (op.lastDeferral.map reasonCode).getD 0] ++
        halfBytes (op.travelLimit.getD 0 / 10) ++ [(op.bypassReason.map reasonCode).getD 0] := by
  simp only [operationData, sourceCode_eq, reasonByte_eq]

theorem driveData_eq (s : State) :
    driveData s =
      match s.drive.record with
      | none => [0, 0, 0, 0, 0, 0, 0, 0, 0, 0, 0, 0, 0, 0, 0]
      | some r =>
        [1, byteOf r.object, directionCode r.dir, if r.kind = .motor then 1 else 2,
          if r.settling then 2 else 1, if r.energized then 1 else 0, if r.departed then 1 else 0] ++
          halfBytes (r.travel.getD s.now - s.now) ++ halfBytes (r.departure.getD s.now - s.now) ++
          halfBytes (r.coilPulse.getD s.now - s.now) ++ halfBytes (r.settle.getD s.now - s.now) := by
  unfold driveData
  cases s.drive.record with
  | none => rfl
  | some r => simp [remaining_eq, driveKindCode_eq, flagByte_eq]

theorem read_object {s : State} {bytes : List Byte} (hidle : PortIdle s) (b : Byte) (h1 : 1 ≤ b.toNat)
    (h8 : b.toNat ≤ 8) (h : Arrives s 0x06 [b] bytes) :
    ∃ t, exec (.readObject bytes) s = .next t ∧
        ((objDesc s b.toNat = none ∨ s.store.status ≠ .inForce) →
          Answered s t 0x06 0x08 [s.faults.pending.setWidth 8, if s.faults.relay then 1 else 0]) ∧
        (∀ d, objDesc s b.toNat = some d → s.store.status = .inForce →
          Answered s t 0x06 0x00 (objectData s b.toNat d)) := by
  refine ⟨_, exec_readObject hidle h1 h8 h, fun hno => ?_, fun d hd hst => ?_⟩
  · rw [answerReadObject_none (s := commandTaken 0x06 s) hno]
    exact respondWith_answered s _ _ _
  · rw [answerReadObject_some (s := commandTaken 0x06 s) hd hst]
    exact respondWith_answered s _ _ _

/-- The measurements, as the statements put them: free where a measurement is in FAULT (log 6). -/
theorem measureData_eq (s : State) :
    ∃ (supply : List Byte) (temperature : Byte), supply.length = 2 ∧
      (s.supply.valid = true → supply = halfBytes s.supply.value.toNat) ∧
      (s.temperature.valid = true → temperature = BitVec.ofInt 8 s.temperature.value) ∧
      measureData s =
        supply ++ [if s.supply.valid then 0 else 1, temperature, if s.temperature.valid then 0 else 1] := by
  refine ⟨if s.supply.valid then halfBytes s.supply.value.toNat
      else halfBytes (Config.faultSupplyValue s.supply.value).toNat,
    if s.temperature.valid then signedByte s.temperature.value else Config.faultTemperatureValue s.temperature.value,
    by split <;> rfl, fun h => if_pos h, fun h => if_pos h, ?_⟩
  cases hs : s.supply.valid <;> cases ht : s.temperature.valid <;> simp [measureData, hs, ht, flagByte]

theorem expiryUnits_bounds (ms : Nat) : 10 * expiryUnits ms < ms + 10 ∧ ms < 10 * expiryUnits ms + 10 := by
  unfold expiryUnits
  split
  · omega
  · split <;> omega

theorem flags_or_eq_add (held assented : Bool) :
    flagByte held ||| (if assented then 2 else 0) = (if held then 1 else 0) + (if assented then 2 else 0) := by
  cases held <;> cases assented <;> rfl

theorem answersData_eq (s : State) :
    answersData s = byteOf s.claims.answers.length :: s.claims.answers.flatMap fun e =>
      [byteOf e.1, if e.2 = .awaiting then 1 else 2, ((entryState s e.1).map entryStateCode).getD 0] := by
  unfold answersData
  congr 2
  funext e
  cases h : entryOf s e.1 <;> cases e.2 <;> simp [entryState, h, answerCode]

theorem foreignData_eq (s : State) :
    (fun e : Nat × ForeignRec => foreignData s e.1 e.2) = fun e =>
      [byteOf e.1, e.2.id, byteOf e.2.cls, byteOf e.2.deferCount] ++ halfBytes e.2.holdLimit ++
        halfBytes (expiryUnits (e.2.recorded + 10 * e.2.holdLimit - s.now)) ++
        [(if e.2.held then 1 else 0) + (if e.2.assented then 2 else 0)] ++ nodeBytes e.2.nodes := by
  funext e
  rw [foreignData, flags_or_eq_add]

theorem endingData_eq (e : Option LastEnding) :
    endingData e = (e.map fun x => [x.id, endCauseCode x.cause] ++
      (x.objection.map fun o => [byteOf o.station, o.reason]).getD [0, 0]).getD [0, 0, 0, 0] := by
  cases e with
  | none => rfl
  | some x => cases h : x.objection <;> simp [endingData, h]

theorem respondWith_answered_of_eq {s : State} {code status : Byte} {data data' : List Byte} (h : data = data') :
    Answered s (respondWith code status data (commandTaken code s)) code status data' :=
  h ▸ respondWith_answered s code status data

/-- Settles O46. -/
theorem readsAnswerAtOnce : Obligations.ReadsAnswerAtOnce := by
  intro s bytes hidle
  refine ⟨fun h => ?_, fun h => ?_, fun b h1 h63 h => ?_, fun b h1 h8 h => ?_, fun h => ?_, fun h => ?_⟩
  · exact ⟨_, exec_readIdentity hidle h, respondWith_answered_of_eq identityData_eq⟩
  · refine ⟨_, exec_readConfig hidle h, fun hst => respondWith_answered_of_eq ?_,
      fun record hrec => ⟨fun hst => respondWith_answered_of_eq ?_, fun hst => respondWith_answered_of_eq ?_,
        fun p hp hst => respondWith_answered_of_eq ?_⟩⟩
    · simp [configData, hst, recordStatusCode]
    · simp [configData, hst, hrec, recordStatusCode]
    · simp [configData, hst, hrec, recordStatusCode]
    · simp [configData, hst, hrec, hp, recordStatusCode, placeBytes]
  · refine ⟨_, exec_readView hidle h1 h63 h, fun c hc ha => respondWith_answered_of_eq (viewData_own hc ha),
      fun hcopy hent => respondWith_answered_of_eq (viewData_empty hcopy hent _),
      fun ha he => respondWith_answered_of_eq ?_, fun ha e he => respondWith_answered_of_eq ?_⟩
    · rw [viewData_peer ha, peerViewData_absent he]
    · rw [viewData_peer ha, peerViewData_entry he]
  · obtain ⟨t, ht, hno, hobj⟩ := read_object hidle b h1 h8 h
    refine ⟨t, ht, hno, fun d hd hst => ?_⟩
    obtain ⟨supply, temperature, hlen, hsup, htemp, hmeas⟩ := measureData_eq s
    refine ⟨supply, temperature, hlen, hsup, htemp, ?_⟩
    refine (congrArg (Answered s t 0x06 0x00) ?_).mp (hobj d hd hst)
    have hops : operationData = _ := funext operationData_eq
    unfold objectData
    rw [hmeas, driveData_eq, operationsData, hops]
    simp only [fieldData, combCode_rawComb, readyCode_rawReady, outputData, flagByte_eq, remaining_eq,
      List.append_assoc]
    cases s.drive.record <;> cases (objIn s b.toNat).qualified <;> rfl
  · refine ⟨_, exec_readClaims hidle h, expiryUnits, expiryUnits_bounds, ?_⟩
    refine respondWith_answered_of_eq ?_
    unfold claimsData
    rw [answersData_eq, foreignData_eq, endingData_eq]
    unfold ownClaimData
    cases s.claims.own <;> cases s.claims.lastEnding <;> simp [flagByte_eq]
  · exact ⟨_, exec_readCounters hidle h, respondWith_answered_of_eq (countersData_eq s.counters)⟩

end Sys2Proof.Machine


namespace Sys2Proof.Machine

/-! ### Outside READY an own-content event asks for no STATUS (R62) -/

theorem ownChanged_link_of_not_ready {s : State} (h : s.start.phase ≠ .ready) : (ownChanged s).link = s.link := by
  unfold ownChanged
  split
  · rw [if_neg (by exact h)]
    rfl
  · rfl

theorem setPending_link_of_not_ready (p : CauseSet) {s : State} (h : s.start.phase ≠ .ready) :
    (setPending p s).link = s.link := by
  unfold setPending
  split
  · rfl
  · exact ownChanged_link_of_not_ready h

theorem beginCondition_link_of_not_ready (c : Cause) {s : State} (h : s.start.phase ≠ .ready) :
    (beginCondition c s).link = s.link := by
  unfold beginCondition
  split
  · rfl
  · exact setPending_link_of_not_ready _ h

theorem removeClaim_link_of_empty {s : State} (hu : s.link.urgent = []) (hn : s.link.normal = [])
    (hc : s.link.current = none) : (removeClaim s).link = s.link := by
  have honline : claimOnLine s.link = false := by simp [claimOnLine, hn]
  unfold removeClaim
  rw [if_neg (by simp [honline])]
  cases hl : s.link
  simp only [hl] at hu hn hc
  subst hu hn hc
  simp only [State.pick_link, State.withLink_link, Link.pick, wantedClass]
  split <;> simp

theorem dropClaiming_link_of_empty (cause : EndCause) {s : State} (hp : s.start.phase ≠ .ready)
    (hu : s.link.urgent = []) (hn : s.link.normal = []) (hc : s.link.current = none) :
    (dropClaiming cause s).link = s.link := by
  have hrem := removeClaim_link_of_empty hu hn hc
  have hstart : (removeClaim s).start = s.start := removeClaim_touches s .start (by decide)
  unfold dropClaiming
  split
  · rfl
  · split
    · rfl
    · refine (ownChanged_link_of_not_ready ?_).trans hrem
      change (removeClaim s).start.phase ≠ .ready
      rw [hstart]
      exact hp

/-! ### An address conflict (R168) -/

/-- The node silenced, the condition ADDRESS_CONFLICT begun. -/
def conflictBegun (s : State) : State :=
  beginCondition .addressConflict
    (silenced (s.withStart { s.start with listen := none, announce := none, departure := none }))

/-- An address conflict up to the departure that it carries to its end (R168). -/
def conflicted (s : State) : State := silenceView (silenceRequests (dropClaiming .silenced (conflictBegun s)))

theorem conflictBegun_touches (s : State) : Touches [.start, .link, .view, .faults] s (conflictBegun s) :=
  (((touches_withStart s _).trans (silenced_touches _)).trans (beginCondition_touches _ _)).mono (by decide)

theorem silenced_start (s : State) : (silenced s).start = { s.start with phase := .silent } :=
  ownChanged_touches _ .start (by decide)

theorem conflictBegun_start (s : State) :
    (conflictBegun s).start = { s.start with phase := .silent, listen := none, announce := none, departure := none } :=
  Eq.trans (beginCondition_touches _ _ .start (by decide)) (silenced_start _)

theorem silenced_link (s : State) :
    (silenced s).link = { s.link with
      urgent := [], normal := [], inbound := [], viewTaken := false, current := none, header := none } := by
  have hlink : (enterPhase .silent s).link = s.link := ownChanged_link_of_not_ready (by simp)
  simp only [silenced, silenceLink, State.withLink_link, hlink]

theorem conflictBegun_link (s : State) :
    (conflictBegun s).link = { s.link with
      urgent := [], normal := [], inbound := [], viewTaken := false, current := none, header := none } :=
  (beginCondition_link_of_not_ready _ (by rw [silenced_phase]; decide)).trans (silenced_link _)

theorem beginCondition_entries (c : Cause) (s : State) : (beginCondition c s).view.entries = s.view.entries := by
  unfold beginCondition setPending
  split
  · rfl
  · dsimp only
    split
    · rfl
    · rw [ownChanged_view]
      rfl

theorem conflictBegun_entries (s : State) : (conflictBegun s).view.entries = s.view.entries := by
  unfold conflictBegun
  rw [beginCondition_entries]
  simp [silenced, enterPhase, silenceLink, ownChanged_view]

theorem dropClaiming_view (cause : EndCause) (s : State) : (dropClaiming cause s).view.entries = s.view.entries := by
  have hrem : (removeClaim s).view = s.view := removeClaim_touches s .view (by decide)
  unfold dropClaiming
  split
  · rfl
  · split
    · rfl
    · refine Eq.trans ?_ (congrArg View.entries hrem)
      rw [claimToIdle, ownChanged_view]
      rfl

/-- What an address conflict leaves before the departure's end (R168). -/
structure Conflicted (s u : State) : Prop where
  start : u.start = { s.start with phase := .silent, listen := none, announce := none, departure := none }
  conflict : causeIn u.faults.holding .addressConflict = true
  silent : causeIn u.faults.holding .linkSilent = false
  pends : causeIn s.faults.holding .addressConflict = false → causeIn u.faults.pending .addressConflict = true
  flags : FlagsStay s u
  silence : u.view.silence = none
  entries : u.view.entries = s.view.entries
  link : u.link = { s.link with
    urgent := [], normal := [], inbound := [], viewTaken := false, current := none, header := none }
  req : u.req = { s.req with queue := s.req.queue.filter isDriven, deferTimer := none }
  standing : ownHolds s false = false → u.claims = s.claims ∧ u.counters = s.counters
  dropped : ∀ c, s.claims.own = some c → c.held = false →
    u.claims = { s.claims with
      own := none, answers := [], window := none
      lastEnding := some { id := c.id, cause := .silenced, objection := none } } ∧
      u.counters = { s.counters with claimsWithdrawn := bump s.counters.claimsWithdrawn }
  touches : Touches [.start, .link, .view, .faults, .claims, .req, .counters] s u

theorem silenceView_faults (s : State) :
    (silenceView s).faults = { s.faults with holding := s.faults.holding &&& ~~~ causeBit .linkSilent } := rfl

theorem causeIn_and_not_other (set : CauseSet) {c d : Cause} (h : c ≠ d) :
    causeIn (set &&& ~~~ causeBit c) d = causeIn set d := by
  revert set
  cases c <;> cases d <;> first | exact absurd rfl h | decide

theorem conflictBegun_pends {s : State} (h : causeIn s.faults.holding .addressConflict = false) :
    causeIn (conflictBegun s).faults.pending .addressConflict = true := by
  refine beginCondition_pends (Eq.trans ?_ h)
  exact congrArg (causeIn ·.holding _) (silenced_touches _ .faults (by decide))

theorem conflictBegun_flagsStay (s : State) : FlagsStay s (conflictBegun s) :=
  (((touches_withStart s _).trans (silenced_touches _)).flagsStay (by decide)).trans (beginCondition_flagsStay _ _)

theorem conflicted_conflicted (s : State) : Conflicted s (conflicted s) := by
  obtain ⟨w, hw⟩ : ∃ w, w = conflictBegun s := ⟨_, rfl⟩
  obtain ⟨y, hy⟩ : ∃ y, y = dropClaiming .silenced w := ⟨_, rfl⟩
  have hu : conflicted s = silenceView (silenceRequests y) := by rw [hy, hw]; rfl
  have hwt : Touches [.start, .link, .view, .faults] s w := hw ▸ conflictBegun_touches s
  have hyt : Touches claimParts w y := hy ▸ dropClaiming_touches _ _
  have hwlink : w.link = _ := hw ▸ conflictBegun_link s
  have hwstart : w.start = _ := hw ▸ conflictBegun_start s
  have hwholds : causeIn w.faults.holding .addressConflict = true := hw ▸ beginCondition_holds _ _
  have hfaults : y.faults = w.faults := hyt .faults (by decide)
  have hclaims : w.claims = s.claims := hwt .claims (by decide)
  have hcounters : w.counters = s.counters := hwt .counters (by decide)
  have hreq : y.req = s.req := Eq.trans (hyt .req (by decide)) (hwt .req (by decide))
  have hylink : y.link = w.link := by
    rw [hy]
    exact dropClaiming_link_of_empty _ (by simp [hwstart]) (by rw [hwlink]) (by rw [hwlink]) (by rw [hwlink])
  rw [hu]
  refine ⟨?_, ?_, causeIn_and_not_self _ _, fun h => ?_, ?_, rfl, ?_, ?_, ?_, fun h => ?_, fun c hc hheld => ?_, ?_⟩
  · exact Eq.trans (hyt .start (by decide)) hwstart
  · rw [silenceView_faults, causeIn_and_not_other _ (by decide)]
    change causeIn y.faults.holding _ = true
    rwa [hfaults]
  · change causeIn y.faults.pending _ = true
    rw [hfaults, hw]
    exact conflictBegun_pends h
  · have hflags : FlagsStay s w := hw ▸ conflictBegun_flagsStay s
    have hpending : (silenceView (silenceRequests y)).faults.pending = w.faults.pending :=
      (congrArg Faults.pending hfaults :)
    exact hflags.trans (flagsStay_of_pending hpending)
  · change y.view.entries = _
    rw [hy, dropClaiming_view, hw, conflictBegun_entries]
  · exact hylink.trans hwlink
  · change { y.req with queue := y.req.queue.filter isDriven, deferTimer := none } = _
    rw [hreq]
  · have hnot : ownHolds w false = false := by unfold ownHolds at *; rwa [hclaims]
    have hyw : y = w := hy.trans (dropClaiming_of_not_claiming hnot _)
    exact ⟨(congrArg State.claims hyw).trans hclaims, (congrArg State.counters hyw).trans hcounters⟩
  · have hown : w.claims.own = some c := by rw [hclaims]; exact hc
    constructor
    · exact (congrArg State.claims hy).trans ((dropClaiming_claims hown hheld .silenced).trans (by rw [hclaims]))
    · exact (congrArg State.counters hy).trans ((dropClaiming_counters hown hheld .silenced).trans (by rw [hcounters]))
  · exact (((hwt.trans hyt).trans (silenceRequests_touches y)).trans (silenceView_touches _)).mono (by decide)

/-! ### A received header (R51 to R53) -/

theorem takesUp_false_iff (l : Link) (origin : HeaderOrigin) :
    takesUp l origin = false ↔
      origin = .ownTransmission ∨ origin = .sameStretch ∧ (l.header ≠ none ∨ l.ignoring = true) := by
  cases origin <;> cases hh : l.header <;> cases hi : l.ignoring <;> simp [takesUp, hh, hi]

theorem takesUp_of_taken {l : Link} {origin : HeaderOrigin}
    (h : origin = .afterIdle ∨ (origin = .sameStretch ∧ l.header = none ∧ l.ignoring = false)) :
    takesUp l origin = true := by
  obtain rfl | ⟨rfl, hh, hi⟩ := h
  · rfl
  · simp [takesUp, hh, hi]

theorem exec_headerReceived_ignored {s : State} {origin : HeaderOrigin} (syms : List LineSym)
    (h : receives s.start.phase = false ∨ takesUp s.link origin = false) :
    exec (.headerReceived ⟨origin, syms⟩) s = .next s := by
  have harm : exec (.headerReceived ⟨origin, syms⟩) s = execHeaderReceived ⟨origin, syms⟩ s := rfl
  rw [harm, execHeaderReceived, if_neg]
  rcases h with h | h <;> simp [h]

theorem exec_headerReceived_taken {s : State} {origin : HeaderOrigin} (syms : List LineSym)
    (hr : receives s.start.phase = true) (ht : takesUp s.link origin = true) :
    (judgeHeader syms = none →
      exec (.headerReceived ⟨origin, syms⟩) s = .next (headerFailed (decide (headerLength ≤ syms.length)) s)) ∧
    (∀ h, judgeHeader syms = some h →
      exec (.headerReceived ⟨origin, syms⟩) s =
        .next (if h.src = ownAddress s then ownSourceHeader s else headerPassed h s)) := by
  have harm : exec (.headerReceived ⟨origin, syms⟩) s = execHeaderReceived ⟨origin, syms⟩ s := rfl
  rw [harm, execHeaderReceived, hr, ht]
  exact ⟨fun hj => by simp [hj], fun h hj => by simp [hj]⟩

/-- The departure that an address conflict carries to its end (R168). -/
theorem conflictDeparture_ended (s u : State) :
    ((s.start.departure = none ∨ s.link.halted = true) → conflictDeparture s.start.departure s.link.halted u = u) ∧
    (∀ d, s.start.departure = some d → s.link.halted = false →
      DepartureEnded d u (conflictDeparture s.start.departure s.link.halted u)) := by
  constructor
  · rintro (h | h)
    · rw [h]; rfl
    · cases hd : s.start.departure <;> simp [conflictDeparture, h]
  · intro d hd hh
    rw [hd, conflictDeparture, if_neg (by simp [hh])]
    exact finishDeparture_ended d u

/-- Settles O32, by the judgement of the header. -/
theorem headersAreJudged : Obligations.HeadersAreJudged := by
  intro s origin syms
  refine ⟨fun h => exec_headerReceived_ignored syms (h.imp_right (takesUp_false_iff _ _).2), fun hr ht => ?_⟩
  obtain ⟨hfail, hpass⟩ := exec_headerReceived_taken syms hr (takesUp_of_taken ht)
  refine ⟨fun hj => ⟨_, hfail hj, ?_, rfl, rfl⟩, fun h hj => ⟨fun hsrc => ?_, fun hsrc hsil => ?_, fun hsrc hsil => ?_⟩⟩
  · exact ((touches_withCounters s _).trans (touches_withLink _ _)).mono (by decide)
  · exact ⟨headerPassed h s, by rw [hpass h hj, if_neg hsrc], touches_withLink s _, rfl⟩
  · refine ⟨s.withLink { s.link with header := none, ignoring := true }, ?_, touches_withLink s _, rfl⟩
    rw [hpass h hj, if_pos hsrc, ownSourceHeader, if_pos (by exact hsil)]
  · set x := s.withLink { s.link with header := none, ignoring := true } with hx
    have hc := conflicted_conflicted x
    obtain ⟨hsame, hended⟩ := conflictDeparture_ended x (conflicted x)
    refine ⟨conflicted x, goSilent x, ?_, hc.start, hc.conflict, hc.silent, hc.pends, hc.flags, hc.silence, hc.entries,
      hc.link, hc.req, fun hown => hc.standing ?_, fun c hown => ⟨fun hheld => hc.standing ?_, hc.dropped c hown⟩,
      ((touches_withLink s _).trans hc.touches).mono (by decide), hsame, hended⟩
    · rw [hpass h hj, if_pos hsrc, ownSourceHeader, if_neg (by exact hsil)]
    · unfold ownHolds
      rw [show x.claims.own = none from hown]
    · unfold ownHolds
      rw [show x.claims.own = some c from hown]
      simp [hheld]

end Sys2Proof.Machine


namespace Sys2Proof.Machine

/-! ### The end of an attempt (R48, R49) -/

theorem finishDeparture_pick (d : Departure) (s : State) : (finishDeparture d s).pick = finishDeparture d s.pick := by
  cases d <;> rfl

/-- The controller begins no attempt from then on (R50). -/
def halted (s : State) : State := s.withLink { s.link with halted := true }

theorem halted_touches (s : State) : Touches [.link] s (halted s) := touches_withLink s _

/-- The end of a departure with the choice of the current frame taken before it. -/
theorem endDeparture_pick (s : State) :
    (s.start.departure = none → (endDeparture s).pick = (halted s).pick) ∧
    (∀ d, s.start.departure = some d → (endDeparture s).pick = finishDeparture d (halted s).pick) := by
  have heq : endDeparture s = match s.start.departure with
      | none => halted s
      | some d => finishDeparture d (halted s) := rfl
  rw [heq]
  exact ⟨fun h => by rw [h], fun d h => by rw [h]; exact finishDeparture_pick d (halted s)⟩

/-- A marker that has left its queue with what follows it, and the heartbeat restarted (R49, R63). -/
def markerLeft (renew final sent inReady : Bool) (rest : List NormalItem) (s : State) : State :=
  markerEnded inReady (s.withLink { s.link with normal := rest ++ followingMarker renew final sent })

theorem markerLeft_touches (renew final sent inReady : Bool) (rest : List NormalItem) (s : State) :
    Touches [.link, .view] s (markerLeft renew final sent inReady rest s) :=
  (touches_withLink s _).trans (markerEnded_touches _ _)

theorem markerSent_eq (renew final : Bool) (rest : List NormalItem) (a : Attempt) (s : State) :
    markerSent renew final rest a s =
      let x := markerLeft renew final a.frame.final a.inReady rest s
      let y := if s.start.phase = .announce then enterReady x else x
      if final && a.frame.final then endDeparture y else y := rfl

theorem exec_frameSent_urgent {s : State} {a : Attempt} (ha : s.link.attempt = some a) (hcls : a.cls = .urgent)
    {i : UrgentItem} (hi : s.link.urgent.head? = some i) :
    exec .frameSent s =
      .next ((clearAttempt s).withLink { (clearAttempt s).link with urgent := s.link.urgent.tail }).pick := by
  obtain ⟨rest, hrest⟩ := List.head?_eq_some_iff.1 hi
  have harm : exec .frameSent s = execFrameSent s := rfl
  simp [harm, execFrameSent, ha, hcls, hrest]

theorem exec_frameSent_marker {s : State} {a : Attempt} (ha : s.link.attempt = some a) (hcls : a.cls = .normal)
    {renew final : Bool} {n : Nat} (hi : s.link.normal.head? = some (.marker renew final n)) :
    exec .frameSent s = .next (markerSent renew final s.link.normal.tail a (clearAttempt s)).pick := by
  obtain ⟨rest, hrest⟩ := List.head?_eq_some_iff.1 hi
  have harm : exec .frameSent s = execFrameSent s := rfl
  simp [harm, execFrameSent, ha, hcls, hrest]

theorem exec_frameSent_claim {s : State} {a : Attempt} (ha : s.link.attempt = some a) (hcls : a.cls = .normal)
    {id : Byte} {f : Frame} {n : Nat} {removed : Bool}
    (hi : s.link.normal.head? = some (.claim id f n removed)) :
    exec .frameSent s = .next (claimSent id ((clearAttempt s).withLink
      { (clearAttempt s).link with normal := s.link.normal.tail })).pick := by
  obtain ⟨rest, hrest⟩ := List.head?_eq_some_iff.1 hi
  have harm : exec .frameSent s = execFrameSent s := rfl
  simp [harm, execFrameSent, ha, hcls, hrest]

theorem exec_frameSent_none {s : State} {a : Attempt} (ha : s.link.attempt = some a) (hu : s.link.urgent = [])
    (hn : s.link.normal = []) : exec .frameSent s = .next (clearAttempt s) := by
  have harm : exec .frameSent s = execFrameSent s := rfl
  cases hcls : a.cls <;> simp [harm, execFrameSent, ha, hcls, hu, hn]

/-- What follows a marker whose attempt was sent, as the statements put it (R45, R50). -/
theorem followingMarker_eq (renew final sent : Bool) :
    followingMarker renew final sent =
      if final = true then (if sent = true then [] else [.marker false true 0])
      else if renew = true then [.marker false false 0] else [] := rfl

theorem markerOnLine_of_free {l : Link} (h : l.attempt = none) : markerOnLine l = false := by
  simp [markerOnLine, normalOnLine, h]

/-- With the line free a STATUS asked for joins the queue unless one waits (R45). -/
theorem askedNormal_of_free {l : Link} (h : l.attempt = none) :
    askedNormal l = l.normal ++ if l.normal.any isMarker then [] else [.marker false false 0] := by
  unfold askedNormal
  rw [markerOnLine_of_free h]
  split <;> simp

theorem enterReady_link (s : State) :
    (enterReady s).link = (ownChanged (s.withStart { s.start with phase := .ready })).link := rfl

/-- The entry to READY of a node whose line is free (R61, R62, R75, R166). -/
theorem enterReady_normal {s : State} (hc : s.copy.isSome = true) (ha : s.link.attempt = none) :
    (enterReady s).link.normal = s.link.normal ++
      if s.link.normal.any isMarker then [] else [.marker false false 0] := by
  rw [enterReady_link, ownChanged_normal, if_pos (by simp [asksStatus, hc])]
  exact askedNormal_of_free ha

theorem enterReady_start (s : State) : (enterReady s).start = { s.start with phase := .ready } :=
  ownChanged_touches _ .start (by decide)

theorem enterReady_view {s : State} {r : BayRecord} (hc : s.copy = some r) :
    (enterReady s).view =
      { s.view with counter := s.view.counter + 1, silence := some (s.now + 3 * r.heartbeat) } := by
  set x := s.withStart { s.start with phase := .ready } with hx
  have hview : (ownChanged x).view = { s.view with counter := s.view.counter + 1 } := by
    rw [ownChanged_view, if_pos (by simp [hx, hc])]
    rfl
  have hcopy : (ownChanged x).copy = some r := Eq.trans (ownChanged_touches x .copy (by decide)) hc
  have hnow : (ownChanged x).now = s.now := ownChanged_touches x .now (by decide)
  change { (ownChanged x).view with
    silence := some ((ownChanged x).now + 3 * fieldOf (ownChanged x) (·.heartbeat)) } = _
  rw [hview, hnow, fieldOf, hcopy]

/-- A marker whose attempt was sent and that ends no departure (R49). -/
theorem markerSent_of_not_final {renew final : Bool} {a : Attempt} (h : final = false ∨ a.frame.final = false)
    (rest : List NormalItem) (s : State) :
    markerSent renew final rest a s =
      if s.start.phase = .announce then enterReady (markerLeft renew final a.frame.final a.inReady rest s)
      else markerLeft renew final a.frame.final a.inReady rest s := by
  rw [markerSent_eq]
  refine if_neg ?_
  rcases h with h | h <;> simp [h]

theorem exec_frameSent_announce {s : State} {a : Attempt} (ha : s.link.attempt = some a) (hcls : a.cls = .normal)
    {renew final : Bool} {n : Nat} (hi : s.link.normal.head? = some (.marker renew final n))
    (hf : final = false ∨ a.frame.final = false) (hp : s.start.phase = .announce) {r : BayRecord}
      (hr : s.copy = some r) :
    ∃ t, exec .frameSent s = .next t ∧ t.link.attempt = none ∧ t.start = { s.start with phase := .ready } ∧
      t.view = { s.view with
        counter := s.view.counter + 1, joining := if a.inReady then false else s.view.joining
        heartbeat := some (s.now + r.heartbeat), silence := some (s.now + 3 * r.heartbeat) } ∧
      t.link.normal = s.link.normal.tail ++ followingMarker renew final a.frame.final ++
        (if (s.link.normal.tail ++ followingMarker renew final a.frame.final).any isMarker then []
          else [.marker false false 0]) ∧
      t.link.urgent = s.link.urgent ∧ t.link.inbound = s.link.inbound ∧ Touches [.link, .view, .start] s t := by
  have hx := markerLeft_touches renew final a.frame.final a.inReady s.link.normal.tail (clearAttempt s)
  have hxlink : (markerLeft renew final a.frame.final a.inReady s.link.normal.tail (clearAttempt s)).link =
    { s.link with
      attempt := none, current := none
      normal := s.link.normal.tail ++ followingMarker renew final a.frame.final } := rfl
  have hxview : (markerLeft renew final a.frame.final a.inReady s.link.normal.tail (clearAttempt s)).view =
    { s.view with
      heartbeat := some (s.now + fieldOf s (·.heartbeat))
      joining := if a.inReady then false else s.view.joining } := rfl
  have ht := exec_frameSent_marker ha hcls hi
  rw [markerSent_of_not_final hf, if_pos (by exact hp)] at ht
  revert ht
  generalize markerLeft renew final a.frame.final a.inReady s.link.normal.tail (clearAttempt s) = x at hx hxlink hxview
  intro ht
  have hsx : Touches [.link, .view] s x := ((clearAttempt_touches s).trans hx).mono (by decide)
  have hcopy : x.copy = some r := Eq.trans (hsx .copy (by decide)) hr
  have hnow : x.now = s.now := hsx .now (by decide)
  obtain ⟨hkeepu, hkeepi, -, hkeepa, -⟩ := ownChanged_keeps (x.withStart { x.start with phase := .ready })
  refine ⟨_, ht, ?_, ?_, ?_, ?_, ?_, ?_, ?_⟩
  · rw [State.pick_link, pick_attempt, enterReady_link, hkeepa]
    exact congrArg Link.attempt hxlink
  · exact (enterReady_start x).trans (by rw [hsx .start (by decide)])
  · refine (enterReady_view hcopy).trans ?_
    rw [hxview, hnow, fieldOf, hr]
  · rw [State.pick_link, pick_normal, enterReady_normal (by rw [hcopy]; rfl) (by rw [hxlink]), hxlink]
  · rw [State.pick_link, pick_urgent, enterReady_link, hkeepu]
    exact (congrArg Link.urgent hxlink :)
  · rw [State.pick_link, pick_inbound, enterReady_link, hkeepi]
    exact (congrArg Link.inbound hxlink :)
  · exact ((hsx.trans (enterReady_touches x)).trans (pick_touches _)).mono (by decide)

theorem exec_frameSent_ready {s : State} {a : Attempt} (ha : s.link.attempt = some a) (hcls : a.cls = .normal)
    {renew final : Bool} {n : Nat} (hi : s.link.normal.head? = some (.marker renew final n))
    (hf : final = false ∨ a.frame.final = false) (hp : s.start.phase = .ready) :
    exec .frameSent s =
      .next (markerLeft renew final a.frame.final a.inReady s.link.normal.tail (clearAttempt s)).pick := by
  rw [exec_frameSent_marker ha hcls hi, markerSent_of_not_final hf, if_neg]
  exact fun h => absurd (hp.symm.trans h) (by decide)

theorem exec_frameSent_final {s : State} {a : Attempt} (ha : s.link.attempt = some a) (hcls : a.cls = .normal)
    {renew : Bool} {n : Nat} (hi : s.link.normal.head? = some (.marker renew true n)) (hf : a.frame.final = true)
    (hp : s.start.phase = .ready) {d : Departure} (hd : s.start.departure = some d) :
    exec .frameSent s =
      .next (finishDeparture d
        (halted (markerLeft renew true true a.inReady s.link.normal.tail (clearAttempt s))).pick) := by
  rw [exec_frameSent_marker ha hcls hi, markerSent_eq, if_pos (by simp [hf]), hf, if_neg]
  · exact congrArg Host.Outcome.next ((endDeparture_pick _).2 d hd)
  · exact fun h => absurd (hp.symm.trans h) (by decide)

theorem finishDeparture_link (d : Departure) (s : State) : (finishDeparture d s).link = s.link := by
  cases d <;> rfl

theorem claimSent_link (id : Byte) (s : State) :
    (claimSent id s).link = s.link := claimSent_touches id s .link (by decide)

theorem claimSent_of_claiming {s : State} {c : OwnClaim} (hown : s.claims.own = some c) (hheld : c.held = false)
    (id : Byte) (hid : c.id = id) :
    (claimSent id s).claims = { s.claims with window := some (s.now + fieldOf s (·.claimWindow)) } := by
  rw [claimSent, hown]
  exact congrArg State.claims (if_pos ⟨hheld, hid⟩)

theorem claimSent_of_other {s : State} {id : Byte} (h : ∀ c, s.claims.own = some c → c.held = true ∨ c.id ≠ id) :
    claimSent id s = s := by
  unfold claimSent
  split
  · rfl
  · rename_i c hown
    refine if_neg fun hmine => ?_
    rcases h c hown with hheld | hid
    · exact absurd (hmine.1.symm.trans hheld) (by decide)
    · exact hid hmine.2

/-- Settles O31, by the item at the head of the attempt's queue. -/
theorem sentFramesLeaveTheirQueue : Obligations.SentFramesLeaveTheirQueue := by
  intro s a ha
  refine ⟨fun hcls i hi => ?_, fun hcls renew final n hi => ?_, fun hcls id f n removed hi => ?_,
    exec_frameSent_none ha⟩
  · refine ⟨_, exec_frameSent_urgent ha hcls hi, by simp [clearAttempt], by simp, by simp, ?_⟩
    exact (((clearAttempt_touches s).trans (touches_withLink _ _)).trans (pick_touches _)).mono (by decide)
  · refine ⟨_, followingMarker_eq renew final a.frame.final, fun hf => ⟨fun hp r hr => ?_, fun hp => ?_⟩, ?_⟩
    · exact exec_frameSent_announce ha hcls hi hf hp hr
    · refine ⟨_, exec_frameSent_ready ha hcls hi hf hp, by simp [markerLeft, markerEnded, clearAttempt], rfl,
        by simp [markerLeft, markerEnded], by simp [markerLeft, markerEnded],
        by simp [markerLeft, markerEnded, clearAttempt], ?_⟩
      exact (((clearAttempt_touches s).trans (markerLeft_touches _ _ _ _ _ _)).trans (pick_touches _)).mono (by decide)
    · rintro rfl hf hp d hd
      refine ⟨_, _, exec_frameSent_final ha hcls hi hf hp hd, ?_, ?_, ?_, ?_, ?_, finishDeparture_ended d _, ?_⟩
      · simp [halted, markerLeft, markerEnded, clearAttempt]
      · simp [halted]
      · simp [halted, markerLeft, markerEnded, followingMarker]
      · simp [halted, markerLeft, markerEnded]
      · exact ((((clearAttempt_touches s).trans (markerLeft_touches _ _ _ _ _ _)).trans (halted_touches _)).trans
          (pick_touches _)).mono (by decide)
      · refine exec_attemptStart_idle (.inr (.inr (.inl ?_)))
        rw [finishDeparture_link]
        simp [halted]
  · set x := (clearAttempt s).withLink { (clearAttempt s).link with normal := s.link.normal.tail } with hx
    have hsx : Touches [.link] s x := ((clearAttempt_touches s).trans (touches_withLink _ _)).mono (by decide)
    refine ⟨_, exec_frameSent_claim ha hcls hi, ?_, ?_, ?_, ?_, fun c hown hheld hid => ?_, fun hother => ?_⟩
    · simp [claimSent_link, clearAttempt]
    · simp [claimSent_link]
    · simp [claimSent_link]
    · exact ((hsx.trans (claimSent_touches id x)).trans (pick_touches _)).mono (by decide)
    · exact claimSent_of_claiming (s := x) hown hheld id hid
    · exact (congrArg State.claims (claimSent_of_other (s := x) hother) :)

end Sys2Proof.Machine


namespace Sys2Proof.Machine

/-! ### The judgement of the window does not read the window (R104) -/

theorem handUrgent_stopWindow (f : Frame) (s : State) :
    handUrgent f (stopWindow s) = stopWindow (handUrgent f s) := by
  unfold handUrgent
  rw [show (stopWindow s).start = s.start from rfl, show (stopWindow s).link = s.link from rfl]
  split
  · split <;> rfl
  · rfl

theorem removeClaim_stopWindow (s : State) : removeClaim (stopWindow s) = stopWindow (removeClaim s) := by
  unfold removeClaim
  rw [show (stopWindow s).link = s.link from rfl]
  split <;> rfl

theorem handRelease_stopWindow (id : Byte) (form : Option (Nat × Position)) (s : State) :
    handRelease id form (stopWindow s) = stopWindow (handRelease id form s) := handUrgent_stopWindow _ s

/-- A withdrawal stops the window, and so does not read it (R109, R120). -/
theorem withdrawClaim_stopWindow (cause : EndCause) (o : Option Objection) {s : State} {c : OwnClaim}
    (hown : s.claims.own = some c) : withdrawClaim cause o (stopWindow s) = withdrawClaim cause o s := by
  rw [withdrawClaim, show (stopWindow s).claims.own = some c from hown, withdrawClaim, hown]
  dsimp only
  rw [removeClaim_stopWindow, handRelease_stopWindow]
  rfl

theorem judgeWindow_stopWindow {s : State} {c : OwnClaim} (hown : s.claims.own = some c) (hheld : c.held = false) :
    judgeWindow (stopWindow s) = judgeWindow s := by
  have hgrant : grantClaim c (stopWindow s) = grantClaim c s := rfl
  have hround : newRound c (stopWindow s) = newRound c s := rfl
  rw [judgeWindow, judgeWindow, show (stopWindow s).claims.own = some c from hown, hown]
  dsimp only
  rw [hgrant, hround, show answersGrant (stopWindow s) = answersGrant s from rfl,
    show bypassHolds (stopWindow s) = bypassHolds s from rfl, withdrawAndReport, withdrawAndReport,
    withdrawClaim_stopWindow _ _ hown, if_neg (by simp [hheld] : ¬ c.held = true),
      if_neg (by simp [hheld] : ¬ c.held = true)]

/-- The window expiry of a claim whose window ends now (R102). -/
theorem exec_windowExpiry_now {s : State} {c : OwnClaim} (hown : s.claims.own = some c) (hheld : c.held = false) :
    exec .windowExpiry (s.withClaims { s.claims with window := some s.now }) = .next (judgeWindow s) := by
  set u := s.withClaims { s.claims with window := some s.now } with hu
  have hnow : u.reachTime s.now = u := by
    rw [State.reachTime, show u.now = s.now from rfl, max_self]
    rfl
  rw [exec_windowExpiry (s := u) (d := s.now) (own := c) rfl hown hheld, hnow,
    judgeWindow_stopWindow (s := u) hown hheld,
    ← judgeWindow_stopWindow (s := s) hown hheld, ← judgeWindow_stopWindow (s := u) hown hheld]
  rfl

/-! ### A collision (R48, R49) -/

section Collided

variable {s : State} {h : Nat} {read driven : Level} {a : Attempt} (ha : s.link.attempt = some a)
  (hd : levelAt a.symbols h = some driven)
include ha hd

theorem exec_collision_same (hr : driven = read) : exec (.collision h read) s = .next s := by
  have harm : exec (.collision h read) s = execCollision h read s := rfl
  simp [harm, execCollision, ha, hd, hr]

variable (hr : driven ≠ read)
include hr

theorem exec_collision : exec (.collision h read) s = .next (collide a s) := by
  have harm : exec (.collision h read) s = execCollision h read s := rfl
  simp [harm, execCollision, ha, hd, hr]

theorem exec_collision_urgent (hcls : a.cls = .urgent) {i : UrgentItem} (hi : s.link.urgent.head? = some i) :
    exec (.collision h read) s = .next (urgentCollided i s.link.urgent.tail (clearAttempt s)).pick := by
  obtain ⟨rest, hrest⟩ := List.head?_eq_some_iff.1 hi
  rw [exec_collision ha hd hr]
  simp [collide, hcls, hrest]

theorem exec_collision_marker (hcls : a.cls = .normal) {renew final : Bool} {n : Nat}
    (hi : s.link.normal.head? = some (.marker renew final n)) :
    exec (.collision h read) s = .next (markerCollided renew final n s.link.normal.tail (clearAttempt s)).pick := by
  obtain ⟨rest, hrest⟩ := List.head?_eq_some_iff.1 hi
  rw [exec_collision ha hd hr]
  simp [collide, hcls, hrest]

theorem exec_collision_claim (hcls : a.cls = .normal) {id : Byte} {f : Frame} {n : Nat} {removed : Bool}
    (hi : s.link.normal.head? = some (.claim id f n removed)) :
    exec (.collision h read) s = .next (claimCollided id f n removed s.link.normal.tail (clearAttempt s)).pick := by
  obtain ⟨rest, hrest⟩ := List.head?_eq_some_iff.1 hi
  rw [exec_collision ha hd hr]
  simp [collide, hcls, hrest]

theorem exec_collision_none (hu : s.link.urgent = []) (hn : s.link.normal = []) :
    exec (.collision h read) s = .next (clearAttempt s) := by
  rw [exec_collision ha hd hr]
  cases hcls : a.cls <;> simp [collide, hcls, hu, hn]

end Collided

/-- A marker abandoned, before the end of a departure (R49, R63, R165). -/
def markerGivenUp (renew final : Bool) (rest : List NormalItem) (s : State) : State :=
  let x := markerEnded false (countAbandoned (s.withLink
    { s.link with normal := rest ++ followingMarker renew final true }))
  if s.start.phase = .announce then requestStatus x else x

theorem markerAbandoned_eq (renew final : Bool) (rest : List NormalItem) (s : State) :
    markerAbandoned renew final rest s =
      if final then endDeparture (markerGivenUp renew final rest s) else markerGivenUp renew final rest s := rfl

/-- What an abandoned marker leaves with the line free. -/
structure GivenUp (renew final ended : Bool) (rest : List NormalItem) (s u : State) : Prop where
  counters : u.counters = { s.counters with txAbandoned := bump s.counters.txAbandoned }
  view : u.view = { s.view with heartbeat := some (s.now + fieldOf s (·.heartbeat)) }
  attempt : u.link.attempt = none
  urgent : u.link.urgent = s.link.urgent
  inbound : u.link.inbound = s.link.inbound
  halted : u.link.halted = (ended || s.link.halted)
  normal : u.link.normal = rest ++
    (if (renew = true ∧ final = false) ∨ (s.start.phase = .announce ∧ rest.any isMarker = false)
      then [.marker false false 0] else [])
  touches : Touches [.link, .view, .counters] s u

/-- The markers that follow an abandoned one: one after RENEW, and in ANNOUNCE one in any case (log 9). -/
theorem following_abandoned (renew final announcing : Bool) (rest : List NormalItem) :
    (rest ++ followingMarker renew final true) ++
        (if announcing = true ∧ (rest ++ followingMarker renew final true).any isMarker = false
          then [NormalItem.marker false false 0] else []) =
      rest ++ (if (renew = true ∧ final = false) ∨ (announcing = true ∧ rest.any isMarker = false)
        then [.marker false false 0] else []) := by
  cases renew <;> cases final <;> cases announcing <;> cases h : rest.any isMarker <;>
    simp [followingMarker, isMarker, h]

section GivenUp

variable {renew final ended : Bool} {rest : List NormalItem} {s u : State}

theorem GivenUp.pick (h : GivenUp renew final ended rest s u) : GivenUp renew final ended rest s u.pick :=
  { counters := h.counters, view := h.view
    attempt := by rw [State.pick_link, pick_attempt, h.attempt]
    urgent := by rw [State.pick_link, pick_urgent, h.urgent]
    inbound := by rw [State.pick_link, pick_inbound, h.inbound]
    halted := by rw [State.pick_link, pick_halted, h.halted]
    normal := by rw [State.pick_link, pick_normal, h.normal]
    touches := (h.touches.trans (pick_touches u)).mono (by decide) }

theorem GivenUp.halting (h : GivenUp renew final false rest s u) : GivenUp renew final true rest s (Machine.halted u) :=
  { h with halted := rfl, touches := (h.touches.trans (halted_touches u)).mono (by decide) }

end GivenUp

theorem markerGivenUp_givenUp (renew final : Bool) (rest : List NormalItem) {s : State}
    (hfree : s.link.attempt = none) :
    GivenUp renew final false rest s (markerGivenUp renew final rest s) := by
  set x := markerEnded false
    (countAbandoned (s.withLink { s.link with normal := rest ++ followingMarker renew final true })) with hx
  have hsx : Touches [.link, .view, .counters] s x :=
    (((touches_withLink s _).trans (countAbandoned_touches _)).trans (markerEnded_touches _ _)).mono (by decide)
  have hxnormal : x.link.normal = rest ++ followingMarker renew final true := rfl
  have hnormal := following_abandoned renew final (decide (s.start.phase = .announce)) rest
  have heq : markerGivenUp renew final rest s = if s.start.phase = .announce then requestStatus x else x := rfl
  rw [heq]
  by_cases hp : s.start.phase = .announce
  · rw [if_pos hp]
    obtain ⟨hu, hi, -, ha, -, -, hh⟩ := requestStatus_keeps x
    have htouch := requestStatus_touches x
    refine ⟨htouch .counters (by decide), htouch .view (by decide), ha.trans hfree, hu, hi, hh, ?_,
      (hsx.trans htouch).mono (by decide)⟩
    have ht : transmits x.start.phase = true := by simp [show x.start.phase = _ from hp, transmits]
    rw [requestStatus_normal ht, askedNormal_of_free (by exact hfree), hxnormal]
    simp only [hp, decide_true, true_and] at hnormal ⊢
    rw [← hnormal]
    cases (rest ++ followingMarker renew final true).any isMarker <;> rfl
  · rw [if_neg hp]
    refine ⟨rfl, rfl, hfree, rfl, rfl, rfl, ?_, hsx⟩
    rw [hxnormal]
    simpa [hp] using hnormal

theorem exec_collision_abandoned {s : State} {h : Nat} {read driven : Level} {a : Attempt}
    (ha : s.link.attempt = some a) (hd : levelAt a.symbols h = some driven) (hr : driven ≠ read)
    (hcls : a.cls = .normal) {renew final : Bool} {n : Nat}
    (hi : s.link.normal.head? = some (.marker renew final n)) (hn : 8 ≤ n + 1) :
    ∃ u t, exec (.collision h read) s = .next t ∧ GivenUp renew final final s.link.normal.tail (clearAttempt s) u ∧
      ((final = false ∨ s.start.departure = none) → t = u) ∧
      (∀ d, final = true → s.start.departure = some d → DepartureEnded d u t) := by
  have ht := exec_collision_marker ha hd hr hcls hi
  rw [markerCollided, if_neg (show ¬ n + 1 < Config.attemptLimit from by simpa [Config.attemptLimit] using hn),
    markerAbandoned_eq] at ht
  have hg := markerGivenUp_givenUp renew final s.link.normal.tail (s := clearAttempt s) rfl
  revert ht hg
  generalize markerGivenUp renew final s.link.normal.tail (clearAttempt s) = x
  intro ht hg
  have hdep : x.start.departure = s.start.departure := congrArg StartUp.departure (hg.touches .start (by decide))
  cases final with
  | false => exact ⟨x.pick, _, ht, hg.pick, fun _ => rfl, nofun⟩
  | true =>
    obtain ⟨hnone, hsome⟩ := endDeparture_pick x
    refine ⟨(halted x).pick, _, ht, hg.halting.pick, fun hor => ?_, fun d _ hsd => ?_⟩
    · exact hnone (hdep.trans (hor.resolve_left (by decide)))
    · rw [if_pos rfl, hsome d (hdep.trans hsd)]
      exact finishDeparture_ended d _

/-- A CLAIM that leaves its queue or goes on with one attempt more (R46, R48, R49). -/
theorem claimRequeued_touches (s : State) (l : Link) :
    Touches [.link, .counters] s (countAbandoned (s.withLink l)) :=
  (touches_withLink s _).trans (countAbandoned_touches _)

theorem claimAbandoned_of_other {s : State} {id : Byte}
    (h : ∀ c, s.claims.own = some c → c.held = true ∨ c.id ≠ id) : claimAbandoned id s = s := by
  unfold claimAbandoned
  split
  · rfl
  · rename_i c hown
    refine if_neg fun hmine => ?_
    rcases h c hown with hheld | hid
    · exact absurd (hmine.1.symm.trans hheld) (by decide)
    · exact hid hmine.2

theorem claimAbandoned_of_claiming {s : State} {c : OwnClaim} (hown : s.claims.own = some c) (hheld : c.held = false) :
    claimAbandoned c.id s = judgeWindow s := by
  rw [claimAbandoned, hown]
  exact if_pos ⟨hheld, rfl⟩

/-- The choice of the current frame changes nothing else (R47). -/
theorem pick_link_eq (s : State) :
    s.pick.link = { s.link with current := s.pick.link.current, draws := s.pick.link.draws } := by
  obtain ⟨c, n, h⟩ := pick_eq s.link
  rw [State.pick_link, h]

/-- An urgent frame whose attempt collided (R48, R49). -/
theorem urgentCollided_pick {s : State} (i : UrgentItem) (hfree : s.link.attempt = none) :
    let t := (urgentCollided i s.link.urgent.tail s).pick
    t.link.attempt = none ∧ t.link.normal = s.link.normal ∧ t.link.inbound = s.link.inbound ∧
      Touches [.link, .counters] s t ∧
      (i.attempts + 1 < 8 → t.counters = s.counters ∧
        t.link.urgent = { i with attempts := i.attempts + 1 } :: s.link.urgent.tail) ∧
      (8 ≤ i.attempts + 1 → t.link.urgent = s.link.urgent.tail ∧
        t.counters = { s.counters with txAbandoned := bump s.counters.txAbandoned }) := by
  have htouch := (urgentCollided_touches i s.link.urgent.tail s).trans (pick_touches _)
  by_cases hn : i.attempts + 1 < 8
  · have heq : urgentCollided i s.link.urgent.tail s =
        s.withLink { s.link with urgent := { i with attempts := i.attempts + 1 } :: s.link.urgent.tail } := if_pos hn
    rw [heq] at htouch ⊢
    exact ⟨by simp [hfree], by simp, by simp, htouch.mono (by decide), fun _ => ⟨rfl, by simp⟩,
      fun h => absurd hn (by omega)⟩
  · have heq : urgentCollided i s.link.urgent.tail s =
        countAbandoned (s.withLink { s.link with urgent := s.link.urgent.tail }) := if_neg hn
    rw [heq] at htouch ⊢
    exact ⟨by simp [hfree, countAbandoned], by simp [countAbandoned], by simp [countAbandoned], htouch.mono (by decide),
      fun h => absurd h hn, fun _ => ⟨by simp [countAbandoned], rfl⟩⟩

/-- A CLAIM taken out of the queue and counted as abandoned (R49). -/
def claimGone (s : State) : State := countAbandoned (s.withLink { s.link with normal := s.link.normal.tail })

/-- A CLAIM whose attempt collided (R46, R48, R49). -/
theorem claimCollided_eq (id : Byte) (f : Frame) (n : Nat) (removed : Bool) (s : State) :
    claimCollided id f n removed s.link.normal.tail s =
      if removed then s.withLink { s.link with normal := s.link.normal.tail }
      else if n + 1 < 8 then s.withLink { s.link with normal := .claim id f (n + 1) removed :: s.link.normal.tail }
      else claimAbandoned id (claimGone s) := rfl

/-- What a CLAIM leaves whose attempt collided: it goes without a count where its removal was asked for, is tried again up
to the eighth attempt, and then is given up (R46, R48, R49). -/
def ClaimCollided (s : State) (h : Nat) (read : Level) (id : Byte) (f : Frame) (n : Nat) (removed : Bool)
    (u : State) : Prop :=
  (removed = true → exec (.collision h read) s = .next u ∧
    u.link.normal = s.link.normal.tail ∧ u.counters = s.counters) ∧
  (removed = false → n + 1 < 8 → exec (.collision h read) s = .next u ∧
    u.link.normal = .claim id f (n + 1) false :: s.link.normal.tail ∧ u.counters = s.counters) ∧
  (removed = false → 8 ≤ n + 1 → u.link.normal = s.link.normal.tail ∧
    u.counters = { s.counters with txAbandoned := bump s.counters.txAbandoned } ∧
    ((∀ c, s.claims.own = some c → c.held = true ∨ c.id ≠ id) → exec (.collision h read) s = .next u) ∧
    (∀ c, s.claims.own = some c → c.held = false → c.id = id →
      ∃ w t, exec .windowExpiry (u.withClaims { u.claims with window := some u.now }) = .next w ∧
        exec (.collision h read) s = .next t ∧ Touches [.link] w t ∧
        t.link = { w.link with current := t.link.current, draws := t.link.draws }))

theorem exec_collision_claim_spec {s : State} {h : Nat} {read driven : Level} {a : Attempt}
    (ha : s.link.attempt = some a) (hd : levelAt a.symbols h = some driven) (hr : driven ≠ read)
    (hcls : a.cls = .normal) {id : Byte} {f : Frame} {n : Nat} {removed : Bool}
    (hi : s.link.normal.head? = some (.claim id f n removed)) :
    ∃ u, Touches [.link, .counters] s u ∧ u.link.attempt = none ∧ u.link.urgent = s.link.urgent ∧
      u.link.inbound = s.link.inbound ∧ ClaimCollided s h read id f n removed u := by
  have hclear := clearAttempt_touches s
  have hexec := exec_collision_claim ha hd hr hcls hi
  rw [show s.link.normal.tail = (clearAttempt s).link.normal.tail from rfl, claimCollided_eq] at hexec
  set x := clearAttempt s with hx
  cases removed with
  | true =>
    refine ⟨_, ((hclear.trans (touches_withLink x _)).trans (pick_touches _)).mono (by decide), ?_, ?_, ?_,
      fun _ => ⟨hexec, ?_, rfl⟩, nofun, nofun⟩ <;> simp [hx, clearAttempt]
  | false =>
    by_cases hn : n + 1 < 8
    · rw [if_neg (by decide), if_pos hn] at hexec
      refine ⟨_, ((hclear.trans (touches_withLink x _)).trans (pick_touches _)).mono (by decide), ?_, ?_, ?_, nofun,
        fun _ _ => ⟨hexec, ?_, rfl⟩, fun _ h8 => absurd hn (by omega)⟩ <;> simp [hx, clearAttempt]
    · rw [if_neg (by decide), if_neg hn] at hexec
      have hgone : Touches [.link, .counters] s (claimGone x) :=
        (hclear.trans (claimRequeued_touches x _)).mono (by decide)
      by_cases hmine : ∃ c, s.claims.own = some c ∧ c.held = false ∧ c.id = id
      · obtain ⟨c, hown, hheld, rfl⟩ := hmine
        refine ⟨claimGone x, hgone, rfl, rfl, rfl, nofun, fun _ h8 => absurd h8 hn, fun _ _ => ⟨rfl, rfl, fun hno => ?_,
          fun _ _ _ _ => ⟨_, _, exec_windowExpiry_now (s := claimGone x) hown hheld, ?_, pick_touches _,
            pick_link_eq _⟩⟩⟩
        · rcases hno c hown with hh | hh
          · exact absurd (hheld.symm.trans hh) (by decide)
          · exact absurd rfl hh
        · rw [hexec, claimAbandoned_of_claiming (s := claimGone x) hown hheld]
      · have hother : ∀ c, s.claims.own = some c → c.held = true ∨ c.id ≠ id := by
          intro c hown
          by_contra hnot
          rw [not_or, Bool.not_eq_true, not_not] at hnot
          exact hmine ⟨c, hown, hnot⟩
        rw [claimAbandoned_of_other (s := claimGone x) hother] at hexec
        refine ⟨_, (hgone.trans (pick_touches _)).mono (by decide), ?_, ?_, ?_, nofun, fun _ h8 => absurd h8 hn,
          fun _ _ => ⟨?_, rfl, fun _ => hexec, fun c hown hheld hid => absurd ⟨c, hown, hheld, hid⟩ hmine⟩⟩ <;>
          simp [hx, claimGone, clearAttempt, countAbandoned]

/-- Settles O30, by the item at the head of the attempt's queue. -/
theorem collisionsCountAttempts : Obligations.CollisionsCountAttempts := by
  intro s h read a ha driven hd
  have hclear := clearAttempt_touches s
  refine ⟨exec_collision_same ha hd, fun hr => ⟨fun hcls i hi => ?_,
    fun hcls renew final n hi => ⟨fun hn => ?_, fun hn => ?_⟩,
    fun hcls id f n removed hi => exec_collision_claim_spec ha hd hr hcls hi, exec_collision_none ha hd hr⟩⟩
  · obtain ⟨hatt, hnormal, hinbound, htouch, hsame, habandoned⟩ := urgentCollided_pick (s := clearAttempt s) i rfl
    exact ⟨_, exec_collision_urgent ha hd hr hcls hi, hatt, hnormal, hinbound, (hclear.trans htouch).mono (by decide),
      hsame, habandoned⟩
  · refine ⟨_, exec_collision_marker ha hd hr hcls hi, ?_⟩
    rw [markerCollided, if_pos (by simpa [Config.attemptLimit] using hn)]
    exact ⟨((hclear.trans (touches_withLink _ _)).trans (pick_touches _)).mono (by decide), by simp [clearAttempt],
      by simp, by simp [clearAttempt], by simp⟩
  · obtain ⟨u, t, ht, hg, hsame, hended⟩ := exec_collision_abandoned ha hd hr hcls hi hn
    exact ⟨u, t, ht, hg.counters, hg.view, hg.attempt, hg.urgent, hg.inbound, hg.normal, hg.halted,
      (hclear.trans hg.touches).mono (by decide), hsame, hended⟩

end Sys2Proof.Machine


namespace Sys2Proof.Machine

/-! ### The symbols of a header and of a body (R41, R42, R51, R54) -/

theorem dataBytes_eq_some_iff (syms : List LineSym) (bytes : List Byte) :
    dataBytes syms = some bytes ↔ syms = bytes.map .data := by
  induction syms generalizing bytes with
  | nil => cases bytes <;> simp [dataBytes]
  | cons x rest ih =>
    cases x with
    | mark m => cases bytes <;> simp [dataBytes]
    | data b =>
      rw [dataBytes, Option.map_eq_some_iff]
      constructor
      · rintro ⟨bs, hbs, rfl⟩
        rw [(ih bs).1 hbs]
        rfl
      · intro h
        cases bytes with
        | nil => cases h
        | cons c cs =>
          obtain ⟨hc, hcs⟩ := List.cons.inj h
          exact ⟨cs, (ih cs).2 hcs, by rw [LineSym.data.inj hc]⟩

theorem dataBytes_map (bytes : List Byte) : dataBytes (bytes.map .data) = some bytes :=
  (dataBytes_eq_some_iff _ _).2 rfl

theorem frameTypeOfCode_eq_some_iff (n : Nat) (t : FrameType) :
    frameTypeOfCode n = some t ↔ n = (frameTypeCode t).toNat := by
  constructor
  · unfold frameTypeOfCode
    split <;> rintro ⟨⟩ <;> rfl
  · rintro rfl
    cases t <;> rfl

theorem byteOf_self (b : Byte) : byteOf b.toNat = b := by simp [byteOf]

/-- The header that passes the tests of R51, and its symbols. -/
theorem judgeHeader_eq_some_iff (syms : List LineSym) (h : Header) :
    judgeHeader syms = some h ↔
      1 ≤ h.src ∧ h.src ≤ 63 ∧ h.dst ≤ 63 ∧ h.length ≤ 255 ∧
        ∃ fields : List Byte, fields = [frameTypeCode h.type, byteOf h.src, byteOf h.dst, byteOf h.length] ∧
          syms = (fields ++ checkBytes fields).map .data := by
  constructor
  · intro hj
    unfold judgeHeader at hj
    split at hj
    · rename_i t src dst len hi lo hbytes
      rw [dataBytes_eq_some_iff] at hbytes
      split at hj
      · rename_i hpass
        obtain ⟨hcheck, h1, h63, hd⟩ := hpass
        rw [Option.map_eq_some_iff] at hj
        obtain ⟨type, htype, rfl⟩ := hj
        rw [frameTypeOfCode_eq_some_iff] at htype
        obtain rfl := BitVec.eq_of_toNat_eq htype
        refine ⟨h1, h63, hd, Nat.le_of_lt_succ len.isLt, _, rfl, ?_⟩
        simp only [byteOf_self]
        rw [hcheck, hbytes]
        rfl
      · cases hj
    · cases hj
  · rintro ⟨h1, h63, hd, hlen, fields, rfl, rfl⟩
    obtain ⟨hi, lo, hcheck⟩ : ∃ hi lo,
        checkBytes [frameTypeCode h.type, byteOf h.src, byteOf h.dst, byteOf h.length] = [hi, lo] := ⟨_, _, rfl⟩
    have hsrc : (byteOf h.src).toNat = h.src := byteOf_toNat (by omega)
    have hdst : (byteOf h.dst).toNat = h.dst := byteOf_toNat (by omega)
    have hlength : (byteOf h.length).toNat = h.length := byteOf_toNat (by omega)
    rw [judgeHeader, dataBytes_map, hcheck]
    dsimp only [List.cons_append, List.nil_append]
    rw [hsrc, hdst, hlength, if_pos ⟨hcheck, h1, h63, hd⟩, (frameTypeOfCode_eq_some_iff _ h.type).2 rfl]
    rfl

theorem dataMark_eq_some_iff (x : LineSym) (final : Bool) :
    dataMark x = some final ↔ x = .mark (if final then .final else .normal) := by
  cases final <;> cases x with
  | data b => simp [dataMark]
  | mark m => cases m <;> simp [dataMark]

/-- The body that passes the tests of R54, and its symbols. -/
theorem judgeBody_eq_some_iff (syms : List LineSym) (h : Header) (f : Frame) :
    judgeBody h syms = some f ↔
      f.type = h.type ∧ f.src = h.src ∧ f.dst = h.dst ∧ f.body.length = h.length ∧ h.length ≤ 96 ∧
        lengthPermitted f.type f.body = true ∧ (f.final = true → f.type = .status) ∧
        ∃ (gap₁ gap₂ : LineSym) (mark : LineMark), mark = (if f.final then .final else .normal) ∧
          syms = [gap₁, gap₂, .mark mark] ++ (f.body ++ checkBytes (markValue mark :: f.body)).map .data := by
  constructor
  · intro hj
    unfold judgeBody at hj
    split at hj
    · rename_i hlen
      obtain ⟨h96, hcount⟩ := hlen
      split at hj
      · rename_i final bytes hmark hbytes
        dsimp only at hj
        split at hj
        · rename_i hpass
          obtain ⟨hcheck, hperm, hfin⟩ := hpass
          obtain rfl := Option.some.inj hj
          obtain ⟨g1, g2, m, rest, rfl⟩ : ∃ g1 g2 m rest, syms = g1 :: g2 :: m :: rest := by
            match syms, hcount with
            | g1 :: g2 :: m :: rest, _ => exact ⟨g1, g2, m, rest, rfl⟩
          have hm : m = _ := (dataMark_eq_some_iff m final).1 hmark
          have hrest : rest = bytes.map .data := (dataBytes_eq_some_iff _ _).1 hbytes
          have hlen : bytes.length = h.length + 2 := by
            simp only [hrest, List.length_cons, List.length_map] at hcount
            omega
          refine ⟨rfl, rfl, rfl, by simp [hlen], h96, hperm, hfin, g1, g2, _, rfl, ?_⟩
          rw [hm, hrest]
          conv_lhs => rw [← List.take_append_drop h.length bytes]
          rw [← hcheck]
          rfl
        · cases hj
      · cases hj
    · cases hj
  · rintro ⟨ht, hs, hd, hlen, h96, hperm, hfin, gap₁, gap₂, mark, rfl, rfl⟩
    have hframe : ({ type := h.type, src := h.src, dst := h.dst, final := f.final, body := f.body } : Frame) = f := by
      rw [← ht, ← hs, ← hd]
    obtain ⟨check, hcheck⟩ : ∃ c, checkBytes (markValue (if f.final then .final else .normal) :: f.body) = c := ⟨_, rfl⟩
    have hcount : check.length = 2 := hcheck ▸ checkBytes_length _
    have hmark : dataMark (.mark (if f.final then .final else .normal)) = some f.final :=
      (dataMark_eq_some_iff _ _).2 rfl
    unfold judgeBody
    rw [if_pos ⟨h96, by simp [hlen, checkBytes_length]; omega⟩, hcheck]
    simp only [List.cons_append, List.nil_append, List.getElem?_cons_succ, List.getElem?_cons_zero, Option.bind_some,
      hmark, List.drop_succ_cons, List.drop_zero, dataBytes_map]
    rw [List.take_left' hlen, List.drop_left' hlen, hframe]
    exact if_pos ⟨hcheck, ht ▸ hperm, fun hf => ht ▸ hfin hf⟩

theorem frameSymbols_header (f : Frame) :
    ((frameSymbols f).drop 5).take 6 = (headerFields f ++ checkBytes (headerFields f)).map .data := rfl

theorem frameSymbols_body (f : Frame) :
    (frameSymbols f).drop 11 = [.data fillByte, .data fillByte, .mark (frameMark f)] ++
      (f.body ++ checkBytes (markValue (frameMark f) :: f.body)).map .data := rfl

/-! ### The permitted lengths (R177, R178) -/

theorem lengthPermitted_of_fixed {t : FrameType} {n : Nat} (h : fixedLength t = some n) (body : List Byte) :
    lengthPermitted t body = true ↔ body.length = n := by
  cases t <;> cases h <;> exact beq_iff_eq

theorem statusLength_eq_some_iff (body : List Byte) :
    statusLength body = some body.length ↔ ∃ n m, n = natAt body 8 ∧ m = natAt body (9 + 4 * n) ∧
      body.length = 11 + 4 * n + 2 * m + (if natAt body (10 + 4 * n + 2 * m) = 0 then 0 else 21) := by
  have hsensors : sensorCountAt body = 9 + 4 * natAt body 8 := rfl
  have hstate : claimStateAt body = 10 + 4 * natAt body 8 + 2 * natAt body (9 + 4 * natAt body 8) := rfl
  unfold statusLength
  rw [hsensors, hstate]
  constructor
  · intro h
    split at h
    · cases h
    · exact ⟨_, _, rfl, rfl, by rw [← Option.some.inj h]; ring⟩
  · rintro ⟨n, m, rfl, rfl, hlen⟩
    rw [if_neg (by omega), hlen]
    congr 1
    ring

theorem lengthPermitted_of_counted {t : FrameType} (h : fixedLength t = none) (body : List Byte) :
    lengthPermitted t body = true ↔ statusLength body = some body.length := by
  cases t <;> cases h
  exact beq_iff_eq

/-- Settles O34. -/
theorem framesReadBack : Obligations.FramesReadBack := by
  refine ⟨fun f h1 h63 hd h96 hperm hfin => ⟨?_, ?_⟩, judgeHeader_eq_some_iff, judgeBody_eq_some_iff,
    fun t body => ⟨fun n hn => lengthPermitted_of_fixed hn body, fun hn => ?_⟩⟩
  · rw [frameSymbols_header]
    exact (judgeHeader_eq_some_iff _ _).2 ⟨h1, h63, hd, h96.trans (by decide), headerFields f, rfl, rfl⟩
  · rw [frameSymbols_body]
    exact (judgeBody_eq_some_iff _ _ _).2 ⟨rfl, rfl, rfl, rfl, h96, hperm, hfin, _, _, _, rfl, rfl⟩
  · rw [lengthPermitted_of_counted hn, statusLength_eq_some_iff]

end Sys2Proof.Machine


namespace Sys2Proof.Machine

/-! ### Names and their codes (R177, R178) -/

theorem sentPhaseOfCode_ne_none_iff (n : Nat) : sentPhaseOfCode n ≠ none ↔ n = 3 ∨ n = 4 := by
  unfold sentPhaseOfCode
  split <;> simp_all

theorem causeOfCode_ne_none_iff (n : Nat) : causeOfCode n ≠ none ↔ 1 ≤ n ∧ n ≤ 4 := by
  rcases n with _ | _ | _ | _ | _ | n <;> simp [causeOfCode]

theorem selectorOfCode_ne_none_iff (n : Nat) : selectorOfCode n ≠ none ↔ n ≤ 2 := by
  rcases n with _ | _ | _ | n <;> simp [selectorOfCode]

theorem bypassOfCode_ne_none_iff (n : Nat) : bypassOfCode n ≠ none ↔ n ≤ 2 := by
  rcases n with _ | _ | _ | n <;> simp [bypassOfCode]

theorem positionOfCode_ne_none_iff (n : Nat) : positionOfCode n ≠ none ↔ 1 ≤ n ∧ n ≤ 5 := by
  rcases n with _ | _ | _ | _ | _ | _ | n <;> simp [positionOfCode]

theorem indicationOfCode_ne_none_iff (n : Nat) : indicationOfCode n ≠ none ↔ 1 ≤ n ∧ n ≤ 3 := by
  rcases n with _ | _ | _ | _ | n <;> simp [indicationOfCode]

theorem outcomeOfCode_ne_none_iff (n : Nat) : outcomeOfCode n ≠ none ↔ 1 ≤ n ∧ n ≤ 4 := by
  rcases n with _ | _ | _ | _ | _ | n <;> simp [outcomeOfCode]

theorem kindOfCode_ne_none_iff (n : Nat) : kindOfCode n ≠ none ↔ 1 ≤ n ∧ n ≤ 3 := by
  rcases n with _ | _ | _ | _ | n <;> simp [kindOfCode]

theorem kindOfCode_eq_es_iff (n : Nat) : kindOfCode n = some .es ↔ n = 3 := by
  unfold kindOfCode
  split <;> simp_all

theorem kindOfCode_eq_cb_iff (n : Nat) : kindOfCode n = some .cb ↔ n = 1 := by
  unfold kindOfCode
  split <;> simp_all

theorem reasonOfCode_ne_none_iff (n : Nat) : reasonOfCode n ≠ none ↔ n ≤ 0x19 := by
  simp [reasonOfCode, reasonList]
  omega

theorem terminalOfCode_eq_earth_iff (n : Nat) : terminalOfCode n = some .earth ↔ n = 255 := by
  unfold terminalOfCode
  split
  · simp; omega
  · split
    · simp; omega
    · split <;> simp_all

/-- The codes of points: yard nodes, and the local nodes of the source (R178). -/
theorem terminalOfCode_point_iff (n : Nat) : (∃ t, terminalOfCode n = some t ∧ t ≠ .earth) ↔ PointByte n := by
  unfold terminalOfCode PointByte
  split
  · simp [*]
  · split
    · simp [*]
    · split <;> simp [*]

theorem causeOfCode_code (c : ResetCause) : causeOfCode (causeCode c).toNat = some c := by cases c <;> rfl
theorem selectorOfCode_code (x : Selector) : selectorOfCode (selectorCode x).toNat = some x := by cases x <;> rfl
theorem bypassOfCode_code (x : BypassKey) : bypassOfCode (bypassCode x).toNat = some x := by cases x <;> rfl
theorem positionOfCode_code (p : Position) : positionOfCode (positionCode p).toNat = some p := by cases p <;> rfl
theorem indicationOfCode_code (i : Indication) :
    indicationOfCode (indicationCode i).toNat = some i := by cases i <;> rfl
theorem outcomeOfCode_code (o : OpOutcome) : outcomeOfCode (outcomeCode o).toNat = some o := by cases o <;> rfl
theorem kindOfCode_code (k : Kind) : kindOfCode (kindCode k).toNat = some k := by cases k <;> rfl
theorem reasonOfCode_code (r : Reason) : reasonOfCode (reasonCode r).toNat = some r := by cases r <;> rfl

theorem terminalOfCode_code {t : Terminal} (h : publishedPoint t = true ∨ t = .earth) :
    terminalOfCode (terminalCode t).toNat = some t := by
  cases t with
  | earth => rfl
  | yard n =>
    have hn : 1 ≤ n ∧ n ≤ 127 := by simpa [publishedPoint] using h
    rw [terminalCode, byteOf_toNat (by omega), terminalOfCode, if_pos hn]
  | localNode k =>
    have hk : 1 ≤ k ∧ k ≤ 4 := by simpa [publishedPoint] using h
    rw [terminalCode, byteOf_toNat (by omega), terminalOfCode, if_neg (by omega), if_pos (by omega)]
    simp

/-! ### Bytes at an offset -/

theorem byteAt_add (l : List Byte) (i j : Nat) : byteAt l (i + j) = byteAt (l.drop i) j := by
  simp [byteAt, List.getD_eq_getElem?_getD, List.getElem?_drop]

theorem natAt_add (l : List Byte) (i j : Nat) : natAt l (i + j) = natAt (l.drop i) j := by
  rw [natAt, byteAt_add, natAt]

theorem halfAt_add (l : List Byte) (i j : Nat) : halfAt l (i + j) = halfAt (l.drop i) j := by
  rw [halfAt, natAt_add, Nat.add_assoc, natAt_add, halfAt]

theorem drop_add_of_drop {l pre rest : List Byte} {i n : Nat} (h : l.drop i = pre ++ rest) (hn : pre.length = n) :
    l.drop (i + n) = rest := by
  rw [← List.drop_drop, h, ← hn, List.drop_left]

theorem half_of_bytes {n : Nat} (h : n < 65536) : (byteOf (n / 256)).toNat * 256 + (byteOf n).toNat = n := by
  rw [byteOf_toNat (by omega), show (byteOf n).toNat = n % 256 from rfl]
  omega

/-- The number whose bytes stand one after the other, least significant first (R177, R179). -/
theorem maskNat_bytes (x n : Nat) :
    maskNat ((List.range n).map fun i => byteOf (x / 256 ^ i)) = x % 256 ^ n := by
  induction n generalizing x with
  | zero => simp [maskNat, Nat.mod_one]
  | succ n ih =>
    rw [List.range_succ_eq_map, List.map_cons, List.map_map, maskNat]
    have hshift : ((fun i => byteOf (x / 256 ^ i)) ∘ Nat.succ) = fun i => byteOf (x / 256 / 256 ^ i) := by
      funext i
      rw [Function.comp_apply, Nat.pow_succ', Nat.div_div_eq_div_mul]
    rw [hshift, ih, Nat.pow_succ', Nat.mod_mul]
    simp [byteOf]

theorem nodes_and_not_one {x : NodeSet} (h : nodesHave x 0 = false) : x &&& ~~~ 1 = x := by
  refine BitVec.eq_of_getLsbD_eq fun i hi => ?_
  rw [BitVec.getLsbD_and, BitVec.getLsbD_not]
  cases i with
  | zero => simp only [show x.getLsbD 0 = false from h, Bool.false_and]
  | succ i => simp [hi]

theorem nodesOfBytes_nodeBytes {x : NodeSet} (h : nodesHave x 0 = false) : nodesOfBytes (nodeBytes x) = x := by
  rw [nodesOfBytes, nodeBytes, nodes_and_not_one h, maskNat_bytes, Nat.mod_eq_of_lt (by exact x.isLt),
    BitVec.ofNat_toNat, BitVec.setWidth_eq, nodes_and_not_one h]

end Sys2Proof.Machine


namespace Sys2Proof.Machine

/-! ### Object and sensor records of a STATUS (R66, R178) -/

/-- The first byte of an object record: the index above, the kind below. -/
theorem recordByte_toNat {k : Nat} (h : k < 16) (kind : Kind) :
    (byteOf (16 * k) ||| kindCode kind).toNat = 16 * k + (kindCode kind).toNat := by
  interval_cases k <;> cases kind <;> rfl

theorem kindCode_bounds (kind : Kind) : 1 ≤ (kindCode kind).toNat ∧ (kindCode kind).toNat ≤ 3 := by
  cases kind <;> decide

theorem publishedPoint_ne_earth {t : Terminal} (h : publishedPoint t = true) : t ≠ .earth := by
  rintro rfl
  cases h

theorem publishedSecond_earth_iff {kind : Kind} {t : Terminal} (h : publishedSecond kind t = true) :
    (t = .earth ↔ kind = .es) ∧ (publishedPoint t = true ∨ t = .earth) := by
  unfold publishedSecond at h
  split at h
  · rename_i hk
    have ht : t = .earth := eq_of_beq h
    exact ⟨by simp [hk, ht], .inr ht⟩
  · rename_i hk
    exact ⟨by simp [hk, publishedPoint_ne_earth h], .inl h⟩

/-- A published object's record as it stands at an offset. -/
theorem parsePubObjects_read {body : List Byte} (os : List PubObject) {k i : Nat} {rest : List Byte}
    (hk : k + os.length ≤ 16) (hbody : body.drop i = pubObjectsBytes k os ++ rest)
    (hos : (os.all fun o => publishedPoint o.term1 && publishedSecond o.kind o.term2) = true) :
    parsePubObjects body k i os.length = some os := by
  induction os generalizing k i with
  | nil => rfl
  | cons o os ih =>
    simp only [List.all_cons, Bool.and_eq_true] at hos
    obtain ⟨⟨h1, h2⟩, hrest⟩ := hos
    obtain ⟨hearth, hsecond⟩ := publishedSecond_earth_iff h2
    have hkb := kindCode_bounds o.kind
    have hbyte (j : Nat) : natAt body (i + j) =
      natAt (pubObjectBytes k o ++ (pubObjectsBytes (k + 1) os ++ rest)) j := by
      rw [natAt_add, hbody, pubObjectsBytes, List.append_assoc]
    have hb0 : natAt body i = 16 * k + (kindCode o.kind).toNat :=
      (hbyte 0).trans (recordByte_toNat (by simp at hk; omega) o.kind)
    have hb1 : natAt body (i + 1) = (terminalCode o.term1).toNat := hbyte 1
    have hb2 : natAt body (i + 2) = (terminalCode o.term2).toNat := hbyte 2
    have hb3 : natAt body (i + 3) = (positionCode o.position).toNat := hbyte 3
    have hnext : body.drop (i + 4) = pubObjectsBytes (k + 1) os ++ rest :=
      drop_add_of_drop (pre := pubObjectBytes k o) (by rw [hbody, pubObjectsBytes, List.append_assoc]) rfl
    have hmod : natAt body i % 16 = (kindCode o.kind).toNat := by omega
    have hdiv : natAt body i / 16 = k := by omega
    rw [List.length_cons, parsePubObjects, hmod, hdiv, hb1, hb2, hb3, kindOfCode_code, terminalOfCode_code (.inl h1),
      terminalOfCode_code hsecond, positionOfCode_code]
    dsimp only
    rw [if_pos ⟨rfl, publishedPoint_ne_earth h1, hearth⟩,
      ih (by simp at hk; omega) hnext hrest]
    rfl

theorem parsePubSensors_read {body : List Byte} (ps : List PubSensor) {i : Nat} {rest : List Byte}
    (hbody : body.drop i = ps.flatMap pubSensorBytes ++ rest)
    (hps : (ps.all fun p => publishedPoint p.node) = true) :
    parsePubSensors body i ps.length = some ps := by
  induction ps generalizing i with
  | nil => rfl
  | cons p ps ih =>
    simp only [List.all_cons, Bool.and_eq_true] at hps
    obtain ⟨h1, hrest⟩ := hps
    have hflat : (p :: ps).flatMap pubSensorBytes ++ rest = pubSensorBytes p ++
      (ps.flatMap pubSensorBytes ++ rest) := by
      simp
    have hbyte (j : Nat) : natAt body (i + j) = natAt (pubSensorBytes p ++ (ps.flatMap pubSensorBytes ++ rest)) j := by
      rw [natAt_add, hbody, hflat]
    have hb0 : natAt body i = (terminalCode p.node).toNat := hbyte 0
    have hb1 : natAt body (i + 1) = (indicationCode p.indication).toNat := hbyte 1
    have hnext : body.drop (i + 2) = ps.flatMap pubSensorBytes ++ rest :=
      drop_add_of_drop (pre := pubSensorBytes p) (hbody.trans hflat) rfl
    rw [List.length_cons, parsePubSensors, hb0, hb1, terminalOfCode_code (.inl h1), indicationOfCode_code]
    dsimp only
    rw [if_neg (publishedPoint_ne_earth h1), ih hnext hrest]
    rfl

/-- An object record is well formed exactly when it passes checks 7 and 8. -/
theorem parsePubObjects_succ_ne_none_iff (body : List Byte) (k i n : Nat) :
    parsePubObjects body k i (n + 1) ≠ none ↔
      ObjectRecordOk body k i ∧ parsePubObjects body (k + 1) (i + 4) n ≠ none := by
  constructor
  · intro h
    rw [parsePubObjects] at h
    split at h
    · rename_i kind t1 t2 pos hkind ht1 ht2 hpos
      split at h
      · rename_i hok
        obtain ⟨hindex, hpoint, hearth⟩ := hok
        have hk := (kindOfCode_ne_none_iff _).1 (by rw [hkind]; nofun)
        have hp := (positionOfCode_ne_none_iff _).1 (by rw [hpos]; nofun)
        refine ⟨⟨hindex, hk.1, hk.2, (terminalOfCode_point_iff _).1 ⟨t1, ht1, hpoint⟩, ?_, hp.1, hp.2⟩,
          fun hn => h (by rw [hn]; rfl)⟩
        split
        · rename_i h3
          have hes : kind = .es := Option.some.inj (hkind.symm.trans ((kindOfCode_eq_es_iff _).2 h3))
          exact (terminalOfCode_eq_earth_iff _).1 (by rw [ht2, hearth.2 hes])
        · rename_i h3
          refine (terminalOfCode_point_iff _).1 ⟨t2, ht2, fun he => h3 ((kindOfCode_eq_es_iff _).1 ?_)⟩
          rw [hkind, hearth.1 he]
      · exact absurd rfl h
    · exact absurd rfl h
  · rintro ⟨⟨hindex, hk1, hk3, hpoint, hsecond, hp1, hp5⟩, hrest⟩
    obtain ⟨kind, hkind⟩ := Option.ne_none_iff_exists'.1 ((kindOfCode_ne_none_iff _).2 ⟨hk1, hk3⟩)
    obtain ⟨pos, hpos⟩ := Option.ne_none_iff_exists'.1 ((positionOfCode_ne_none_iff _).2 ⟨hp1, hp5⟩)
    obtain ⟨t1, ht1, hne⟩ := (terminalOfCode_point_iff _).2 hpoint
    obtain ⟨os, hos⟩ := Option.ne_none_iff_exists'.1 hrest
    obtain ⟨t2, ht2, hearth⟩ : ∃ t2, terminalOfCode (natAt body (i + 2)) = some t2 ∧ (t2 = .earth ↔ kind = .es) := by
      split at hsecond
      · rename_i h3
        have hes : kind = .es := Option.some.inj (hkind.symm.trans ((kindOfCode_eq_es_iff _).2 h3))
        exact ⟨_, (terminalOfCode_eq_earth_iff _).2 hsecond, by simp [hes]⟩
      · rename_i h3
        obtain ⟨t2, ht2, hne2⟩ := (terminalOfCode_point_iff _).2 hsecond
        refine ⟨t2, ht2, fun he => absurd he hne2, fun hes => absurd ?_ h3⟩
        exact (kindOfCode_eq_es_iff _).1 (hkind.trans (congrArg some hes))
    rw [parsePubObjects, hkind, ht1, ht2, hpos]
    dsimp only
    rw [if_pos ⟨hindex, hne, hearth⟩, hos]
    nofun

theorem forall_lt_succ_iff {p : Nat → Prop} {n : Nat} :
    (∀ j, j < n + 1 → p j) ↔ p 0 ∧ ∀ j, j < n → p (j + 1) :=
  ⟨fun h => ⟨h 0 (by omega), fun j hj => h (j + 1) (by omega)⟩, fun ⟨h0, hs⟩ j hj => by
    cases j with
    | zero => exact h0
    | succ j => exact hs j (by omega)⟩

theorem parsePubObjects_ne_none_iff (body : List Byte) (k i n : Nat) :
    parsePubObjects body k i n ≠ none ↔ ∀ j, j < n → ObjectRecordOk body (k + j) (i + 4 * j) := by
  induction n generalizing k i with
  | zero => simp [parsePubObjects]
  | succ n ih =>
    rw [parsePubObjects_succ_ne_none_iff, ih, forall_lt_succ_iff]
    refine and_congr Iff.rfl (forall₂_congr fun j _ => ?_)
    rw [show k + 1 + j = k + (j + 1) by omega, show i + 4 + 4 * j = i + 4 * (j + 1) by omega]

theorem parsePubSensors_succ_ne_none_iff (body : List Byte) (i n : Nat) :
    parsePubSensors body i (n + 1) ≠ none ↔ SensorRecordOk body i ∧ parsePubSensors body (i + 2) n ≠ none := by
  constructor
  · intro h
    rw [parsePubSensors] at h
    split at h
    · rename_i node ind hnode hind
      split at h
      · exact absurd rfl h
      · rename_i hne
        exact ⟨⟨(terminalOfCode_point_iff _).1 ⟨node, hnode, hne⟩,
          (indicationOfCode_ne_none_iff _).1 (by rw [hind]; nofun)⟩, fun hn => h (by rw [hn]; rfl)⟩
    · exact absurd rfl h
  · rintro ⟨⟨hpoint, hind⟩, hrest⟩
    obtain ⟨node, hnode, hne⟩ := (terminalOfCode_point_iff _).2 hpoint
    obtain ⟨ind, hind⟩ := Option.ne_none_iff_exists'.1 ((indicationOfCode_ne_none_iff _).2 hind)
    obtain ⟨ps, hps⟩ := Option.ne_none_iff_exists'.1 hrest
    rw [parsePubSensors, hnode, hind]
    dsimp only
    rw [if_neg hne, hps]
    nofun

theorem parsePubSensors_ne_none_iff (body : List Byte) (i n : Nat) :
    parsePubSensors body i n ≠ none ↔ ∀ j, j < n → SensorRecordOk body (i + 2 * j) := by
  induction n generalizing i with
  | zero => simp [parsePubSensors]
  | succ n ih =>
    rw [parsePubSensors_succ_ne_none_iff, ih, forall_lt_succ_iff]
    refine and_congr Iff.rfl (forall₂_congr fun j _ => ?_)
    rw [show i + 2 + 2 * j = i + 2 * (j + 1) by omega]

end Sys2Proof.Machine


namespace Sys2Proof.Machine

/-! ### The checks of a STATUS and of a CLAIM (R66, R97, R110) -/

theorem claimRangesOk_iff (cls deferCount holdLimit : Nat) :
    claimRangesOk cls deferCount holdLimit = true ↔
      cls ≤ 1 ∧ deferCount ≤ 15 ∧ 207 ≤ holdLimit ∧ holdLimit ≤ 6800 := by
  simp [claimRangesOk, and_assoc]

theorem parseClaimPart_ne_none_iff {body : List Byte} {i : Nat} (hi : claimStateAt body = i) :
    parseClaimPart body ≠ none ↔ (natAt body i = 1 ∨ natAt body i = 2) ∧ ClaimFieldsOk body (i + 2) := by
  unfold parseClaimPart ClaimFieldsOk
  rw [hi]
  simp [claimRangesOk_iff, Nat.add_assoc]

theorem parseClaim_ne_none_iff (body : List Byte) :
    parseClaim body ≠ none ↔ 1 ≤ natAt body 1 ∧ natAt body 1 ≤ 3 ∧ ClaimFieldsOk body 2 := by
  unfold parseClaim ClaimFieldsOk
  simp [claimRangesOk_iff]

theorem parseLocalResult_ne_none_iff (body : List Byte) :
    parseLocalResult body ≠ none ↔ natAt body 6 = 0 ∨ (natAt body 6 ≤ 4 ∧ natAt body 7 ≤ 0x19) := by
  unfold parseLocalResult
  split
  · rename_i h0
    exact ⟨fun _ => .inl h0, fun _ => nofun⟩
  · rename_i h0
    have ho := outcomeOfCode_ne_none_iff (natAt body 6)
    have hr := reasonOfCode_ne_none_iff (natAt body 7)
    split
    · rename_i o r hout hreason
      rw [hout] at ho
      rw [hreason] at hr
      exact ⟨fun _ => .inr ⟨(ho.1 nofun).2, hr.1 nofun⟩, fun _ => nofun⟩
    · rename_i hnone
      refine ⟨fun h => absurd rfl h, fun h => ?_⟩
      obtain ⟨h4, h19⟩ := h.resolve_left h0
      obtain ⟨o, hout⟩ := Option.ne_none_iff_exists'.1 (ho.2 ⟨by omega, h4⟩)
      obtain ⟨r, hreason⟩ := Option.ne_none_iff_exists'.1 (hr.2 h19)
      exact absurd hreason (hnone o r hout)

theorem inRange_fives (n : Nat) : InRange n 10 200 5 ↔ 10 ≤ n ∧ n ≤ 200 ∧ n % 5 = 0 := by
  unfold InRange
  refine and_congr Iff.rfl (and_congr Iff.rfl ⟨?_, fun h => ⟨n / 5, by omega⟩⟩)
  rintro ⟨m, rfl⟩
  exact Nat.mul_mod_left m 5

theorem parseStatus_ne_none_iff {body : List Byte} {n m : Nat} (hn : n = natAt body 8)
    (hm : m = natAt body (9 + 4 * n)) :
    parseStatus body ≠ none ↔ StatusOk body n m := by
  have hsensors : sensorCountAt body = 9 + 4 * n := by rw [hn]; rfl
  have hobjs := parsePubObjects_ne_none_iff body 1 9 n
  have hsens := parsePubSensors_ne_none_iff body (9 + 4 * n + 1) m
  simp only [show 9 + 4 * n + 1 = 10 + 4 * n by omega, Nat.add_comm 1] at hobjs hsens
  unfold StatusOk
  rw [inRange_fives, ← hobjs, ← hsens, ← sentPhaseOfCode_ne_none_iff, ← causeOfCode_ne_none_iff,
    ← selectorOfCode_ne_none_iff, ← bypassOfCode_ne_none_iff, ← parseLocalResult_ne_none_iff]
  unfold parseStatus
  rw [hsensors, ← hn, ← hm, show 9 + 4 * n + 1 = 10 + 4 * n by omega]
  constructor
  · intro h
    split at h
    · rename_i phase selector bypass cause lastLocal hphase hselector hbypass hcause hlast
      split at h
      · rename_i hrange
        obtain ⟨h10, h200, h5, hpend, h8, h3⟩ := hrange
        split at h
        · rename_i objects sensors hobjects hsensors
          simp only [hphase, hselector, hbypass, hcause, hlast, hobjects, hsensors]
          exact ⟨nofun, ⟨h10, h200, h5⟩, nofun, ⟨nofun, nofun⟩, hpend, nofun, h8, nofun, h3, nofun⟩
        · exact absurd rfl h
      · exact absurd rfl h
    · exact absurd rfl h
  · rintro ⟨hphase, ⟨h10, h200, h5⟩, hcause, ⟨hselector, hbypass⟩, hpend, hlast, h8, hobjects, h3, hsensors⟩
    rw [Option.ne_none_iff_exists'] at hphase hcause hselector hbypass hlast hobjects hsensors
    obtain ⟨phase, hphase⟩ := hphase
    obtain ⟨cause, hcause⟩ := hcause
    obtain ⟨selector, hselector⟩ := hselector
    obtain ⟨bypass, hbypass⟩ := hbypass
    obtain ⟨lastLocal, hlast⟩ := hlast
    obtain ⟨objects, hobjects⟩ := hobjects
    obtain ⟨sensors, hsensors⟩ := hsensors
    rw [hphase, hcause, hselector, hbypass, hlast, hobjects, hsensors]
    dsimp only
    rw [if_pos ⟨h10, h200, h5, hpend, h8, h3⟩]
    nofun

/-! ### Published bodies read back -/

theorem pubObjectsBytes_length (os : List PubObject) (k : Nat) : (pubObjectsBytes k os).length = 4 * os.length := by
  induction os generalizing k with
  | nil => rfl
  | cons o os ih =>
    rw [pubObjectsBytes, List.length_append, ih, List.length_cons]
    change 4 + _ = _
    omega

theorem sensorsBytes_length (ps : List PubSensor) : (ps.flatMap pubSensorBytes).length = 2 * ps.length := by
  induction ps with
  | nil => rfl
  | cons p ps ih =>
    rw [List.flatMap_cons, List.length_append, ih, List.length_cons]
    change 2 + _ = _
    omega

/-- The first nine bytes of a STATUS body (R178). -/
def statusHead (c : Content) (joining : Bool) : List Byte :=
  [phaseCode c.phase,
   selectorCode c.selector ||| (bypassCode c.bypass <<< 2),
   byteOf (c.heartbeat / 10),
   c.counter,
   causeCode c.cause ||| (if joining then 0x80 else 0x00),
   c.pending.setWidth 8] ++
  localResultBytes c.lastLocal ++ [byteOf c.objects.length]

theorem statusHead_length (c : Content) (joining : Bool) : (statusHead c joining).length = 9 := by
  cases h : c.lastLocal <;> simp [statusHead, localResultBytes, h]

section Published

variable (c : Content) (joining : Bool) (claim : Option ClaimPart)

/-- A STATUS body after its first nine bytes. -/
theorem statusBody_drop_head :
    (statusBody c joining claim).drop 9 = pubObjectsBytes 1 c.objects ++
      (byteOf c.sensors.length :: (c.sensors.flatMap pubSensorBytes ++ claimPartBytes claim)) := by
  have hsplit : statusBody c joining claim = statusHead c joining ++ (pubObjectsBytes 1 c.objects ++
      (byteOf c.sensors.length :: (c.sensors.flatMap pubSensorBytes ++ claimPartBytes claim))) := by
    simp [statusBody, statusHead]
  rw [hsplit, ← statusHead_length c joining, List.drop_left]

theorem statusBody_head {j : Nat} (hj : j < 9) :
    byteAt (statusBody c joining claim) j = byteAt (statusHead c joining) j := by
  have hsplit : statusBody c joining claim = statusHead c joining ++ (pubObjectsBytes 1 c.objects ++
      (byteOf c.sensors.length :: (c.sensors.flatMap pubSensorBytes ++ claimPartBytes claim))) := by
    simp [statusBody, statusHead]
  rw [hsplit, byteAt, byteAt, List.getD_append _ _ _ _ (by rw [statusHead_length]; exact hj)]

theorem statusBody_drop_objects :
    (statusBody c joining claim).drop (9 + 4 * c.objects.length) =
      byteOf c.sensors.length :: (c.sensors.flatMap pubSensorBytes ++ claimPartBytes claim) :=
  drop_add_of_drop (statusBody_drop_head c joining claim) (pubObjectsBytes_length _ _)

theorem statusBody_drop_sensors :
    (statusBody c joining claim).drop (10 + 4 * c.objects.length) =
      c.sensors.flatMap pubSensorBytes ++ claimPartBytes claim := by
  rw [show 10 + 4 * c.objects.length = 9 + 4 * c.objects.length + 1 by omega]
  exact drop_add_of_drop (pre := [byteOf c.sensors.length]) (statusBody_drop_objects c joining claim) rfl

theorem statusBody_drop_claim :
    (statusBody c joining claim).drop (10 + 4 * c.objects.length + 2 * c.sensors.length) = claimPartBytes claim :=
  drop_add_of_drop (statusBody_drop_sensors c joining claim) (sensorsBytes_length _)

variable {c} (h : Publishable c)
include h

theorem statusBody_objectCount : natAt (statusBody c joining claim) 8 = c.objects.length := by
  obtain ⟨-, -, -, -, h8, -⟩ := h
  rw [natAt, statusBody_head c joining claim (by omega)]
  cases hl : c.lastLocal <;> simp [statusHead, localResultBytes, hl, byteAt] <;> exact byteOf_toNat (by omega)

theorem statusBody_sensorCountAt : sensorCountAt (statusBody c joining claim) = 9 + 4 * c.objects.length := by
  rw [sensorCountAt, statusBody_objectCount joining claim h]

theorem statusBody_sensorCount : natAt (statusBody c joining claim) (9 + 4 * c.objects.length) = c.sensors.length := by
  obtain ⟨-, -, -, -, -, h3, -⟩ := h
  have hadd := natAt_add (statusBody c joining claim) (9 + 4 * c.objects.length) 0
  rw [statusBody_drop_objects] at hadd
  exact hadd.trans (byteOf_toNat (by omega))

theorem statusBody_claimStateAt :
    claimStateAt (statusBody c joining claim) = 10 + 4 * c.objects.length + 2 * c.sensors.length := by
  rw [claimStateAt, statusBody_sensorCountAt joining claim h, statusBody_sensorCount joining claim h,
    statusBody_objectCount joining claim h]

end Published

end Sys2Proof.Machine


namespace Sys2Proof.Machine

/-! ### The codes packed into one byte (R178) -/

theorem selectorByte_low (x : Selector) (b : BypassKey) :
    (selectorCode x ||| (bypassCode b <<< 2)).toNat % 4 = (selectorCode x).toNat := by
  cases x <;> cases b <;> rfl

theorem selectorByte_high (x : Selector) (b : BypassKey) :
    (selectorCode x ||| (bypassCode b <<< 2)).toNat / 4 % 4 = (bypassCode b).toNat := by
  cases x <;> cases b <;> rfl

theorem causeByte_low (c : ResetCause) (joining : Bool) :
    (causeCode c ||| (if joining then 0x80 else 0x00)).toNat % 8 = (causeCode c).toNat := by
  cases c <;> cases joining <;> rfl

theorem causeByte_joining (c : ResetCause) (joining : Bool) :
    (causeCode c ||| (if joining then 0x80 else 0x00)).getLsbD 7 = joining := by
  cases c <;> cases joining <;> rfl

theorem pendingByte_lt (p : CauseSet) : (p.setWidth 8).toNat < 32 := by
  have hp : p.toNat < 32 := p.isLt
  rw [BitVec.toNat_setWidth]
  omega

theorem setWidth_pendingByte (p : CauseSet) : (p.setWidth 8).setWidth 5 = p := by
  revert p
  decide

theorem parseLocalResult_head {body : List Byte} {c : Content} {joining : Bool}
    (h : ∀ j, j < 9 → byteAt body j = byteAt (statusHead c joining) j) : parseLocalResult body = some c.lastLocal := by
  have h6 : natAt body 6 = natAt (statusHead c joining) 6 := congrArg BitVec.toNat (h 6 (by omega))
  have h7 : natAt body 7 = natAt (statusHead c joining) 7 := congrArg BitVec.toNat (h 7 (by omega))
  unfold parseLocalResult
  rw [h6, h7]
  cases hl : c.lastLocal with
  | none =>
    rw [show natAt (statusHead c joining) 6 = 0 by simp [statusHead, localResultBytes, hl, natAt, byteAt]]
    rfl
  | some r =>
    have ho : natAt (statusHead c joining) 6 = (outcomeCode r.outcome).toNat := by
      simp [statusHead, localResultBytes, hl, natAt, byteAt]
    have hr : natAt (statusHead c joining) 7 = (reasonCode r.reason).toNat := by
      simp [statusHead, localResultBytes, hl, natAt, byteAt]
    have hne : (outcomeCode r.outcome).toNat ≠ 0 := by cases r.outcome <;> decide
    rw [ho, hr, if_neg hne, outcomeOfCode_code, reasonOfCode_code]

section AnyContent

variable (c : Content) (joining : Bool) (claim : Option ClaimPart)

theorem statusJoining_statusBody : statusJoining (statusBody c joining claim) = joining := by
  rw [statusJoining, statusBody_head c joining claim (by omega)]
  exact causeByte_joining c.cause joining

theorem statusBody_length :
    (statusBody c joining claim).length =
      10 + 4 * c.objects.length + 2 * c.sensors.length + (claimPartBytes claim).length := by
  have hdrop := congrArg List.length (statusBody_drop_claim c joining claim)
  rw [List.length_drop] at hdrop
  have hpos : 0 < (claimPartBytes claim).length := by cases claim <;> simp [claimPartBytes]
  omega

/-- The byte at the claim state's place. -/
theorem statusBody_claim (j : Nat) :
    byteAt (statusBody c joining claim) (10 + 4 * c.objects.length + 2 * c.sensors.length + j) =
      byteAt (claimPartBytes claim) j := by
  rw [byteAt_add, statusBody_drop_claim]

end AnyContent

section Published

variable {c : Content} (h : Publishable c) (joining : Bool) (claim : Option ClaimPart)
include h

theorem parseStatus_statusBody : parseStatus (statusBody c joining claim) = some c := by
  have hcount := statusBody_objectCount joining claim h
  have hat := statusBody_sensorCountAt joining claim h
  have hsensors := statusBody_sensorCount joining claim h
  obtain ⟨hphase, h100, h2000, h50, h8, h3, hobjs, hsens⟩ := h
  have hbyte {j : Nat} (hj : j < 9) : byteAt (statusBody c joining claim) j = byteAt (statusHead c joining) j :=
    statusBody_head c joining claim hj
  have hlast := parseLocalResult_head (joining := joining) fun j hj => hbyte hj
  have hb0 : natAt (statusBody c joining claim) 0 = (phaseCode c.phase).toNat :=
    congrArg BitVec.toNat (hbyte (j := 0) (by omega))
  have hb1 : natAt (statusBody c joining claim) 1 = (selectorCode c.selector ||| (bypassCode c.bypass <<< 2)).toNat :=
    congrArg BitVec.toNat (hbyte (j := 1) (by omega))
  have hb2 : natAt (statusBody c joining claim) 2 = c.heartbeat / 10 :=
    (congrArg BitVec.toNat (hbyte (j := 2) (by omega))).trans (byteOf_toNat (by omega))
  have hb3 : byteAt (statusBody c joining claim) 3 = c.counter := hbyte (j := 3) (by omega)
  have hb4 : natAt (statusBody c joining claim) 4 = (causeCode c.cause ||| (if joining then 0x80 else 0x00)).toNat :=
    congrArg BitVec.toNat (hbyte (j := 4) (by omega))
  have hb5 : byteAt (statusBody c joining claim) 5 = c.pending.setWidth 8 := hbyte (j := 5) (by omega)
  have hsent : sentPhaseOfCode (phaseCode c.phase).toNat = some c.phase := by
    rcases hphase with hp | hp <;> rw [hp] <;> rfl
  have hobjects := parsePubObjects_read c.objects (k := 1) (by omega) (statusBody_drop_head c joining claim) hobjs
  have hreadings := parsePubSensors_read c.sensors (statusBody_drop_sensors c joining claim) hsens
  unfold parseStatus
  rw [hb0, hb1, hb4, hsent, selectorByte_low, selectorByte_high, causeByte_low, selectorOfCode_code,
    bypassOfCode_code, causeOfCode_code, hlast]
  dsimp only
  rw [hat, hsensors, hcount, hobjects, show 9 + 4 * c.objects.length + 1 = 10 + 4 * c.objects.length by omega,
    hreadings, hb2, hb3, hb5, if_pos ⟨by omega, by omega, by omega, by rw [natAt, hb5]; exact pendingByte_lt _, h8, h3⟩]
  dsimp only
  rw [setWidth_pendingByte, show 10 * (c.heartbeat / 10) = c.heartbeat by omega]

theorem statusBody_length_le : (statusBody c joining claim).length ≤ 96 := by
  rw [statusBody_length]
  obtain ⟨-, -, -, -, h8, h3, -⟩ := h
  have hclaim : (claimPartBytes claim).length ≤ 22 := by
    cases claim with
    | none => decide
    | some p => exact Nat.le_of_eq rfl
  omega

theorem lengthPermitted_statusBody : lengthPermitted .status (statusBody c joining claim) = true := by
  rw [lengthPermitted_of_counted rfl, statusLength_eq_some_iff]
  refine ⟨_, _, (statusBody_objectCount joining claim h).symm, (statusBody_sensorCount joining claim h).symm, ?_⟩
  have hstate : natAt (statusBody c joining claim) (10 + 4 * c.objects.length + 2 * c.sensors.length) =
      natAt (claimPartBytes claim) 0 := congrArg BitVec.toNat (statusBody_claim c joining claim 0)
  rw [statusBody_length, hstate]
  cases claim with
  | none =>
    change 10 + _ + _ + 1 = 11 + _ + _ + 0
    omega
  | some p =>
    have hne : natAt (claimPartBytes (some p)) 0 ≠ 0 := by
      cases hh : p.held <;> simp [claimPartBytes, hh, natAt, byteAt]
    rw [if_neg hne, show (claimPartBytes (some p)).length = 22 from rfl]
    omega

theorem parseClaimPart_none : parseClaimPart (statusBody c joining none) = none := by
  by_contra hne
  rw [← Ne, parseClaimPart_ne_none_iff (statusBody_claimStateAt joining none h)] at hne
  obtain ⟨hstate, -⟩ := hne
  have hzero : natAt (statusBody c joining none) (10 + 4 * c.objects.length + 2 * c.sensors.length) = 0 :=
    congrArg BitVec.toNat (statusBody_claim c joining none 0)
  omega

theorem parseClaimPart_some {p : ClaimPart} (hp : ClaimInRange p) :
    parseClaimPart (statusBody c joining (some p)) = some p := by
  obtain ⟨hcls, hdefer, h207, h6800, hnodes⟩ := hp
  have hbyte := statusBody_claim c joining (some p)
  have hnat (j : Nat) : natAt (statusBody c joining (some p)) (10 + 4 * c.objects.length + 2 * c.sensors.length + j) =
      natAt (claimPartBytes (some p)) j := congrArg BitVec.toNat (hbyte j)
  have hstate : natAt (statusBody c joining (some p)) (10 + 4 * c.objects.length + 2 * c.sensors.length) =
      if p.held then 2 else 1 := by
    refine (hnat 0).trans ?_
    cases hh : p.held <;> simp [claimPartBytes, hh, natAt, byteAt]
  have hclass := (hnat 2).trans (byteOf_toNat (n := p.cls) (by omega))
  have hcount := (hnat 3).trans (byteOf_toNat (n := p.deferCount) (by omega))
  have hhold : halfAt (statusBody c joining (some p)) (10 + 4 * c.objects.length + 2 * c.sensors.length + 4) =
      p.holdLimit := by
    rw [halfAt_add, statusBody_drop_claim]
    exact half_of_bytes (by omega)
  have hslice : slice (statusBody c joining (some p)) (10 + 4 * c.objects.length + 2 * c.sensors.length + 6) 16 =
      nodeBytes p.nodes := by
    rw [slice, ← List.drop_drop, statusBody_drop_claim]
    rfl
  unfold parseClaimPart
  dsimp only
  rw [statusBody_claimStateAt joining (some p) h, hclass, hcount, hhold, hstate, hslice, hbyte,
    nodesOfBytes_nodeBytes hnodes, if_pos]
  · cases p with
    | mk id held cls deferCount holdLimit nodes => cases held <;> rfl
  · exact ⟨by cases p.held <;> simp, (claimRangesOk_iff _ _ _).2 ⟨hcls, hdefer, h207, h6800⟩⟩

end Published

theorem parseClaim_claimBody {p : ClaimPart} {round : Nat} (hp : ClaimInRange p) (hheld : p.held = false)
    (h1 : 1 ≤ round) (h3 : round ≤ 3) :
    parseClaim (claimBody p.id round p.cls p.deferCount p.holdLimit p.nodes) = some p := by
  obtain ⟨hcls, hdefer, h207, h6800, hnodes⟩ := hp
  set body := claimBody p.id round p.cls p.deferCount p.holdLimit p.nodes with hbody
  have hround : natAt body 1 = round := byteOf_toNat (by omega)
  have hclass : natAt body 2 = p.cls := byteOf_toNat (by omega)
  have hcount : natAt body 3 = p.deferCount := byteOf_toNat (by omega)
  have hhold : halfAt body 4 = p.holdLimit := half_of_bytes (by omega)
  have hslice : slice body 6 16 = nodeBytes p.nodes := rfl
  have hid : byteAt body 0 = p.id := rfl
  unfold parseClaim
  rw [hround, hclass, hcount, hhold, hslice, hid, nodesOfBytes_nodeBytes hnodes,
    if_pos ⟨h1, h3, (claimRangesOk_iff _ _ _).2 ⟨hcls, hdefer, h207, h6800⟩⟩]
  cases p with
  | mk id held cls deferCount holdLimit nodes =>
    cases hheld
    rfl

/-- Settles O54. -/
theorem publishedBodiesReadBack : Obligations.PublishedBodiesReadBack := by
  refine ⟨fun c joining h => ?_, fun c joining p h hp => ?_, fun p round hp hheld h1 h3 => ?_, fun body n m hn hm => ?_⟩
  · exact ⟨parseStatus_statusBody h joining none, parseClaimPart_none h joining,
      statusJoining_statusBody c joining none,
      lengthPermitted_statusBody h joining none, statusBody_length_le h joining none⟩
  · exact ⟨parseStatus_statusBody h joining (some p), parseClaimPart_some h joining hp,
      statusJoining_statusBody c joining (some p), lengthPermitted_statusBody h joining (some p),
      statusBody_length_le h joining (some p)⟩
  · exact ⟨parseClaim_claimBody hp hheld h1 h3, rfl⟩
  · refine ⟨parseStatus_ne_none_iff hn hm, ?_, parseClaim_ne_none_iff body⟩
    have hstate : claimStateAt body = 10 + 4 * n + 2 * m := by rw [hm, hn]; rfl
    rw [parseClaimPart_ne_none_iff hstate, show 10 + 4 * n + 2 * m + 2 = 12 + 4 * n + 2 * m by omega]

end Sys2Proof.Machine


namespace Sys2Proof.Machine

/-! ### The places of a record (R12, R179) -/

theorem byteAt_slice {r : List Byte} {i n j : Nat} (h : j < n) : byteAt (slice r i n) j = byteAt r (i + j) := by
  rw [byteAt_add, slice, byteAt, byteAt, List.getD_eq_getElem?_getD, List.getD_eq_getElem?_getD,
    List.getElem?_take_of_lt h]

theorem natAt_slice {r : List Byte} {i n j : Nat} (h : j < n) : natAt (slice r i n) j = natAt r (i + j) :=
  congrArg BitVec.toNat (byteAt_slice h)

theorem halfAt_slice {r : List Byte} {i n j : Nat} (h : j + 1 < n) : halfAt (slice r i n) j = halfAt r (i + j) := by
  rw [halfAt, natAt_slice (by omega), natAt_slice h, halfAt, Nat.add_assoc]

theorem inSteps_iff (v lo hi step : Nat) : inSteps v lo hi step = true ↔ InRange v lo hi step := by
  simp only [inSteps, InRange, Bool.and_eq_true, decide_eq_true_eq, beq_iff_eq, and_assoc]
  refine and_congr Iff.rfl (and_congr Iff.rfl ?_)
  rw [← Nat.dvd_iff_mod_eq_zero, dvd_iff_exists_eq_mul_left]

/-- The station bits of field 3 (R179). -/
theorem maskNat_testBit (bytes : List Byte) (n : Nat) :
    (maskNat bytes).testBit n = (byteAt bytes (n / 8)).getLsbD (n % 8) := by
  induction bytes generalizing n with
  | nil => simp [maskNat, byteAt]
  | cons b bs ih =>
    rw [maskNat, Nat.add_comm, show 256 = 2 ^ 8 from rfl, Nat.testBit_two_pow_mul_add _ b.isLt]
    split
    · rename_i h
      rw [Nat.div_eq_of_lt h, Nat.mod_eq_of_lt h]
      rfl
    · rename_i h
      obtain ⟨m, rfl⟩ : ∃ m, n = m + 8 := ⟨n - 8, by omega⟩
      rw [Nat.add_sub_cancel, ih, Nat.add_div_right _ (by decide), Nat.add_mod_right]
      rfl

theorem stations_notExpected {r : List Byte} {n : Nat} (h : n ≤ 63) :
    (stationsOfBytes (slice r 3 8)).getLsbD n = false ↔ NotExpected r n := by
  rw [stationsOfBytes, BitVec.getLsbD_ofNat, maskNat_testBit, byteAt_slice (by omega), NotExpected]
  simp [show n < 64 by omega]

theorem expectedOk_iff (r : List Byte) :
    expectedOk r = true ↔ NotExpected r 0 ∧ (natAt r 0 ≤ 63 → NotExpected r (natAt r 0)) := by
  simp only [expectedOk, Bool.and_eq_true, Bool.not_eq_true']
  rw [stations_notExpected (by decide)]
  refine and_congr Iff.rfl ⟨fun h h63 => (stations_notExpected h63).1 h, fun h => ?_⟩
  by_cases h63 : natAt r 0 ≤ 63
  · exact (stations_notExpected h63).2 (h h63)
  · exact BitVec.getLsbD_of_ge _ _ (by omega)

/-- The points that a bay with so many local nodes can name (R12). -/
theorem pointOk_code_iff (locals n : Nat) :
    (∃ t, terminalOfCode n = some t ∧ pointOk locals t = true) ↔ PointCode locals n := by
  unfold terminalOfCode PointCode
  split
  · rename_i h
    simp [pointOk, h]
  · rename_i h
    split
    · rename_i h2
      simp [pointOk]
      omega
    · rename_i h2
      split <;> simp [pointOk] <;> omega

theorem code_of_terminalOfCode {n : Nat} {t : Terminal} (h : terminalOfCode n = some t) :
    (terminalCode t).toNat = n := by
  unfold terminalOfCode at h
  split at h
  · obtain rfl := Option.some.inj h
    exact byteOf_toNat (by omega)
  · split at h
    · obtain rfl := Option.some.inj h
      rw [terminalCode, byteOf_toNat (by omega)]
      omega
    · split at h
      · obtain rfl := Option.some.inj h
        simp_all [terminalCode]
      · cases h

theorem terminalOfCode_eq_iff {n m : Nat} {t u : Terminal} (hn : terminalOfCode n = some t)
    (hm : terminalOfCode m = some u) : t = u ↔ n = m := by
  constructor
  · rintro rfl
    exact (code_of_terminalOfCode hn).symm.trans (code_of_terminalOfCode hm)
  · rintro rfl
    exact Option.some.inj (hn.symm.trans hm)

theorem baseTimeOk_iff (k : Kind) (t : Nat) :
    baseTimeOk k t = true ↔ if k = .cb then InRange t 20 1000 10 else InRange t 1000 30000 10 := by
  cases k <;> simp [baseTimeOk, ← inSteps_iff, inSteps] <;> tauto

/-- Step 5 of R12 for one object. -/
theorem objectBytesOk_iff (r : List Byte) (i : Nat) :
    objectBytesOk (natAt r 26) (slice r i 6) = true ↔ ObjectOk r i := by
  have h0 : natAt (slice r i 6) 0 = natAt r i := natAt_slice (by decide)
  have h1 : natAt (slice r i 6) 1 = natAt r (i + 1) := natAt_slice (by decide)
  have h2 : natAt (slice r i 6) 2 = natAt r (i + 2) := natAt_slice (by decide)
  have h3 : halfAt (slice r i 6) 3 = halfAt r (i + 3) := halfAt_slice (by decide)
  have h5 : natAt (slice r i 6) 5 = natAt r (i + 5) := natAt_slice (by decide)
  unfold objectBytesOk ObjectOk
  rw [h0, h1, h2, h3, h5, ← pointOk_code_iff, ← pointOk_code_iff]
  constructor
  · intro h
    split at h
    · rename_i kind t1 t2 hkind ht1 ht2
      simp only [Bool.and_eq_true, decide_eq_true_eq, baseTimeOk_iff] at h
      obtain ⟨⟨⟨hp1, hsecond⟩, hbase⟩, hpol⟩ := h
      have hes : kind = .es ↔ natAt r i = 3 := by
        rw [← kindOfCode_eq_es_iff, hkind, Option.some_inj]
      have hcb : kind = .cb ↔ natAt r i = 1 := by
        rw [← kindOfCode_eq_cb_iff, hkind, Option.some_inj]
      have hrange := (kindOfCode_ne_none_iff (natAt r i)).1 (by rw [hkind]; nofun)
      simp only [hes, hcb] at hsecond hbase
      refine ⟨by omega, ⟨t1, ht1, hp1⟩, fun h3 => ?_, fun h3 => ?_, hbase, hpol⟩
      · rw [if_pos h3] at hsecond
        exact (terminalOfCode_eq_earth_iff _).1 (ht2.trans (congrArg some (eq_of_beq hsecond)))
      · rw [if_neg h3, Bool.and_eq_true, bne_iff_ne] at hsecond
        exact ⟨⟨t2, ht2, hsecond.1⟩, fun heq => hsecond.2 ((terminalOfCode_eq_iff ht2 ht1).2 heq)⟩
    · cases h
  · rintro ⟨hrange, ⟨t1, ht1, hp1⟩, hearth, hpoint, hbase, hpol⟩
    obtain ⟨kind, hkind⟩ := Option.ne_none_iff_exists'.1 ((kindOfCode_ne_none_iff (natAt r i)).2 (by omega))
    have hes : kind = .es ↔ natAt r i = 3 := by rw [← kindOfCode_eq_es_iff, hkind, Option.some_inj]
    have hcb : kind = .cb ↔ natAt r i = 1 := by rw [← kindOfCode_eq_cb_iff, hkind, Option.some_inj]
    obtain ⟨t2, ht2, hsecond⟩ : ∃ t2, terminalOfCode (natAt r (i + 2)) = some t2 ∧
        (if natAt r i = 3 then t2 == .earth else pointOk (natAt r 26) t2 && t2 != t1) = true := by
      by_cases h3 : natAt r i = 3
      · exact ⟨_, (terminalOfCode_eq_earth_iff _).2 (hearth h3), by rw [if_pos h3]; rfl⟩
      · obtain ⟨⟨t2, ht2, hp2⟩, hne⟩ := hpoint h3
        refine ⟨t2, ht2, ?_⟩
        rw [if_neg h3, hp2, Bool.true_and, bne_iff_ne]
        exact fun heq => hne ((terminalOfCode_eq_iff ht2 ht1).1 heq)
    rw [hkind, ht1, ht2]
    simp only [Bool.and_eq_true, decide_eq_true_eq, baseTimeOk_iff, hes, hcb]
    exact ⟨⟨⟨hp1, hsecond⟩, hbase⟩, hpol⟩

/-- Step 6 of R12 for one sensor. -/
theorem sensorBytesOk_iff (r : List Byte) (i : Nat) :
    sensorBytesOk (natAt r 26) (slice r i 2) = true ↔ SensorOk r i := by
  have h0 : natAt (slice r i 2) 0 = natAt r i := natAt_slice (by decide)
  have h1 : natAt (slice r i 2) 1 = natAt r (i + 1) := natAt_slice (by decide)
  unfold sensorBytesOk SensorOk
  rw [h0, h1, ← pointOk_code_iff, Bool.and_eq_true, decide_eq_true_eq]
  refine and_congr ?_ Iff.rfl
  split
  · rename_i t ht
    exact ⟨fun h => ⟨t, ht, h⟩, fun ⟨u, hu, h⟩ => Option.some.inj (hu.symm.trans ht) ▸ h⟩
  · rename_i hnone
    exact ⟨nofun, fun ⟨u, hu, _⟩ => absurd (hu.symm.trans hnone) nofun⟩

theorem slice_length {r : List Byte} {i n : Nat} (h : i + n ≤ r.length) : (slice r i n).length = n := by
  rw [slice, List.length_take, List.length_drop]
  omega

theorem parseProfile_get {r : List Byte} {i j : Nat} (h : i + 20 ≤ r.length) (hj : j < 20) :
    (parseProfile r i).getD j none = parseCell (byteAt r (i + j)) := by
  have hget : (slice r i 20)[j]? = some (byteAt r (i + j)) := by
    rw [← byteAt_slice hj, byteAt, List.getD_eq_getElem?_getD,
      List.getElem?_eq_getElem (by rw [slice_length h]; exact hj)]
    rfl
  rw [parseProfile, List.getD_eq_getElem?_getD, List.getElem?_map, hget]
  rfl

theorem parseCell_isSome_iff (b : Byte) : (parseCell b).isSome = true ↔ b.toNat ≠ 0xFF := by
  rw [parseCell]
  split
  · rename_i h
    simp [h]
  · rename_i h
    simp only [Option.isSome_some, true_iff]
    exact fun heq => h (BitVec.eq_of_toNat_eq heq)

/-- A cell is 0 to 250 or UNRATED (R12, step 7). -/
def cellOk : Option Nat → Bool
  | some d => decide (d ≤ 250)
  | none => true

theorem cellOk_parseCell (b : Byte) : cellOk (parseCell b) = true ↔ b.toNat ≤ 250 ∨ b.toNat = 0xFF := by
  rw [parseCell]
  split
  · rename_i h
    simp [h, cellOk]
  · rename_i h
    have hne : b.toNat ≠ 255 := fun heq => h (BitVec.eq_of_toNat_eq heq)
    simp [cellOk, hne]

theorem profileOk_eq (p : Profile) : profileOk p = (p.all cellOk && (p.getD nominalCell none).isSome) := by
  refine congrArg₂ and (congrArg p.all (funext fun c => ?_)) rfl
  cases c <;> rfl

/-- Step 7 of R12 for one profile. -/
theorem profileOk_iff {r : List Byte} {i : Nat} (h : i + 20 ≤ r.length) :
    profileOk (parseProfile r i) = true ↔ ProfileOk r i := by
  rw [profileOk_eq, Bool.and_eq_true, nominalCell, parseProfile_get h (by decide), parseCell_isSome_iff, ProfileOk]
  refine and_congr ?_ Iff.rfl
  have hlen : (parseProfile r i).length = 20 := by rw [parseProfile, List.length_map, slice_length h]
  rw [List.all_eq_true, List.forall_mem_iff_getElem]
  refine ⟨fun hall j hj => ?_, fun hall j hj => ?_⟩
  · have hcell := hall j (by omega)
    rw [← List.getD_eq_getElem (d := none), parseProfile_get h hj] at hcell
    exact (cellOk_parseCell _).1 hcell
  · rw [hlen] at hj
    rw [← List.getD_eq_getElem (d := none), parseProfile_get h hj]
    exact (cellOk_parseCell _).2 (hall j hj)

/-! ### The check of a record, place by place (R12) -/

/-- The checks of R12 look at the places in their order. -/
theorem recordChecks_places (r : List Byte) : (recordChecks r).map Prod.snd = recordPlaces r := by
  simp [recordChecks, recordPlaces, Function.comp_def, List.range'_succ]

/-- Each check of R12 asks for what its place asks. -/
theorem recordChecks_ok {r : List Byte} (h : r.length = 125) :
    ∀ c ∈ recordChecks r, c.1 = true ↔ PlaceOk r c.2 := by
  unfold recordChecks
  simp only [List.forall_mem_append, List.forall_mem_cons, List.not_mem_nil, false_implies, implies_true, and_true,
    List.forall_mem_map]
  refine ⟨⟨⟨⟨⟨beq_iff_eq, inSteps_iff _ _ _ _, inSteps_iff _ _ _ _, expectedOk_iff r, inSteps_iff _ _ _ _,
    inSteps_iff _ _ _ _, inSteps_iff _ _ _ _, ?_, inSteps_iff _ _ _ _, inSteps_iff _ _ _ _, inSteps_iff _ _ _ _,
    inSteps_iff _ _ _ _, inSteps_iff _ _ _ _, decide_eq_true_iff, decide_eq_true_iff, inSteps_iff _ _ _ _⟩,
    fun k hk => ?_⟩, decide_eq_true_iff⟩, fun k hk => ?_⟩, profileOk_iff (by omega), profileOk_iff (by omega)⟩
  · simp [inSteps, PlaceOk, Nat.mod_one]
  · obtain ⟨i, rfl⟩ : ∃ i, k = i + 1 := ⟨k - 1, by have := (List.mem_range'_1.1 hk).1; omega⟩
    exact objectBytesOk_iff r (28 + 6 * i)
  · obtain ⟨i, rfl⟩ : ∃ i, k = i + 1 := ⟨k - 1, by have := (List.mem_range'_1.1 hk).1; omega⟩
    exact sensorBytesOk_iff r (77 + 2 * i)

theorem checkRecord_eq_none_iff (r : List Byte) : checkRecord r = none ↔ ∀ c ∈ recordChecks r, c.1 = true := by
  rw [checkRecord, List.findSome?_eq_none_iff]
  refine forall₂_congr fun c _ => ?_
  cases c.1 <;> simp

/-- A record passes when every place does (R12). -/
theorem checkRecord_passes_iff {r : List Byte} (h : r.length = 125) :
    checkRecord r = none ↔ ∀ p ∈ recordPlaces r, PlaceOk r p := by
  rw [checkRecord_eq_none_iff, ← recordChecks_places, List.forall_mem_map]
  exact forall₂_congr fun c hc => recordChecks_ok h c hc

/-- The first place that does not pass is reported (R12). -/
theorem checkRecord_fails_iff {r : List Byte} (h : r.length = 125) (p : Place) :
    checkRecord r = some p ↔
      ∃ before after, recordPlaces r = before ++ p :: after ∧ (∀ q ∈ before, PlaceOk r q) ∧ ¬ PlaceOk r p := by
  have hok := recordChecks_ok h
  rw [checkRecord, List.findSome?_eq_some_iff, ← recordChecks_places]
  constructor
  · rintro ⟨before, c, after, hsplit, hc, hbefore⟩
    rw [hsplit] at hok
    refine ⟨before.map Prod.snd, after.map Prod.snd, ?_, fun q hq => ?_, ?_⟩
    · rw [hsplit, List.map_append, List.map_cons]
      cases hc1 : c.1 with
      | true => simp [hc1] at hc
      | false =>
        simp only [hc1, Bool.false_eq_true, if_false, Option.some_inj] at hc
        rw [hc]
    · obtain ⟨d, hd, rfl⟩ := List.mem_map.1 hq
      rw [← hok d (by simp [hd])]
      have hpass := hbefore d hd
      by_contra hfail
      simp [hfail] at hpass
    · cases hc1 : c.1 with
      | true => simp [hc1] at hc
      | false =>
        simp only [hc1, Bool.false_eq_true, if_false, Option.some_inj] at hc
        rw [← hc, ← hok c (by simp), hc1]
        decide
  · rintro ⟨before, after, hsplit, hbefore, hfail⟩
    obtain ⟨l₁, l₂, hl, rfl, hl₂⟩ := List.map_eq_append_iff.1 hsplit
    obtain ⟨c, l₃, rfl, rfl, -⟩ := List.map_eq_cons_iff.1 hl₂
    rw [hl] at hok
    refine ⟨l₁, c, l₃, hl, ?_, fun d hd => ?_⟩
    · rw [if_neg fun hc => hfail ((hok c (by simp)).1 hc)]
    · rw [if_pos ((hok d (by simp [hd])).2 (hbefore _ (List.mem_map_of_mem hd)))]

end Sys2Proof.Machine


namespace Sys2Proof.Machine

/-! ### The layout of a record (R179) -/

/-- The first 28 bytes of a record: fields 1 to 14, and the object count. -/
def recordHead (r : BayRecord) : List Byte :=
  let stations (i : Nat) : Byte := r.expected.extractLsb' (8 * i) 8
  [byteOf r.address, byteOf (r.heartbeat / 256), byteOf r.heartbeat,
    stations 0, stations 1, stations 2, stations 3, stations 4, stations 5, stations 6, stations 7, byteOf r.depth,
    byteOf (r.claimWindow / 256), byteOf r.claimWindow, byteOf (r.deferInterval / 256), byteOf r.deferInterval,
    byteOf r.stallLimit, byteOf r.qualification, byteOf (r.intermediate / 256), byteOf r.intermediate,
    byteOf (r.settle / 256), byteOf r.settle, byteOf (r.coilPulse / 256), byteOf r.coilPulse,
    byteOf r.nominal, r.faultMask.setWidth 8, byteOf r.localNodes, byteOf r.objects.length]

theorem filledTo_length {n : Nat} {bytes : List Byte} (h : bytes.length ≤ n) : (filledTo n bytes).length = n := by
  rw [filledTo, List.length_append, List.length_replicate]
  omega

theorem flatMap_length_of_const {α : Type} {f : α → List Byte} {n : Nat} (hf : ∀ x, (f x).length = n) (l : List α) :
    (l.flatMap f).length = n * l.length := by
  induction l with
  | nil => simp
  | cons x l ih => rw [List.flatMap_cons, List.length_append, hf, ih, List.length_cons, Nat.mul_add_one, Nat.add_comm]

/-- The bytes of one description among those of a list. -/
theorem slice_flatMap {α : Type} {f : α → List Byte} {n : Nat} (hf : ∀ x, (f x).length = n) (l : List α)
    (rest : List Byte) {i : Nat} (hi : i < l.length) : slice (l.flatMap f ++ rest) (n * i) n = f l[i] := by
  induction l generalizing i with
  | nil => simp at hi
  | cons x l ih =>
    rw [List.flatMap_cons, List.append_assoc]
    cases i with
    | zero => rw [slice, Nat.mul_zero, List.drop_zero, List.take_left' (hf x)]; rfl
    | succ i =>
      rw [slice, Nat.mul_add_one, Nat.add_comm, ← List.drop_drop, List.drop_left' (hf x)]
      exact ih (by simpa using hi)

theorem describeObject_length (d : ObjDesc) : (describeObject d).length = 6 := rfl

theorem describeSensor_length (d : SensorDesc) : (describeSensor d).length = 2 := rfl

/-- The bytes of a record after its first 28. -/
def recordTail (r : BayRecord) : List Byte :=
  filledTo 48 (r.objects.flatMap describeObject) ++ (byteOf r.sensors.length ::
    (filledTo 6 (r.sensors.flatMap describeSensor) ++ (r.motorProfile.map cellByte ++
      (r.coilProfile.map cellByte ++ checkBytes (recordFields r)))))

theorem recordHead_length (r : BayRecord) : (recordHead r).length = 28 := rfl

theorem recordBytes_split (r : BayRecord) : recordBytes r = recordHead r ++ recordTail r := by
  have hfields : recordFields r = recordHead r ++ filledTo 48 (r.objects.flatMap describeObject) ++
    [byteOf r.sensors.length] ++ filledTo 6 (r.sensors.flatMap describeSensor) ++ r.motorProfile.map cellByte ++
    r.coilProfile.map cellByte := rfl
  rw [recordBytes]
  conv_lhs => lhs; rw [hfields]
  simp only [recordTail, List.append_assoc, List.cons_append, List.nil_append]

theorem drop_head (r : BayRecord) : (recordBytes r).drop 28 = recordTail r := by
  rw [recordBytes_split]
  exact List.drop_left' (recordHead_length r)

theorem head_read (r : BayRecord) {j : Nat} (hj : j < 28) : byteAt (recordBytes r) j = byteAt (recordHead r) j := by
  rw [recordBytes_split, byteAt, byteAt, List.getD_append _ _ _ _ (by rw [recordHead_length]; exact hj)]

theorem recordBytes_object (r : BayRecord) {i : Nat} (hi : i < r.objects.length) :
    objectBytes (recordBytes r) (i + 1) = describeObject r.objects[i] := by
  rw [objectBytes, Nat.add_sub_cancel, slice, ← List.drop_drop, drop_head r, recordTail, filledTo, List.append_assoc]
  exact slice_flatMap describeObject_length r.objects _ hi

section Layout

variable {r : BayRecord} (h : RecordAdmitted r)
include h

theorem objectsField_length : (filledTo 48 (r.objects.flatMap describeObject)).length = 48 := by
  obtain ⟨-, -, -, -, -, -, -, -, -, -, -, -, -, -, ⟨-, h8, -⟩, -⟩ := h
  exact filledTo_length (by rw [flatMap_length_of_const describeObject_length]; omega)

theorem sensorsField_length : (filledTo 6 (r.sensors.flatMap describeSensor)).length = 6 := by
  obtain ⟨-, -, -, -, -, -, -, -, -, -, -, -, -, -, -, -, h3, -⟩ := h
  exact filledTo_length (by rw [flatMap_length_of_const describeSensor_length]; omega)

theorem motorField_length : (r.motorProfile.map cellByte).length = 20 := by
  obtain ⟨-, -, -, -, -, -, -, -, -, -, -, -, -, -, -, -, -, -, ⟨hm, -⟩, -⟩ := h
  rw [List.length_map, hm]

theorem coilField_length : (r.coilProfile.map cellByte).length = 20 := by
  obtain ⟨-, -, -, -, -, -, -, -, -, -, -, -, -, -, -, -, -, -, -, ⟨hc, -⟩⟩ := h
  rw [List.length_map, hc]

theorem recordFields_length : (recordFields r).length = 123 := by
  have hobj := objectsField_length h
  have hsens := sensorsField_length h
  have hm := motorField_length h
  have hc := coilField_length h
  have hhead : (recordHead r).length = 28 := rfl
  have hsplit : recordFields r = recordHead r ++ filledTo 48 (r.objects.flatMap describeObject) ++
    [byteOf r.sensors.length] ++ filledTo 6 (r.sensors.flatMap describeSensor) ++ r.motorProfile.map cellByte ++
    r.coilProfile.map cellByte := rfl
  rw [hsplit]
  simp only [List.length_append, hobj, hsens, hm, hc, hhead, List.length_singleton]

theorem recordBytes_length : (recordBytes r).length = 125 := by
  rw [recordBytes, List.length_append, recordFields_length h]
  rfl

theorem recordBytes_check : checkBytes (slice (recordBytes r) 0 123) = slice (recordBytes r) 123 2 := by
  have hlen := recordFields_length h
  rw [slice, slice, List.drop_zero, recordBytes, List.take_left' hlen, List.drop_left' hlen]
  rfl

theorem drop_objects :
    (recordBytes r).drop 76 = byteOf r.sensors.length :: (filledTo 6 (r.sensors.flatMap describeSensor) ++
      (r.motorProfile.map cellByte ++ (r.coilProfile.map cellByte ++ checkBytes (recordFields r)))) :=
  drop_add_of_drop (i := 28) (n := 48) (drop_head r) (objectsField_length h)

theorem drop_sensorCount :
    (recordBytes r).drop 77 = filledTo 6 (r.sensors.flatMap describeSensor) ++
      (r.motorProfile.map cellByte ++ (r.coilProfile.map cellByte ++ checkBytes (recordFields r))) :=
  drop_add_of_drop (i := 76) (n := 1) (pre := [byteOf r.sensors.length]) (drop_objects h) rfl

theorem drop_sensors :
    (recordBytes r).drop 83 =
      r.motorProfile.map cellByte ++ (r.coilProfile.map cellByte ++ checkBytes (recordFields r)) :=
  drop_add_of_drop (i := 77) (n := 6) (drop_sensorCount h) (sensorsField_length h)

theorem drop_motor : (recordBytes r).drop 103 = r.coilProfile.map cellByte ++ checkBytes (recordFields r) :=
  drop_add_of_drop (i := 83) (n := 20) (drop_sensors h) (motorField_length h)

theorem recordBytes_sensor {i : Nat} (hi : i < r.sensors.length) :
    sensorBytes (recordBytes r) (i + 1) = describeSensor r.sensors[i] := by
  rw [sensorBytes, Nat.add_sub_cancel, slice, ← List.drop_drop, drop_sensorCount h, filledTo, List.append_assoc]
  exact slice_flatMap describeSensor_length r.sensors _ hi

theorem recordBytes_sensorCount : natAt (recordBytes r) 76 = r.sensors.length := by
  have hadd := natAt_add (recordBytes r) 76 0
  rw [drop_objects h] at hadd
  obtain ⟨-, -, -, -, -, -, -, -, -, -, -, -, -, -, -, -, h3, -⟩ := h
  exact hadd.trans (byteOf_toNat (by omega))

end Layout

/-! ### The values of a record read back (R179) -/

theorem halfAt_halfBytes {n : Nat} (h : n < 65536) {l : List Byte} {i : Nat} (h0 : byteAt l i = byteOf (n / 256))
    (h1 : byteAt l (i + 1) = byteOf n) : halfAt l i = n := by
  rw [halfAt, natAt, natAt, h0, h1]
  exact half_of_bytes h

theorem pointTerminal_published {locals : Nat} (h4 : locals ≤ 4) {t : Terminal} (h : pointTerminal locals t = true) :
    publishedPoint t = true := by
  cases t with
  | earth => cases h
  | yard n => simpa [pointTerminal, publishedPoint] using h
  | localNode k =>
    simp [pointTerminal, publishedPoint] at h ⊢
    omega

theorem pointTerminal_eq : pointTerminal = pointOk := by
  funext locals t
  cases t <;> rfl

theorem parseCell_cellByte {n : Option Nat} (h : ∀ m, n = some m → m ≤ 250) : parseCell (cellByte n) = n := by
  cases n with
  | none => rfl
  | some m =>
    have hm := h m rfl
    have hne : byteOf m ≠ 0xFF := fun heq => by
      have hnat := congrArg BitVec.toNat heq
      rw [byteOf_toNat (by omega)] at hnat
      simp at hnat
      omega
    rw [cellByte, parseCell, if_neg hne, byteOf_toNat (by omega)]

theorem map_parseCell {p : Profile} (h : ProfileAdmitted p) : (p.map cellByte).map parseCell = p := by
  obtain ⟨-, hle, -⟩ := h
  rw [List.map_map]
  refine (List.map_congr_left (g := id) fun c hc => ?_).trans (List.map_id p)
  exact parseCell_cellByte fun m hm => hle m (hm ▸ hc)

theorem profileOk_of_admitted {p : Profile} (h : ProfileAdmitted p) : profileOk p = true := by
  obtain ⟨-, hle, hrated⟩ := h
  rw [profileOk_eq, Bool.and_eq_true, List.all_eq_true]
  refine ⟨fun c hc => ?_, Option.isSome_iff_ne_none.2 hrated⟩
  cases c with
  | none => rfl
  | some m => exact decide_eq_true (hle m hc)

theorem polarityByte_bits (d : ObjDesc) :
    (polarityByte d).getLsbD 0 = d.openInverted ∧ (polarityByte d).getLsbD 1 = d.closedInverted ∧
      (polarityByte d).getLsbD 2 = d.readyInverted ∧ (polarityByte d).toNat < 8 := by
  unfold polarityByte
  cases d.openInverted <;> cases d.closedInverted <;> cases d.readyInverted <;> decide

theorem base_read {locals : Nat} {d : ObjDesc} (h : ObjectAdmitted locals d) :
    halfAt (describeObject d) 3 = d.base := by
  obtain ⟨-, -, -, hbase⟩ := h
  have hlt : d.base < 65536 := by
    split at hbase <;> obtain ⟨-, hle, -⟩ := hbase <;> omega
  exact halfAt_halfBytes hlt rfl rfl

section Described

variable {locals : Nat} (h4 : locals ≤ 4) {d : ObjDesc} (h : ObjectAdmitted locals d)
include h4 h

theorem terminals_read :
    terminalOfCode (natAt (describeObject d) 1) = some d.term1 ∧
      terminalOfCode (natAt (describeObject d) 2) = some d.term2 := by
  obtain ⟨hp1, hes, hpoint, -⟩ := h
  refine ⟨terminalOfCode_code (.inl (pointTerminal_published h4 hp1)), terminalOfCode_code ?_⟩
  by_cases hk : d.kind = .es
  · exact .inr (hes hk)
  · exact .inl (pointTerminal_published h4 (hpoint hk).1)

theorem parseObject_describe : parseObject (describeObject d) = d := by
  obtain ⟨ht1, ht2⟩ := terminals_read h4 h
  have hkind : kindOfCode (natAt (describeObject d) 0) = some d.kind := kindOfCode_code d.kind
  have hpol : byteAt (describeObject d) 5 = polarityByte d := rfl
  obtain ⟨hopen, hclosed, hready, -⟩ := polarityByte_bits d
  rw [parseObject, ht1, ht2, hkind, base_read h, hpol, hopen, hclosed, hready]
  rfl

theorem objectBytesOk_describe : objectBytesOk locals (describeObject d) = true := by
  obtain ⟨ht1, ht2⟩ := terminals_read h4 h
  have hkind : kindOfCode (natAt (describeObject d) 0) = some d.kind := kindOfCode_code d.kind
  have hbase := base_read h
  have hpol : natAt (describeObject d) 5 = (polarityByte d).toNat := rfl
  obtain ⟨-, -, -, hlt⟩ := polarityByte_bits d
  obtain ⟨hp1, hes, hpoint, hrange⟩ := h
  unfold objectBytesOk
  rw [hkind, ht1, ht2, hbase, hpol]
  simp only [Bool.and_eq_true, decide_eq_true_eq, baseTimeOk_iff]
  refine ⟨⟨⟨pointTerminal_eq ▸ hp1, ?_⟩, hrange⟩, hlt⟩
  split
  · rename_i hk
    rw [hes hk]
    rfl
  · rename_i hk
    rw [Bool.and_eq_true, bne_iff_ne]
    exact ⟨pointTerminal_eq ▸ (hpoint hk).1, (hpoint hk).2⟩

end Described

theorem sensor_read {locals : Nat} (h4 : locals ≤ 4) {d : SensorDesc} (h : pointTerminal locals d.node = true) :
    parseSensor (describeSensor d) = d ∧ sensorBytesOk locals (describeSensor d) = true := by
  have ht : terminalOfCode (natAt (describeSensor d) 0) = some d.node :=
    terminalOfCode_code (.inl (pointTerminal_published h4 h))
  have hb : natAt (describeSensor d) 1 = if d.inverted then 1 else 0 := by
    cases hd : d.inverted <;> simp [describeSensor, hd, natAt, byteAt]
  constructor
  · rw [parseSensor, ht, hb]
    cases d with
    | mk node inverted => cases inverted <;> rfl
  · rw [sensorBytesOk, ht, hb, Bool.and_eq_true]
    exact ⟨pointTerminal_eq ▸ h, by cases d.inverted <;> rfl⟩

theorem stationsOfBytes_field (x : StationSet) :
    stationsOfBytes ((List.range 8).map fun i => x.extractLsb' (8 * i) 8) = x := by
  have hbytes : (fun i => x.extractLsb' (8 * i) 8) = fun i => byteOf (x.toNat / 256 ^ i) := by
    funext i
    refine BitVec.eq_of_toNat_eq ?_
    rw [BitVec.extractLsb'_toNat, Nat.shiftRight_eq_div_pow, Nat.pow_mul]
    rfl
  rw [stationsOfBytes, hbytes, maskNat_bytes, Nat.mod_eq_of_lt (by exact x.isLt), BitVec.ofNat_toNat,
    BitVec.setWidth_eq]

end Sys2Proof.Machine


namespace Sys2Proof.Machine

/-! ### Records of admitted values (R8 to R12, R179) -/

theorem expected_read (r : BayRecord) : stationsOfBytes (slice (recordBytes r) 3 8) = r.expected := by
  have hslice : slice (recordBytes r) 3 8 = slice (recordHead r) 3 8 := by
    rw [recordBytes_split, slice, slice, List.drop_append_of_le_length (by rw [recordHead_length]; decide),
      List.take_append_of_le_length (by rw [List.length_drop, recordHead_length]; decide)]
  rw [hslice, show slice (recordHead r) 3 8 = (List.range 8).map fun i => r.expected.extractLsb' (8 * i) 8 from rfl]
  exact stationsOfBytes_field r.expected

theorem natAt_head {r : BayRecord} {j n : Nat} (hj : j < 28) (hbyte : byteAt (recordHead r) j = byteOf n)
    (hn : n < 256) :
    natAt (recordBytes r) j = n := by
  rw [natAt, head_read r hj, hbyte, byteOf_toNat hn]

theorem halfAt_head {r : BayRecord} {j n : Nat} (hj : j + 1 < 28) (h0 : byteAt (recordHead r) j = byteOf (n / 256))
    (h1 : byteAt (recordHead r) (j + 1) = byteOf n) (hn : n < 65536) : halfAt (recordBytes r) j = n :=
  halfAt_halfBytes hn ((head_read r (by omega)).trans h0) ((head_read r hj).trans h1)

section Values

variable {r : BayRecord} (h : RecordAdmitted r)
include h

theorem objects_read :
    (List.range' 1 r.objects.length).map (fun k => parseObject (objectBytes (recordBytes r) k)) = r.objects := by
  have hobject := fun i (hi : i < r.objects.length) => recordBytes_object r hi
  obtain ⟨-, -, -, -, -, -, -, -, -, -, -, -, -, h4, -, hobjs, -⟩ := h
  refine List.ext_getElem (by simp) fun i hi hi' => ?_
  rw [List.getElem_map, List.getElem_range', Nat.one_mul, Nat.add_comm, hobject i hi']
  exact parseObject_describe h4 (hobjs _ (List.getElem_mem hi'))

theorem sensors_read :
    (List.range' 1 r.sensors.length).map (fun k => parseSensor (sensorBytes (recordBytes r) k)) = r.sensors := by
  have hsensor := fun i (hi : i < r.sensors.length) => recordBytes_sensor h hi
  obtain ⟨-, -, -, -, -, -, -, -, -, -, -, -, -, h4, -, -, -, hsens, -⟩ := h
  refine List.ext_getElem (by simp) fun i hi hi' => ?_
  rw [List.getElem_map, List.getElem_range', Nat.one_mul, Nat.add_comm, hsensor i hi']
  exact (sensor_read h4 (hsens _ (List.getElem_mem hi'))).1

theorem motorProfile_read : parseProfile (recordBytes r) 83 = r.motorProfile := by
  have hlen := motorField_length h
  have hdrop := drop_sensors h
  obtain ⟨-, -, -, -, -, -, -, -, -, -, -, -, -, -, -, -, -, -, hm, -⟩ := h
  rw [parseProfile, slice, hdrop, List.take_left' hlen, map_parseCell hm]

theorem coilProfile_read : parseProfile (recordBytes r) 103 = r.coilProfile := by
  have hlen := coilField_length h
  have hdrop := drop_motor h
  obtain ⟨-, -, -, -, -, -, -, -, -, -, -, -, -, -, -, -, -, -, -, hc⟩ := h
  rw [parseProfile, slice, hdrop, List.take_left' hlen, map_parseCell hc]

end Values

/-- The values that the head of a record of admitted values supplies. -/
structure HeadRead (r : BayRecord) (bytes : List Byte) : Prop where
  address : natAt bytes 0 = r.address
  heartbeat : halfAt bytes 1 = r.heartbeat
  depth : natAt bytes 11 = r.depth
  claimWindow : halfAt bytes 12 = r.claimWindow
  deferInterval : halfAt bytes 14 = r.deferInterval
  stallLimit : natAt bytes 16 = r.stallLimit
  qualification : natAt bytes 17 = r.qualification
  intermediate : halfAt bytes 18 = r.intermediate
  settle : halfAt bytes 20 = r.settle
  coilPulse : halfAt bytes 22 = r.coilPulse
  nominal : natAt bytes 24 = r.nominal
  faultMask : byteAt bytes 25 = r.faultMask.setWidth 8
  localNodes : natAt bytes 26 = r.localNodes
  objectCount : natAt bytes 27 = r.objects.length

theorem recordBytes_headRead {r : BayRecord} (h : RecordAdmitted r) : HeadRead r (recordBytes r) := by
  obtain ⟨⟨-, ha, -⟩, ⟨-, hhb, -⟩, -, -, ⟨-, hd, -⟩, ⟨-, hw, -⟩, ⟨-, hdi, -⟩, hst, ⟨-, hq, -⟩, ⟨-, hi, -⟩, ⟨-, hs, -⟩,
    ⟨-, hcp, -⟩, ⟨-, hn, -⟩, hl, ⟨-, hcount, -⟩, -⟩ := h
  exact {
    address := natAt_head (by decide) rfl (by omega)
    heartbeat := halfAt_head (by decide) rfl rfl (by omega)
    depth := natAt_head (by decide) rfl (by omega)
    claimWindow := halfAt_head (by decide) rfl rfl (by omega)
    deferInterval := halfAt_head (by decide) rfl rfl (by omega)
    stallLimit := natAt_head (by decide) rfl (by omega)
    qualification := natAt_head (by decide) rfl (by omega)
    intermediate := halfAt_head (by decide) rfl rfl (by omega)
    settle := halfAt_head (by decide) rfl rfl (by omega)
    coilPulse := halfAt_head (by decide) rfl rfl (by omega)
    nominal := natAt_head (by decide) rfl (by omega)
    faultMask := head_read r (by decide)
    localNodes := natAt_head (by decide) rfl (by omega)
    objectCount := natAt_head (by decide) rfl (by omega) }

end Sys2Proof.Machine


namespace Sys2Proof.Machine

/-- A record of admitted values supplies those values (R8 to R10, R179). -/
theorem parseRecord_recordBytes {r : BayRecord} (h : RecordAdmitted r) : parseRecord (recordBytes r) = r := by
  have hhead := recordBytes_headRead h
  rw [parseRecord, hhead.address, hhead.heartbeat, hhead.depth, hhead.claimWindow, hhead.deferInterval,
    hhead.stallLimit,
    hhead.qualification, hhead.intermediate, hhead.settle, hhead.coilPulse, hhead.nominal, hhead.faultMask,
    hhead.localNodes, hhead.objectCount, recordBytes_sensorCount h, expected_read, objects_read h, sensors_read h,
    motorProfile_read h, coilProfile_read h, setWidth_pendingByte]

/-- A record of admitted values passes every check (R12). -/
theorem checkRecord_recordBytes {r : BayRecord} (h : RecordAdmitted r) : checkRecord (recordBytes r) = none := by
  have hhead := recordBytes_headRead h
  have hcheck := recordBytes_check h
  have hsensorCount := recordBytes_sensorCount h
  have hexpected := expected_read r
  have hmotor := motorProfile_read h
  have hcoil := coilProfile_read h
  have hobject := fun i (hi : i < r.objects.length) => recordBytes_object r hi
  have hsensor := fun i (hi : i < r.sensors.length) => recordBytes_sensor h hi
  obtain ⟨haddress, hheartbeat, hnone, hown, hdepth, hwindow, hdefer, hstall, hqual, hinter, hsettle, hcoilPulse,
    hnominal,
    hlocals, hcount, hobjects, hsensors, hnodes, hprofile, hprofile'⟩ := h
  rw [checkRecord_eq_none_iff]
  unfold recordChecks
  rw [hhead.address, hhead.heartbeat, hhead.depth, hhead.claimWindow, hhead.deferInterval, hhead.stallLimit,
    hhead.qualification, hhead.intermediate, hhead.settle, hhead.coilPulse, hhead.nominal, hhead.localNodes,
    hhead.objectCount, hsensorCount, hmotor, hcoil]
  simp only [List.forall_mem_append, List.forall_mem_cons, List.not_mem_nil, false_implies, implies_true, and_true,
    List.forall_mem_map, inSteps_iff, decide_eq_true_eq]
  refine ⟨⟨⟨⟨⟨beq_iff_eq.2 hcheck, haddress, hheartbeat, ?_, hdepth, hwindow, hdefer,
    ⟨Nat.zero_le _, hstall, _, (Nat.mul_one _).symm⟩,
    hqual, hinter, hsettle, hcoilPulse, hnominal, ?_, hlocals, hcount⟩,
    fun k hk => ?_⟩, hsensors⟩, fun k hk => ?_⟩, profileOk_of_admitted hprofile, profileOk_of_admitted hprofile'⟩
  · rw [expectedOk, hexpected, hhead.address]
    simp only [hnone, hown, Bool.not_false, Bool.and_self]
  · rw [natAt, hhead.faultMask]
    exact pendingByte_lt r.faultMask
  · obtain ⟨h1, hlt⟩ := List.mem_range'_1.1 hk
    obtain ⟨i, rfl⟩ : ∃ i, k = i + 1 := ⟨k - 1, by omega⟩
    have hi : i < r.objects.length := by omega
    rw [hobject i hi]
    exact objectBytesOk_describe hlocals (hobjects _ (List.getElem_mem hi))
  · obtain ⟨h1, hlt⟩ := List.mem_range'_1.1 hk
    obtain ⟨i, rfl⟩ : ∃ i, k = i + 1 := ⟨k - 1, by omega⟩
    have hi : i < r.sensors.length := by omega
    rw [hsensor i hi]
    exact (sensor_read hlocals (hnodes _ (List.getElem_mem hi))).2

end Sys2Proof.Machine


namespace Sys2Proof.Machine

/-! ### The inputs that qualify at the entry to LISTEN (R28, R164) -/

/-- With no flag pending a single input's qualification leaves the fault logic and JOINING. -/
theorem singleQualified_quiet (which : SingleInput) (previous : Option Bool) (contact : Bool) {s : State}
    (h : s.faults.pending = 0) :
    (singleQualified which previous contact s).faults = s.faults ∧
      (singleQualified which previous contact s).view.joining = s.view.joining := by
  cases which with
  | selector => exact ⟨ownChanged_faults s, by simp [singleQualified, handSelector, ownChanged_view]⟩
  | bypassKey => exact ⟨ownChanged_faults s, by simp [singleQualified, ownChanged_view]⟩
  | synchroPermit => exact ⟨rfl, rfl⟩
  | faultReset =>
    have hedge : faultResetEdge s = s := by rw [faultResetEdge, setPending, if_pos (by simp [h])]
    simp only [singleQualified, hedge, ite_self, and_self]
  | localPush k dir =>
    unfold singleQualified pushEdge
    dsimp only
    split
    · split <;> exact ⟨rfl, rfl⟩
    · exact ⟨rfl, rfl⟩

theorem qualifySingle_quiet (which : SingleInput) {s : State} (h : s.faults.pending = 0) :
    (qualifySingle which s).faults = s.faults ∧ (qualifySingle which s).view.joining = s.view.joining := by
  unfold qualifySingle
  dsimp only
  split
  · exact ⟨rfl, rfl⟩
  · exact singleQualified_quiet which _ _ h

theorem foldl_invariant {α : Type} {f : State → α → State} {P : State → Prop} (hstep : ∀ t x, P t → P (f t x))
    (l : List α) (s : State) (hs : P s) : P (l.foldl f s) := by
  induction l generalizing s with
  | nil => exact hs
  | cons x l ih => exact ih _ (hstep s x hs)

theorem qualifyRipeSingles_quiet {s : State} (h : s.faults.pending = 0) :
    (qualifyRipeSingles s).faults = s.faults ∧ (qualifyRipeSingles s).view.joining = s.view.joining := by
  unfold qualifyRipeSingles
  generalize allSingles = l
  refine foldl_invariant (P := fun t => t.faults = s.faults ∧ t.view.joining = s.view.joining)
    (f := fun t which => if (singleOf t which).since + qualificationTime t ≤ t.now then qualifySingle which t else t)
    (fun t which ht => ?_) l s ⟨rfl, rfl⟩
  obtain ⟨hfaults, hjoining⟩ := ht
  by_cases hripe : (singleOf t which).since + qualificationTime t ≤ t.now
  · obtain ⟨hf, hj⟩ := qualifySingle_quiet which (s := t) (by rw [hfaults, h])
    rw [if_pos hripe]
    exact ⟨hf.trans hfaults, hj.trans hjoining⟩
  · rw [if_neg hripe]
    exact ⟨hfaults, hjoining⟩

/-! ### The end of the self-test (R14, R163, R164) -/

theorem exec_selfTestEnd {s : State} (h : s.start.phase = .selfTest) : exec .selfTestEnd s = .next (endSelfTest s) := by
  have harm : exec .selfTestEnd s = execSelfTestEnd s := rfl
  rw [harm, execSelfTestEnd, if_pos h]

theorem endSelfTest_none {s : State} (h : s.store.status = .none) : endSelfTest s = enterUnconfigured s := by
  rw [endSelfTest, h]

section Stored

variable {s : State} (h : s.store.status ≠ .none) {bytes : List Byte} (hb : s.store.stored = some bytes)
include h hb

theorem endSelfTest_passes (hc : checkRecord bytes = none) :
    endSelfTest s = enterListen (parseRecord bytes) (storeInForce s) := by
  unfold endSelfTest
  rw [hb]
  cases hst : s.store.status with
  | none => exact absurd hst h
  | stored => simp only [hc]
  | inForce => simp only [hc]
  | rejected => simp only [hc]

theorem endSelfTest_fails {p : Place} (hc : checkRecord bytes = some p) :
    endSelfTest s = beginCondition .configInvalid (enterUnconfigured (storeRejected p s)) := by
  unfold endSelfTest
  rw [hb]
  cases hst : s.store.status with
  | none => exact absurd hst h
  | stored => simp only [hc]
  | inForce => simp only [hc]
  | rejected => simp only [hc]

end Stored

/-- The beginning of CONFIG_INVALID while no record has been in force since the reset (R11, R36, R38). -/
theorem beginConfigInvalid {s : State} (hf : s.faults = Faults.clear) (hc : s.copy = none) :
    beginCondition .configInvalid s =
      s.withFaults { pending := causeBit .configInvalid, holding := causeBit .configInvalid, relay := true } := by
  have hforce : recordInForce s = none := by
    unfold recordInForce
    split
    · exact hc
    · rfl
  have henabled (x : Faults) : enabledCauses (s.withFaults x) = 0b11111 := by
    have hx : recordInForce (s.withFaults x) = none := hforce
    rw [enabledCauses, hx]
  have hquiet (x : Faults) : ownChanged (s.withFaults x) = s.withFaults x := by
    have hx : (s.withFaults x).copy.isSome = false := by rw [show (s.withFaults x).copy = none from hc]; rfl
    rw [ownChanged, hx]
    rfl
  rw [beginCondition_of_not_holding (by rw [hf]; rfl), hf]
  set y := s.withFaults
    { pending := causeBit .configInvalid, holding := causeBit .configInvalid, relay := false } with hy
  have hset : setPending (Faults.clear.pending ||| causeBit .configInvalid)
      (s.withFaults { Faults.clear with holding := Faults.clear.holding ||| causeBit .configInvalid }) =
      ownChanged (refreshRelay y) := if_neg (by rw [State.withFaults_faults]; decide)
  have hrefresh : refreshRelay y =
      s.withFaults { pending := causeBit .configInvalid, holding := causeBit .configInvalid, relay := true } := by
    rw [refreshRelay, hy, henabled, State.withFaults_faults,
      show relayFor (causeBit .configInvalid) 0b11111 = true by decide]
    rfl
  rw [hset, hrefresh, hquiet]

/-- The end of the self-test with a record that passes (R14, R164). -/
theorem enterListen_spec (r : BayRecord) {s : State} (hf : s.faults = Faults.clear) :
    (enterListen r s).faults.relay = false ∧ (enterListen r s).view.joining = false ∧
      Touches (singleParts ++ [.supply, .temperature]) (listening r s) (enterListen r s) := by
  have hpending : (listening r s).faults.pending = 0 := congrArg Faults.pending hf
  obtain ⟨hfaults, hjoining⟩ := qualifyRipeSingles_quiet hpending
  have hmeasures := qualifyRipeMeasures_touches (qualifyRipeSingles (listening r s))
  rw [enterListen_eq]
  refine ⟨?_, ?_, (qualifyRipeSingles_touches _).trans hmeasures⟩
  · rw [show State.faults (qualifyRipeMeasures _) = _ from hmeasures .faults (by decide), hfaults]
    change relayFor s.faults.pending _ = false
    simp [hf, Faults.clear, relayFor]
  · rw [show State.view (qualifyRipeMeasures _) = _ from hmeasures .view (by decide), hjoining]
    rfl

theorem objIn_started {s : State} {k : Nat} (r : BayRecord) (hk : (tableGet s.objects k).isSome = true) :
    objIn (listening r s) k = { objIn s k with since := s.now, readySince := s.now } := by
  obtain ⟨o, ho⟩ := Option.isSome_iff_exists.1 hk
  rw [objIn_listening, objIn, ho]
  rfl

theorem sensorIn_started {s : State} {k : Nat} (r : BayRecord) (hk : (tableGet s.sensors k).isSome = true) :
    sensorIn (listening r s) k = { sensorIn s k with since := s.now } := by
  obtain ⟨i, hi⟩ := Option.isSome_iff_exists.1 hk
  simp only [sensorIn, listening, refreshRelay, State.withFaults, tableGet_map, hi]
  rfl

theorem selfTestEnd_passes {s : State} (hp : s.start.phase = .selfTest) (hf : s.faults = Faults.clear)
    (hst : s.store.status ≠ .none) {bytes : List Byte} (hb : s.store.stored = some bytes)
    (hc : checkRecord bytes = none) :
    ∃ t, exec .selfTestEnd s = .next t ∧
      t.start = { s.start with phase := .listen, listen := some (s.now + 6000) } ∧
      t.store = { status := .inForce, stored := some bytes, failing := none } ∧
      t.copy = some (parseRecord bytes) ∧ t.view.joining = false ∧ t.req.lastLocal = none ∧
      t.req.queue = s.req.queue ∧ t.faults.relay = false ∧ t.counters = s.counters ∧ t.drive = s.drive ∧
      t.claims = s.claims ∧ t.port = s.port ∧ t.now = s.now ∧
      (∀ k, (objIn t k).position = (objIn s k).position ∧ (objIn t k).qualified = (objIn s k).qualified) ∧
      (∀ k, (tableGet s.objects k).isSome = true → objIn t k = { objIn s k with since := s.now, readySince := s.now }) ∧
      ∀ k, (tableGet s.sensors k).isSome = true → sensorIn t k = { sensorIn s k with since := s.now } := by
  set x := storeInForce s with hx
  obtain ⟨hrelay, hjoining, htouch⟩ := enterListen_spec (parseRecord bytes) (s := x) hf
  refine ⟨enterListen (parseRecord bytes) x, by rw [exec_selfTestEnd hp, endSelfTest_passes hst hb hc], ?_⟩
  revert hrelay hjoining htouch
  generalize enterListen (parseRecord bytes) x = t
  intro hrelay hjoining htouch
  have hreq : t.req = _ := htouch .req (by decide)
  have hobj (k : Nat) : objIn t k = objIn (listening (parseRecord bytes) x) k :=
    congrArg (fun o : Table ObjIn => (tableGet o k).getD {}) (htouch .objects (by decide))
  have hsens (k : Nat) : sensorIn t k = sensorIn (listening (parseRecord bytes) x) k :=
    congrArg (fun o : Table SensorIn => (tableGet o k).getD {}) (htouch .sensors (by decide))
  refine ⟨htouch .start (by decide), Eq.trans (htouch .store (by decide)) ?_, htouch .copy (by decide), hjoining,
    by rw [hreq]; rfl, by rw [hreq]; rfl, hrelay, htouch .counters (by decide), htouch .drive (by decide),
    htouch .claims (by decide), htouch .port (by decide), htouch .now (by decide), fun k => ?_, fun k hk => ?_,
    fun k hk => ?_⟩
  · rw [← hb]
    rfl
  · obtain ⟨hqual, hpos⟩ := listening_contactsStay (parseRecord bytes) x k
    rw [hobj]
    exact ⟨hpos, hqual⟩
  · exact (hobj k).trans (objIn_started (s := x) _ hk)
  · exact (hsens k).trans (sensorIn_started (s := x) _ hk)

theorem selfTestEnd_fails {s : State} (hp : s.start.phase = .selfTest) (hf : s.faults = Faults.clear)
    (hcopy : s.copy = none) (hst : s.store.status ≠ .none) {bytes : List Byte} (hb : s.store.stored = some bytes)
    {p : Place} (hc : checkRecord bytes = some p) :
    ∃ t, exec .selfTestEnd s = .next t ∧ t.start = { s.start with phase := .unconfigured } ∧
      t.store = { status := .rejected, stored := some bytes, failing := some p } ∧ t.copy = none ∧
      t.faults = { pending := causeBit .configInvalid, holding := causeBit .configInvalid, relay := true } ∧
      Touches [.start, .store, .faults] s t := by
  set x := enterUnconfigured (storeRejected p s) with hx
  have hsx : Touches [.start, .store] s x := ((touches_withStore s _).trans (touches_withStart _ _)).mono (by decide)
  have hend := endSelfTest_fails hst hb hc
  rw [beginConfigInvalid (s := x) hf hcopy] at hend
  refine ⟨_, (exec_selfTestEnd hp).trans (congrArg Host.Outcome.next hend), rfl, ?_, hcopy, rfl,
    (hsx.trans (touches_withFaults _ _)).mono (by decide)⟩
  rw [← hb]
  rfl

/-- Settles O6. -/
theorem selfTestEndJudgesTheStore : Obligations.SelfTestEndJudgesTheStore := by
  refine ⟨fun s hp hf hcopy => ⟨fun hst => ?_, fun hst bytes hb p hc => selfTestEnd_fails hp hf hcopy hst hb hc,
      fun hst bytes hb hc => selfTestEnd_passes hp hf hst hb hc⟩,
    fun r hlen => ⟨checkRecord_passes_iff hlen, fun p => checkRecord_fails_iff hlen p⟩,
    fun r h => ⟨recordBytes_length h, checkRecord_recordBytes h, parseRecord_recordBytes h⟩⟩
  exact ⟨_, (exec_selfTestEnd hp).trans (congrArg Host.Outcome.next (endSelfTest_none hst)), rfl, touches_withStart s _⟩

end Sys2Proof.Machine
